-- ==== Sys2Proof/Word.lean ====
section
/-! DEFINITION. The word types of the JS208: bytes of a frame, 16-bit fields and 32-bit values. -/

namespace Sys2Proof

/-- One byte of a frame, and any 8-bit field (R179). -/
abbrev Byte := BitVec 8

/-- A 16-bit field: wait limits, session numbers, limits, statistics (R179). -/
abbrev Half := BitVec 16

/-- A 32-bit value: cell values, entry values, guard operands, the timebase (00_scope.md, Conventions). -/
abbrev Word := BitVec 32

end Sys2Proof
end

