-- ==== Sys2Proof/Syntax.lean ====
section
/-! DEFINITION. The requests a client can send, with their fields, and the commands of the part: one constructor of
`Instr` per row of spec/opcode_table.json. -/

namespace Sys2Proof

/-- A port, or its link, 0 to 7 (00_scope.md, Conventions). -/
abbrev Port := Fin 8

/-- A tag of a port, 0 to 3 (R106). -/
abbrev Tag := Fin 4

/-- A generation, 0 to 63 (R177). -/
abbrev Gen := Fin 64

/-- A slot of the object table, 0 to 255 (R4). -/
abbrev SlotNo := Fin 256

/-- The characters of a label, in order. A label of 0 characters means that none is given (R179). -/
abbrev Label := List Byte

/-- The level of a pin. Mark is high and space is low (R146). -/
inductive Level where
  | mark
  | space
  deriving DecidableEq, Repr

/-- An input pin that is driven from outside while the part runs: a link input, RXD0 to RXD7, or a rate strap (R147,
R148, the pin table of 08_client_links.md; log 27). -/
inductive InputPin where
  | link (p : Port)
  | ratesel1
  | ratesel0
  deriving DecidableEq, Repr

/-- The levels of the rate straps RATESEL1 and RATESEL0 (R147); mark stands for high. -/
structure Straps where
  sel1 : Level
  sel0 : Level
  deriving DecidableEq, Repr

/-- A handle: a slot number and a stamp (R5). -/
structure Handle where
  slot : SlotNo
  stamp : Byte
  deriving DecidableEq, Repr

/-- Who sent a request: its port, tag and generation (R1, R177). -/
structure Sender where
  port : Port
  tag : Tag
  gen : Gen
  deriving DecidableEq, Repr

/-- The order policy of a cell (R22, R38). -/
inductive Order where
  | strict
  | passing
  deriving DecidableEq, Repr

/-- The twelve guard relations (R42). -/
inductive Relation where
  | none
  | eq
  | ne
  | lt
  | le
  | gt
  | ge
  | ltu
  | geu
  | allset
  | anyset
  | allclear
  deriving DecidableEq, Repr

/-- A guard: a relation and a 32-bit operand (R42). -/
structure Guard where
  relation : Relation
  operand : Word
  deriving DecidableEq, Repr

/-- The eight cell operations with their operands (R23). Position and size are the bytes sent (R182). -/
inductive CellOp where
  | read
  | exchange (newValue : Word)
  | add (addend : Word)
  | setmask (mask : Word)
  | clearmask (mask : Word)
  | compareswap (expected newValue : Word)
  | extract (pos size : Byte) (signed : Bool)
  | insert (pos size : Byte) (field : Word)
  deriving DecidableEq, Repr

/-- The end of a queue that a PUT or TAKE names (R71, R75). -/
inductive QueueEnd where
  | head
  | tail
  deriving DecidableEq, Repr

/-- The slot field of CREATE: one slot, or "any" (R11). -/
inductive SlotChoice where
  | slot (n : SlotNo)
  | any
  deriving DecidableEq, Repr

/-- The kind and kind parameters of CREATE (R11). -/
inductive KindParams where
  | cell (initial : Word) (order : Order)
  | queue (limit reserve : Half)
  | lock
  deriving DecidableEq, Repr

/-- A rights set (R162). -/
structure Rights where
  create : Bool
  delete : Bool
  admin : Bool
  deriving DecidableEq, Repr

/-- A well-formed request as the port unit's decode reads it, numbers not yet tested for their ranges (R109, R182). -/
inductive Request where
  | nop
  | identify
  | queryTags
  | openSession (silence : Half) (label : Label)
  | closeSession
  | create (slot : SlotChoice) (access : Byte) (isScoped : Bool) (kind : KindParams) (label : Label)
  | delete (h : Handle)
  | describe (h : Handle)
  | find (label : Label)
  | setAccess (h : Handle) (access : Byte)
  | cell (h : Handle) (op : CellOp) (guard : Guard) (wait : Half)
  | setOrder (h : Handle) (order : Order)
  | put (h : Handle) (side : QueueEnd) (value : Word) (wait : Half)
  | take (h : Handle) (side : QueueEnd) (wait : Half)
  | peek (h : Handle) (index : Half)
  | flush (h : Handle)
  | setQueueLimits (h : Handle) (limit reserve : Half)
  | acquire (h : Handle) (wait : Half)
  | release (h : Handle)
  | restore (h : Handle)
  | cancel (target : Tag)
  | setRights (target : Byte) (rights : Rights)
  | forceClose (target : Byte)
  | storeClear
  | readAlerts
  | stats (target : Byte) (clear : Bool)
  | setPoolMark (mark : Half)
  | partReset
  deriving DecidableEq, Repr

/-- The commands of the part, one per row of spec/opcode_table.json, in the table's order. A request of the store
carries its sender and the fields of R182; the command is the store job that the arbiter takes for it. -/
inductive Instr where
  | supplyPowerUp (resetn : Level) (straps : Straps)
  | powerOnReset (straps : Straps)
  | frameReceived (p : Port) (check : Byte)
  | gapError (p : Port)
  | lineBreak (p : Port)
  | nop (q : Sender)
  | identify (q : Sender)
  | queryTags (q : Sender)
  | openSession (q : Sender) (silence : Half) (label : Label)
  | closeSession (q : Sender)
  | create (q : Sender) (slot : SlotChoice) (access : Byte) (isScoped : Bool) (kind : KindParams) (label : Label)
  | delete (q : Sender) (h : Handle)
  | describe (q : Sender) (h : Handle)
  | find (q : Sender) (label : Label)
  | setAccess (q : Sender) (h : Handle) (access : Byte)
  | read (q : Sender) (h : Handle) (guard : Guard) (wait : Half)
  | exchange (q : Sender) (h : Handle) (guard : Guard) (wait : Half) (newValue : Word)
  | add (q : Sender) (h : Handle) (guard : Guard) (wait : Half) (addend : Word)
  | setmask (q : Sender) (h : Handle) (guard : Guard) (wait : Half) (mask : Word)
  | clearmask (q : Sender) (h : Handle) (guard : Guard) (wait : Half) (mask : Word)
  | compareswap (q : Sender) (h : Handle) (guard : Guard) (wait : Half) (expected newValue : Word)
  | extract (q : Sender) (h : Handle) (guard : Guard) (wait : Half) (pos size : Byte) (signed : Bool)
  | insert (q : Sender) (h : Handle) (guard : Guard) (wait : Half) (pos size : Byte) (field : Word)
  | setOrder (q : Sender) (h : Handle) (order : Order)
  | put (q : Sender) (h : Handle) (side : QueueEnd) (value : Word) (wait : Half)
  | take (q : Sender) (h : Handle) (side : QueueEnd) (wait : Half)
  | peek (q : Sender) (h : Handle) (index : Half)
  | flush (q : Sender) (h : Handle)
  | setQueueLimits (q : Sender) (h : Handle) (limit reserve : Half)
  | acquire (q : Sender) (h : Handle) (wait : Half)
  | release (q : Sender) (h : Handle)
  | restore (q : Sender) (h : Handle)
  | cancel (q : Sender) (target : Tag)
  | setRights (q : Sender) (target : Byte) (rights : Rights)
  | forceClose (q : Sender) (target : Byte)
  | storeClear (q : Sender)
  | readAlerts (q : Sender)
  | stats (q : Sender) (target : Byte) (clear : Bool)
  | setPoolMark (q : Sender) (mark : Half)
  | partReset (q : Sender)
  | deadlineDue
  | expiryJob
  | lapse (p : Port)
  | teardown (p : Port)
  | transmitStart (p : Port)
  | frameSent (p : Port)
  | characterReceived (p : Port) (byte : Byte)
  | inputLevelChange (pin : InputPin) (level : Level)
  | timebaseTick
  deriving DecidableEq, Repr

/-- The request that a command carries, for the commands that are requests of a client. -/
def Instr.request? : Instr → Option (Sender × Request)
  | .nop q => some (q, .nop)
  | .identify q => some (q, .identify)
  | .queryTags q => some (q, .queryTags)
  | .openSession q silence label => some (q, .openSession silence label)
  | .closeSession q => some (q, .closeSession)
  | .create q slot access isScoped kind label => some (q, .create slot access isScoped kind label)
  | .delete q h => some (q, .delete h)
  | .describe q h => some (q, .describe h)
  | .find q label => some (q, .find label)
  | .setAccess q h access => some (q, .setAccess h access)
  | .read q h g w => some (q, .cell h .read g w)
  | .exchange q h g w v => some (q, .cell h (.exchange v) g w)
  | .add q h g w a => some (q, .cell h (.add a) g w)
  | .setmask q h g w m => some (q, .cell h (.setmask m) g w)
  | .clearmask q h g w m => some (q, .cell h (.clearmask m) g w)
  | .compareswap q h g w e n => some (q, .cell h (.compareswap e n) g w)
  | .extract q h g w pos size signed => some (q, .cell h (.extract pos size signed) g w)
  | .insert q h g w pos size field => some (q, .cell h (.insert pos size field) g w)
  | .setOrder q h order => some (q, .setOrder h order)
  | .put q h side value w => some (q, .put h side value w)
  | .take q h side w => some (q, .take h side w)
  | .peek q h index => some (q, .peek h index)
  | .flush q h => some (q, .flush h)
  | .setQueueLimits q h limit reserve => some (q, .setQueueLimits h limit reserve)
  | .acquire q h w => some (q, .acquire h w)
  | .release q h => some (q, .release h)
  | .restore q h => some (q, .restore h)
  | .cancel q target => some (q, .cancel target)
  | .setRights q target rights => some (q, .setRights target rights)
  | .forceClose q target => some (q, .forceClose target)
  | .storeClear q => some (q, .storeClear)
  | .readAlerts q => some (q, .readAlerts)
  | .stats q target clear => some (q, .stats target clear)
  | .setPoolMark q mark => some (q, .setPoolMark mark)
  | .partReset q => some (q, .partReset)
  | .supplyPowerUp _ _ => none
  | .powerOnReset _ => none
  | .frameReceived _ _ => none
  | .gapError _ => none
  | .lineBreak _ => none
  | .deadlineDue => none
  | .expiryJob => none
  | .lapse _ => none
  | .teardown _ => none
  | .transmitStart _ => none
  | .frameSent _ => none
  | .characterReceived _ _ => none
  | .inputLevelChange _ _ => none
  | .timebaseTick => none

end Sys2Proof
end

