-- ==== Sys2Proof/WellFormed.lean ====
section
/-! DEFINITION. Which requests and commands can be written as a frame body: the types bound every field but labels,
whose length R180 bounds. -/

namespace Sys2Proof

/-- A label field has at most 8 characters (R7, R109, R180). -/
def Label.fits (label : Label) : Bool := label.length ≤ 8

/-- A request has a body of a length that R180 allows. -/
def Request.wellFormed : Request → Bool
  | .openSession _ label => label.fits
  | .create _ _ _ _ label => label.fits
  | .find label => label.fits
  | _ => true

/-- A command is well formed when the request it carries, if any, is. -/
def Instr.wellFormed (i : Instr) : Bool :=
  match i.request? with
  | some (_, r) => r.wellFormed
  | none => true

end Sys2Proof
end

