-- ==== Sys2Proof/Decode.lean ====
section
/-! DEFINITION. Reading a request from a frame body (check 1 of the decode, R108, R109), the encoder of requests, and
the table words of the host's interface. The layouts are those of R177 and R179 to R182. -/

namespace Sys2Proof

/-! ### Bytes of wider fields, most significant byte first (R179) -/

/-- The 16-bit field written as two bytes. -/
def halfOfBytes (hi lo : Byte) : Half := hi ++ lo

/-- The 32-bit value written as four bytes. -/
def wordOfBytes (b3 b2 b1 b0 : Byte) : Word := b3 ++ b2 ++ b1 ++ b0

/-- The two bytes of a 16-bit field (R179). -/
def halfBytes (x : Half) : List Byte := [x.extractLsb' 8 8, x.extractLsb' 0 8]

/-- The four bytes of a 32-bit value (R179). -/
def wordBytes (x : Word) : List Byte :=
  [x.extractLsb' 24 8, x.extractLsb' 16 8, x.extractLsb' 8 8, x.extractLsb' 0 8]

/-! ### The request header (R177) -/

/-- The tag of header byte 1: bits 7 and 6. -/
def headerTag (b : Byte) : Tag := ⟨b.toNat / 64, by have := b.isLt; omega⟩

/-- The generation of header byte 1: bits 5 to 0. -/
def headerGen (b : Byte) : Gen := ⟨b.toNat % 64, by omega⟩

/-- Header byte 1: the tag multiplied by 64, plus the generation. -/
def packTagGen (t : Tag) (g : Gen) : Byte := BitVec.ofNat 8 (t.val * 64 + g.val)

/-! ### Codes of named values (R180, R181) -/

/-- The request codes of R180. -/
inductive RequestCode where
  | nop
  | identify
  | openSession
  | closeSession
  | queryTags
  | create
  | delete
  | describe
  | find
  | setAccess
  | cellOp
  | setOrder
  | put
  | take
  | peek
  | flush
  | setQueueLimits
  | acquire
  | release
  | restore
  | cancel
  | setRights
  | forceClose
  | storeClear
  | readAlerts
  | stats
  | setPoolMark
  | partReset
  deriving DecidableEq, Repr

/-- The byte of a request code (R180). -/
def RequestCode.byte : RequestCode → Byte
  | .nop => 0x01#8
  | .identify => 0x02#8
  | .openSession => 0x03#8
  | .closeSession => 0x04#8
  | .queryTags => 0x05#8
  | .create => 0x10#8
  | .delete => 0x11#8
  | .describe => 0x12#8
  | .find => 0x13#8
  | .setAccess => 0x14#8
  | .cellOp => 0x20#8
  | .setOrder => 0x21#8
  | .put => 0x30#8
  | .take => 0x31#8
  | .peek => 0x32#8
  | .flush => 0x33#8
  | .setQueueLimits => 0x34#8
  | .acquire => 0x40#8
  | .release => 0x41#8
  | .restore => 0x42#8
  | .cancel => 0x48#8
  | .setRights => 0x50#8
  | .forceClose => 0x51#8
  | .storeClear => 0x52#8
  | .readAlerts => 0x53#8
  | .stats => 0x54#8
  | .setPoolMark => 0x55#8
  | .partReset => 0x56#8

/-- Every request code of R180, in its order. -/
def RequestCode.all : List RequestCode :=
  [.nop, .identify, .openSession, .closeSession, .queryTags, .create, .delete, .describe, .find, .setAccess, .cellOp,
   .setOrder, .put, .take, .peek, .flush, .setQueueLimits, .acquire, .release, .restore, .cancel, .setRights,
   .forceClose, .storeClear, .readAlerts, .stats, .setPoolMark, .partReset]

/-- The request code a byte names, if any (R109, R180). -/
def requestCodeOf (b : Byte) : Option RequestCode := RequestCode.all.find? (fun c => c.byte == b)

/-- A flag field: 00h clear, 01h set (R179). -/
def flagOf (b : Byte) : Option Bool :=
  if b = 0x00#8 then some false else if b = 0x01#8 then some true else none

/-- The byte of a flag field. -/
def flagByte (f : Bool) : Byte := if f then 0x01#8 else 0x00#8

/-- An order policy code (R181). -/
def orderOf (b : Byte) : Option Order :=
  if b = 0x00#8 then some .strict else if b = 0x01#8 then some .passing else none

/-- The byte of an order policy. -/
def Order.byte : Order → Byte
  | .strict => 0x00#8
  | .passing => 0x01#8

/-- A queue end code (R181). -/
def queueEndOf (b : Byte) : Option QueueEnd :=
  if b = 0x00#8 then some .head else if b = 0x01#8 then some .tail else none

/-- The byte of a queue end. -/
def QueueEnd.byte : QueueEnd → Byte
  | .head => 0x00#8
  | .tail => 0x01#8

/-- The byte of a guard relation (R181). -/
def Relation.byte : Relation → Byte
  | .none => 0x00#8
  | .eq => 0x01#8
  | .ne => 0x02#8
  | .lt => 0x03#8
  | .le => 0x04#8
  | .gt => 0x05#8
  | .ge => 0x06#8
  | .ltu => 0x07#8
  | .geu => 0x08#8
  | .allset => 0x09#8
  | .anyset => 0x0A#8
  | .allclear => 0x0B#8

/-- Every guard relation of R42, in its order. -/
def Relation.all : List Relation :=
  [.none, .eq, .ne, .lt, .le, .gt, .ge, .ltu, .geu, .allset, .anyset, .allclear]

/-- The guard relation a byte names, if any (R181). -/
def relationOf (b : Byte) : Option Relation := Relation.all.find? (fun r => r.byte == b)

/-- A rights set: bit 0 CREATE, bit 1 DELETE, bit 2 ADMIN, bits 3 to 7 at 0 (R179, R181). -/
def rightsOf (b : Byte) : Option Rights :=
  if b.extractLsb' 3 5 = 0#5 then
    some ⟨b.getLsbD 0, b.getLsbD 1, b.getLsbD 2⟩
  else none

/-- The byte of a rights set. -/
def Rights.byte (r : Rights) : Byte :=
  BitVec.ofNat 8 (r.create.toNat + 2 * r.delete.toNat + 4 * r.admin.toNat)

/-- The slot field of CREATE: 0000h to 00FFh that slot, FFFFh any (R181). -/
def slotChoiceOf (hi lo : Byte) : Option SlotChoice :=
  if hi = 0x00#8 then some (.slot ⟨lo.toNat, lo.isLt⟩)
  else if hi = 0xFF#8 ∧ lo = 0xFF#8 then some .any else none

/-- The two bytes of CREATE's slot field. -/
def SlotChoice.bytes : SlotChoice → List Byte
  | .slot n => [0x00#8, BitVec.ofNat 8 n.val]
  | .any => [0xFF#8, 0xFF#8]

/-- A tag in a field of its own, 00h to 03h (R181). -/
def targetTagOf (b : Byte) : Option Tag := if h : b.toNat < 4 then some ⟨b.toNat, h⟩ else none

/-- A handle: slot, then stamp (R179). -/
def handleOf (slot stamp : Byte) : Handle := ⟨⟨slot.toNat, slot.isLt⟩, stamp⟩

/-- The two bytes of a handle. -/
def Handle.bytes (h : Handle) : List Byte := [BitVec.ofNat 8 h.slot.val, h.stamp]

/-! ### Fields after the header (R182) -/

/-- The operation of CELL_OP with its operands; bytes "not examined" play no part (R181, R182). -/
def cellOpOf (op a0 a1 a2 a3 b0 b1 b2 b3 : Byte) : Option CellOp :=
  let operandA := wordOfBytes a0 a1 a2 a3
  let operandB := wordOfBytes b0 b1 b2 b3
  if op = 0x00#8 then some .read
  else if op = 0x01#8 then some (.exchange operandA)
  else if op = 0x02#8 then some (.add operandA)
  else if op = 0x03#8 then some (.setmask operandA)
  else if op = 0x04#8 then some (.clearmask operandA)
  else if op = 0x05#8 then some (.compareswap operandA operandB)
  else if op = 0x06#8 then (flagOf a2).map (CellOp.extract a0 a1)
  else if op = 0x07#8 then some (.insert a0 a1 operandB)
  else none

/-- Operation code and the bytes of operands A and B; bytes not examined are written 00h (R182). -/
def CellOp.encode : CellOp → Byte × List Byte
  | .read => (0x00#8, wordBytes 0#32 ++ wordBytes 0#32)
  | .exchange v => (0x01#8, wordBytes v ++ wordBytes 0#32)
  | .add a => (0x02#8, wordBytes a ++ wordBytes 0#32)
  | .setmask m => (0x03#8, wordBytes m ++ wordBytes 0#32)
  | .clearmask m => (0x04#8, wordBytes m ++ wordBytes 0#32)
  | .compareswap e n => (0x05#8, wordBytes e ++ wordBytes n)
  | .extract pos size signed => (0x06#8, [pos, size, flagByte signed, 0x00#8] ++ wordBytes 0#32)
  | .insert pos size field => (0x07#8, [pos, size, 0x00#8, 0x00#8] ++ wordBytes field)

/-- Kind and kind parameters of CREATE; the order policy is tested only for a cell (R181, R182). -/
def kindParamsOf (kind p0 p1 p2 p3 p4 : Byte) : Option KindParams :=
  if kind = 0x01#8 then (orderOf p4).map (KindParams.cell (wordOfBytes p0 p1 p2 p3))
  else if kind = 0x02#8 then some (.queue (halfOfBytes p0 p1) (halfOfBytes p2 p3))
  else if kind = 0x03#8 then some .lock
  else none

/-- The kind byte and the six bytes of kind parameters (R182). -/
def KindParams.encode : KindParams → Byte × List Byte
  | .cell v order => (0x01#8, wordBytes v ++ [order.byte, 0x00#8])
  | .queue limit reserve => (0x02#8, halfBytes limit ++ halfBytes reserve ++ [0x00#8, 0x00#8])
  | .lock => (0x03#8, [0x00#8, 0x00#8, 0x00#8, 0x00#8, 0x00#8, 0x00#8])

/-- A label field of 0 to 8 characters (R109). -/
def labelOf (bytes : List Byte) : Option Label := if Label.fits bytes then some bytes else none

/-- The request a body's fields spell, or none where the body is malformed: a wrong length or an undefined code of a
named value (R109, R180 to R182). -/
def requestOf (code : RequestCode) (fields : List Byte) : Option Request :=
  match code with
  | .nop => match fields with | [] => some .nop | _ => none
  | .identify => match fields with | [] => some .identify | _ => none
  | .queryTags => match fields with | [] => some .queryTags | _ => none
  | .closeSession => match fields with | [] => some .closeSession | _ => none
  | .storeClear => match fields with | [] => some .storeClear | _ => none
  | .readAlerts => match fields with | [] => some .readAlerts | _ => none
  | .partReset => match fields with | [] => some .partReset | _ => none
  | .openSession =>
    match fields with
    | s1 :: s0 :: label => (labelOf label).map (Request.openSession (halfOfBytes s1 s0))
    | _ => none
  | .create =>
    match fields with
    | kind :: n1 :: n0 :: access :: flag :: p0 :: p1 :: p2 :: p3 :: p4 :: _ :: label =>
      match slotChoiceOf n1 n0, flagOf flag, kindParamsOf kind p0 p1 p2 p3 p4, labelOf label with
      | some slot, some isScoped, some params, some l => some (.create slot access isScoped params l)
      | _, _, _, _ => none
    | _ => none
  | .delete => match fields with | [n, s] => some (.delete (handleOf n s)) | _ => none
  | .describe => match fields with | [n, s] => some (.describe (handleOf n s)) | _ => none
  | .flush => match fields with | [n, s] => some (.flush (handleOf n s)) | _ => none
  | .release => match fields with | [n, s] => some (.release (handleOf n s)) | _ => none
  | .restore => match fields with | [n, s] => some (.restore (handleOf n s)) | _ => none
  | .find => (labelOf fields).map Request.find
  | .setAccess => match fields with | [n, s, set] => some (.setAccess (handleOf n s) set) | _ => none
  | .cellOp =>
    match fields with
    | [n, s, op, rel, g3, g2, g1, g0, w1, w0, a0, a1, a2, a3, b0, b1, b2, b3] =>
      match cellOpOf op a0 a1 a2 a3 b0 b1 b2 b3, relationOf rel with
      | some o, some r => some (.cell (handleOf n s) o ⟨r, wordOfBytes g3 g2 g1 g0⟩ (halfOfBytes w1 w0))
      | _, _ => none
    | _ => none
  | .setOrder =>
    match fields with | [n, s, o] => (orderOf o).map (Request.setOrder (handleOf n s)) | _ => none
  | .put =>
    match fields with
    | [n, s, e, v3, v2, v1, v0, w1, w0] =>
      (queueEndOf e).map (fun side => .put (handleOf n s) side (wordOfBytes v3 v2 v1 v0) (halfOfBytes w1 w0))
    | _ => none
  | .take =>
    match fields with
    | [n, s, e, w1, w0] => (queueEndOf e).map (fun side => .take (handleOf n s) side (halfOfBytes w1 w0))
    | _ => none
  | .peek => match fields with | [n, s, i1, i0] => some (.peek (handleOf n s) (halfOfBytes i1 i0)) | _ => none
  | .setQueueLimits =>
    match fields with
    | [n, s, l1, l0, r1, r0] => some (.setQueueLimits (handleOf n s) (halfOfBytes l1 l0) (halfOfBytes r1 r0))
    | _ => none
  | .acquire => match fields with | [n, s, w1, w0] => some (.acquire (handleOf n s) (halfOfBytes w1 w0)) | _ => none
  | .cancel => match fields with | [t] => (targetTagOf t).map Request.cancel | _ => none
  | .setRights => match fields with | [p, r] => (rightsOf r).map (Request.setRights p) | _ => none
  | .forceClose => match fields with | [p] => some (.forceClose p) | _ => none
  | .stats => match fields with | [p, c] => (flagOf c).map (Request.stats p) | _ => none
  | .setPoolMark => match fields with | [m1, m0] => some (.setPoolMark (halfOfBytes m1 m0)) | _ => none

/-- What check 1 of the decode makes of a body (R108, R109). -/
inductive Decoded where
  /-- No body of fewer than 2 bytes reaches a port unit (R149). -/
  | short
  /-- BAD_REQUEST, echoing the code byte, tag and generation as received (R178). -/
  | malformed (code : Byte) (tag : Tag) (gen : Gen)
  /-- A well-formed request. -/
  | request (tag : Tag) (gen : Gen) (r : Request)
  deriving DecidableEq, Repr

/-- Check 1 of the decode: the header is always read, then code, length and fields are tested (R109, R177). -/
def decodeBody : List Byte → Decoded
  | code :: packed :: fields =>
    match requestCodeOf code with
    | some c =>
      match requestOf c fields with
      | some r => .request (headerTag packed) (headerGen packed) r
      | none => .malformed code (headerTag packed) (headerGen packed)
    | none => .malformed code (headerTag packed) (headerGen packed)
  | _ => .short

/-! ### The encoder (R177, R179 to R182) -/

/-- The code that selects a request (R180). -/
def Request.code : Request → RequestCode
  | .nop => .nop
  | .identify => .identify
  | .queryTags => .queryTags
  | .openSession _ _ => .openSession
  | .closeSession => .closeSession
  | .create _ _ _ _ _ => .create
  | .delete _ => .delete
  | .describe _ => .describe
  | .find _ => .find
  | .setAccess _ _ => .setAccess
  | .cell _ _ _ _ => .cellOp
  | .setOrder _ _ => .setOrder
  | .put _ _ _ _ => .put
  | .take _ _ _ => .take
  | .peek _ _ => .peek
  | .flush _ => .flush
  | .setQueueLimits _ _ _ => .setQueueLimits
  | .acquire _ _ => .acquire
  | .release _ => .release
  | .restore _ => .restore
  | .cancel _ => .cancel
  | .setRights _ _ => .setRights
  | .forceClose _ => .forceClose
  | .storeClear => .storeClear
  | .readAlerts => .readAlerts
  | .stats _ _ => .stats
  | .setPoolMark _ => .setPoolMark
  | .partReset => .partReset

/-- The fields after the header, bytes not examined written 00h (R182). -/
def Request.fields : Request → List Byte
  | .nop => []
  | .identify => []
  | .queryTags => []
  | .closeSession => []
  | .storeClear => []
  | .readAlerts => []
  | .partReset => []
  | .openSession silence label => halfBytes silence ++ label
  | .create slot access isScoped kind label =>
    [kind.encode.1] ++ slot.bytes ++ [access, flagByte isScoped] ++ kind.encode.2 ++ label
  | .delete h => h.bytes
  | .describe h => h.bytes
  | .flush h => h.bytes
  | .release h => h.bytes
  | .restore h => h.bytes
  | .find label => label
  | .setAccess h access => h.bytes ++ [access]
  | .cell h op guard wait =>
    h.bytes ++ [op.encode.1, guard.relation.byte] ++ wordBytes guard.operand ++ halfBytes wait ++ op.encode.2
  | .setOrder h order => h.bytes ++ [order.byte]
  | .put h side value wait => h.bytes ++ [side.byte] ++ wordBytes value ++ halfBytes wait
  | .take h side wait => h.bytes ++ [side.byte] ++ halfBytes wait
  | .peek h index => h.bytes ++ halfBytes index
  | .setQueueLimits h limit reserve => h.bytes ++ halfBytes limit ++ halfBytes reserve
  | .acquire h wait => h.bytes ++ halfBytes wait
  | .cancel target => [BitVec.ofNat 8 target.val]
  | .setRights target rights => [target, rights.byte]
  | .forceClose target => [target]
  | .stats target clear => [target, flagByte clear]
  | .setPoolMark mark => halfBytes mark

/-- The whole body of a request on a tag with a generation (R177, R182). -/
def encodeBody (t : Tag) (g : Gen) (r : Request) : List Byte :=
  r.code.byte :: packTagGen t g :: r.fields

/-! ### The host's table words -/

/-- The table gives bits for no row, so no word spells a command. -/
def decodeTableWord (_nbits _w : Nat) : Option Instr := none

end Sys2Proof
end

