-- ==== Sys2Proof/Config.lean ====
section
/-! DEFINITION. What the part fixes: its sizes, its time bounds and its identity. The spec leaves no value of an
operation open, so no free value stands here. -/

namespace Sys2Proof.Config

/-- The entries of the pool (R65). -/
def poolEntries : Nat := 2048

/-- The most alert records the alert list holds (R169). -/
def alertSlots : Nat := 8

/-- The most alerts one READ_ALERTS removes (R171). -/
def alertsPerRead : Nat := 4

/-- Where the dropped count stays (R169). -/
def droppedMax : Nat := 255

/-- The most untracked frames in one transmit queue (R118). -/
def untrackedMax : Nat := 4

/-- The greatest hold count of a lock (R89, R93). -/
def holdMax : Nat := 255

/-- The start byte of a frame (R149). -/
def startByte : Byte := 0x5A#8

/-- The gap limit within a frame, in ms (R154). -/
def gapLimit : Word := 1#32

/-- How long an input stays at space before a break is reported, in ms (R155). -/
def breakTime : Word := 2#32

/-- The vendor code of Ombrow (R183). -/
def vendorCode : Half := 0x3A71#16

/-- The part code of the JS208 (R183). -/
def partCode : Half := 0x0208#16

/-- The revision of the part this edition describes (R183). -/
def revision : Byte := 0x01#8

end Sys2Proof.Config
end

