-- ==== Sys2Proof/Machine/State.lean ====
section
/-! DEFINITION. The state of the part, every piece that the spec names, as plain data; its value after reset; and the
reasons a step can stop. -/

namespace Sys2Proof.Machine

/-! ### Replies (R120, R178, R183, R184) -/

/-- The statuses of R184. -/
inductive Status where
  | ok
  | badRequest
  | noSession
  | closing
  | tagBusy
  | sessionOpen
  | noObject
  | wrongKind
  | noAccess
  | fault
  | noRight
  | range
  | slotTaken
  | storeFull
  | labelTaken
  | noSpace
  | lastAdmin
  | notOwner
  | limit
  | guardFalse
  | empty
  | full
  | held
  | timeout
  | cancelled
  | deleted
  | notWaiting
  deriving DecidableEq, Repr

/-- The reply flags but A (R121): N, Z, V, C of a cell action, W waited, D damaged. -/
structure Flags where
  n : Bool
  z : Bool
  v : Bool
  c : Bool
  w : Bool
  d : Bool
  deriving DecidableEq, Repr

/-- The session states of R127. -/
inductive SessionState where
  | closed
  | opened
  | closing
  deriving DecidableEq, Repr

/-- How a port's most recent session ended (R127). -/
inductive EndCause where
  | none
  | closed
  | lapsed
  | broken
  | forced
  deriving DecidableEq, Repr

/-- A tag's state, with the generation of the request it carries (R106, R111). -/
inductive TagState where
  | idle
  | pending (gen : Gen)
  | waiting (gen : Gen)
  | replying (gen : Gen)
  deriving DecidableEq, Repr

/-- The kinds of object (R8). -/
inductive Kind where
  | cell
  | queue
  | lock
  deriving DecidableEq, Repr

/-- A session, named by its port and its session number (R128). -/
structure SessionId where
  port : Port
  number : Half
  deriving DecidableEq, Repr

/-- The kind data of a DESCRIBE reply (R15, R183). -/
inductive KindData where
  | cell (value : Word) (order : Order)
  | queue (depth limit reserve : Nat)
  | lock (holder : Option SessionId) (count : Nat) (damaged : Bool)
  deriving DecidableEq, Repr

/-- What an alert record says besides its time (R170). -/
inductive AlertKind where
  | quarantine (h : Handle)
  | lapsed (s : SessionId)
  | broken (s : SessionId)
  | forced (s : SessionId)
  | poolLow (free : Nat)
  deriving DecidableEq, Repr

/-- An alert record (R170). -/
structure Alert where
  kind : AlertKind
  time : Word
  deriving DecidableEq, Repr

/-- The eleven statistics of a port, in the order of R158; each saturates at 65,535. -/
structure Statistics where
  framesAccepted : Half
  checkErrors : Half
  lengthErrors : Half
  gapErrors : Half
  breaks : Half
  refusalsSent : Half
  refusalsDropped : Half
  duplicates : Half
  replays : Half
  sessionsOpened : Half
  lapses : Half
  deriving DecidableEq, Repr

/-- The data of a reply after its header, one constructor per layout of R183. -/
inductive ReplyData where
  | none
  | tagBusy (state : TagState)
  | identify (port : Port)
  | tags (report : List (TagState × Option Gen))
  | session (number : Half) (port : Port) (silence : Half) (previous : EndCause)
  | closed (cancelled locks deleted : Nat)
  | handle (h : Handle)
  | deletedWaiters (count : Nat)
  | describe (kind : KindData) (access : Byte) (creator : SessionId) (isScoped quarantined : Bool)
      (waiters poolWaiters : Nat) (label : Option Label)
  | access (set : Byte)
  | cell (before result : Word)
  | order (order : Order) (value : Word)
  | depth (depth : Nat)
  | entry (value : Word) (source : Port) (depth : Nat)
  | flushed (removed depth : Nat)
  | limits (limit reserve depth : Nat)
  | lock (holder : Option Port) (count : Nat)
  | rights (port : Port) (set : Rights)
  | forced (port : Port) (number : Half)
  | cleared (objects waiters : Nat)
  | alerts (returned : List Alert) (remaining dropped : Nat)
  | statistics (port : Port) (counts : Statistics) (state : SessionState) (number silence : Half) (cause : EndCause)
      (label : Option Label)
  | mark (mark free : Nat)
  deriving DecidableEq, Repr

/-- A reply as it was produced: the header of R178 and the data. -/
structure Reply where
  code : Byte
  tag : Tag
  gen : Gen
  status : Status
  flags : Flags
  a : Bool
  data : ReplyData
  deriving DecidableEq, Repr

/-! ### The links (R147 to R156) -/

/-- The line rates of R147, in Mbit/s. -/
inductive LineRate where
  | half
  | one
  | two
  | four
  deriving DecidableEq, Repr

/-- A timer: stopped, or running with the first timebase reading at which it may have expired. -/
inductive Timer where
  | stopped
  | running (expiry : Word)
  deriving DecidableEq, Repr

/-- The receive states of R151. -/
inductive ReceiveState where
  | hunt
  | length
  | body
  | check
  deriving DecidableEq, Repr

/-- Where the character receiver of R148 stands: waiting for a start bit, past a possible start bit, or, after a
framing fault, waiting for the input to return to mark. -/
inductive CharacterPhase where
  | waiting
  | inCharacter
  | awaitingMark
  deriving DecidableEq, Repr

/-- The break detector of R151 and R155: the input at mark, at space since a time, or at space with its break already
reported. -/
inductive BreakDetector where
  | atMark
  | measuring (since : Word)
  | reported
  deriving DecidableEq, Repr

/-- A link receiver (R151). `partialFrame` holds the length byte, the body bytes and the check bytes collected. -/
structure Receiver where
  state : ReceiveState
  partialFrame : List Byte
  bodyCount : Nat
  gapTimer : Timer
  breakDetector : BreakDetector
  phase : CharacterPhase
  deriving DecidableEq, Repr

/-- A link transmitter (R156): free, or sending the bytes of the head frame of the transmit queue. -/
inductive Transmitter where
  | free
  | sending (bytes : List Byte)
  deriving DecidableEq, Repr

/-! ### The port units (R106 to R119, R127) -/

/-- A port's session record (R127). -/
structure Session where
  state : SessionState
  number : Half
  silence : Half
  label : Option Label
  cause : EndCause
  timer : Timer
  deriving DecidableEq, Repr

/-- One tag: its state and its reply cache (R106, R107). The cached reply holds its generation. -/
structure TagEntry where
  state : TagState
  cache : Option Reply
  deriving DecidableEq, Repr

/-- A request on the pending list, with its tag and generation (R115). -/
structure PendingRequest where
  tag : Tag
  gen : Gen
  request : Request
  deriving DecidableEq, Repr

/-- What the sending of a frame's last byte brings about besides R119: nothing, the end of a CLOSE (R144), or the
reset of PART_RESET (R175). -/
inductive Purpose where
  | plain
  | closeReply
  | partResetReply
  deriving DecidableEq, Repr

/-- A frame of the transmit queue: a tag frame of one tag, or an untracked frame (R118). -/
structure TxFrame where
  tag : Option Tag
  reply : Reply
  purpose : Purpose
  deriving DecidableEq, Repr

/-- The teardown job of an ending session (R1, R138): its number and end cause, and for an end by CLOSE the tag and
generation of the CLOSE and the requests taken off the pending list. -/
structure TeardownJob where
  number : Half
  cause : EndCause
  closing : Option (Tag × Gen)
  taken : List PendingRequest
  deriving DecidableEq, Repr

/-- One port: link input, receiver, transmitter and port unit (00_scope.md, Block overview). -/
structure PortState where
  rxd : Level
  rx : Receiver
  tx : Transmitter
  session : Session
  tags : Vector TagEntry 4
  requests : List PendingRequest
  queue : List TxFrame
  teardown : Option TeardownJob
  stats : Statistics
  deriving DecidableEq, Repr

/-! ### The object store (R4 to R8, R22, R46, R65, R89, R162, R169) -/

/-- Whether an object record agrees with its check value (R8, R10). -/
inductive RecordCheck where
  | agrees
  | fails
  deriving DecidableEq, Repr

/-- The kind part of a record (R8, R22, R89). A queue's accounting is in the pool. -/
inductive KindPart where
  | cell (value : Word) (order : Order)
  | queue
  | lock (holder : Option SessionId) (count : Nat) (damaged : Bool)
  deriving DecidableEq, Repr

/-- An object record (R8). Its wait list is the wait records that stand on it, in `State.waits`. -/
structure ObjectRecord where
  label : Option Label
  access : Byte
  creator : SessionId
  isScoped : Bool
  quarantined : Bool
  check : RecordCheck
  part : KindPart
  deriving DecidableEq, Repr

/-- A slot of the object table: its stamp, and its object record when occupied (R4). -/
structure Slot where
  stamp : Byte
  object : Option ObjectRecord
  deriving DecidableEq, Repr

/-- The list a wait record stands on (R46). -/
inductive WaitList where
  | object (slot : SlotNo)
  | pool
  deriving DecidableEq, Repr

/-- The request of a wait record and its operands (R46). -/
inductive WaitRequest where
  | cell (op : CellOp) (guard : Guard)
  | put (value : Word) (side : QueueEnd)
  | take (side : QueueEnd)
  | acquire
  deriving DecidableEq, Repr

/-- A wait record (R46). -/
structure WaitRecord where
  sender : Sender
  request : WaitRequest
  target : Handle
  deadline : Option Word
  list : WaitList
  deriving DecidableEq, Repr

/-- An entry of the pool: a value and the port that put it (R65). -/
structure Entry where
  value : Word
  source : Port
  deriving DecidableEq, Repr

/-- A queue's accounting (R66). Its depth is the length of its chain, head first. -/
structure QueueAccount where
  chain : List Entry
  limit : Nat
  reserve : Nat
  deriving DecidableEq, Repr

/-! ### The deadline unit (R56 to R58) -/

/-- An entry of the deadline list (R57). -/
structure DeadlineEntry where
  time : Word
  sender : Sender
  deriving DecidableEq, Repr

/-! ### The part -/

/-- The whole state of the part, with the queue of commands that wait to be taken. -/
structure State where
  pending : List Instr
  resetn : Level
  straps : Straps
  lineRate : LineRate
  ports : Vector PortState 8
  searchStart : Fin 9
  resetPending : Bool
  slots : Vector Slot 256
  labelMap : List (Label × SlotNo)
  waits : List WaitRecord
  queues : Vector (Option QueueAccount) 256
  free : Nat
  rights : Vector Rights 8
  alerts : List Alert
  dropped : Nat
  indications : Vector Bool 8
  poolMark : Nat
  timebase : Word
  deadlines : List DeadlineEntry
  expiry : Option Sender
  deriving DecidableEq, Repr

/-- The reasons a command stops the machine with a fault. There is none: the spec gives every command an effect in
every state, or the state is one in which the command's event does not happen and nothing changes. No command raises
a fault, so this is safe: nothing can be proved from one. -/
inductive Fault where
  deriving DecidableEq, Repr

/-- The reasons a command is refused. -/
inductive Refusal where
  /-- Raised by an arm of `exec` for a command that has no meaning yet. Safe: the machine stops. -/
  | notModelled (mnemonic : String)
  deriving DecidableEq, Repr

/-! ### Reset (R160, R176 and the rules of each block) -/

/-- The statistics after reset (R158). -/
def Statistics.reset : Statistics := ⟨0, 0, 0, 0, 0, 0, 0, 0, 0, 0, 0⟩

/-- A link receiver after reset. The level of the input is examined afresh: an input at space is measured from the
end of the reset, when the timebase is 0 (R151, R155). -/
def Receiver.reset (level : Level) : Receiver where
  state := .hunt
  partialFrame := []
  bodyCount := 0
  gapTimer := .stopped
  breakDetector := match level with
    | .mark => .atMark
    | .space => .measuring 0#32
  phase := .waiting

/-- A session record after reset (R127). -/
def Session.reset : Session := ⟨.closed, 0#16, 0#16, none, .none, .stopped⟩

/-- A tag after reset (R106). -/
def TagEntry.reset : TagEntry := ⟨.idle, none⟩

/-- A port after reset; the level of its input is driven from outside and stays (R151, R156, R176). -/
def PortState.reset (level : Level) : PortState where
  rxd := level
  rx := Receiver.reset level
  tx := .free
  session := Session.reset
  tags := Vector.replicate 4 TagEntry.reset
  requests := []
  queue := []
  teardown := none
  stats := Statistics.reset

/-- The rights of a port after reset: port 0 all three, the others CREATE and DELETE (R162). -/
def resetRights : Vector Rights 8 := (Vector.replicate 8 ⟨true, true, false⟩).set 0 ⟨true, true, true⟩

/-- The part right after reset. The inputs are at mark (R161) and RESETN is high; the straps are low, a DESIGN CHOICE
(log 13), which selects 0.5 Mbit/s (R147). The queue of commands is empty. -/
def State.reset : State where
  pending := []
  resetn := .mark
  straps := ⟨.space, .space⟩
  lineRate := .half
  ports := Vector.replicate 8 (PortState.reset .mark)
  searchStart := 0
  resetPending := false
  slots := Vector.replicate 256 ⟨1#8, none⟩
  labelMap := []
  waits := []
  queues := Vector.replicate 256 none
  free := Config.poolEntries
  rights := resetRights
  alerts := []
  dropped := 0
  indications := Vector.replicate 8 false
  poolMark := 0
  timebase := 0#32
  deadlines := []
  expiry := none

end Sys2Proof.Machine
end

