-- ==== Sys2Proof/Machine/Flags.lean ====
section
/-! DEFINITION. The reply flags and their computation (R27, R30 to R33, R36, R121). -/

namespace Sys2Proof.Machine

/-- No flag set (R121). -/
def Flags.clear : Flags := ⟨false, false, false, false, false, false⟩

/-- W alone: a reply to a request that waited (R121). -/
def Flags.waited : Flags := ⟨false, false, false, false, true, false⟩

/-- The flags with W as given. -/
def Flags.withW (f : Flags) (w : Bool) : Flags := { f with w := w }

/-- A lock reply: D as the damaged flag stands, W as the request waited (R91, R121). -/
def Flags.lock (damaged waited : Bool) : Flags := ⟨false, false, false, false, waited, damaged⟩

/-- N on a quantity: bit 31 (R27). -/
def negative (x : Word) : Bool := x.msb

/-- Z on a quantity (R27). -/
def zero (x : Word) : Bool := x == 0#32

/-- N and Z on one quantity, V and C clear (R27, R28, R29, R35). -/
def flagsOn (x : Word) : Flags := ⟨negative x, zero x, false, false, false, false⟩

/-- V of an addition: both readings have one sign and the sum has the other (R30). -/
def addOverflow (x y : Word) : Bool := x.msb == y.msb && (x + y).msb != x.msb

/-- C of an addition: the unsigned total is above 4,294,967,295 (R30). -/
def addCarry (x y : Word) : Bool := 4294967295 < x.toNat + y.toNat

/-- The flags of ADD: N and Z on the sum, V and C of the addition (R30). -/
def addFlags (x y : Word) : Flags := ⟨negative (x + y), zero (x + y), addOverflow x y, addCarry x y, false, false⟩

/-- The flags of SETMASK and CLEARMASK: N on the new value, Z when no bit of the mask was set before (R31, R32). -/
def maskFlags (before after mask : Word) : Flags := ⟨negative after, zero (before &&& mask), false, false, false, false⟩

/-- The flags of COMPARESWAP: Z for success, N and C for below as signed and as unsigned (R33). -/
def compareFlags (before expected : Word) : Flags :=
  ⟨before.slt expected, before == expected, false, before.ult expected, false, false⟩

/-- The flags of INSERT: N and Z on the whole new value, V as given (R36). -/
def insertFlags (after : Word) (tooWide : Bool) : Flags := ⟨negative after, zero after, tooWide, false, false, false⟩

end Sys2Proof.Machine
end

