-- ==== Sys2Proof/Machine/Operands.lean ====
section
/-! DEFINITION. Guards, bit fields, ranges of fields, and the action of each cell operation on a value. -/

namespace Sys2Proof.Machine

/-! ### Guards (R42) -/

/-- Whether a guard holds of a value. -/
def guardHolds (g : Guard) (value : Word) : Bool :=
  match g.relation with
  | .none => true
  | .eq => value == g.operand
  | .ne => value != g.operand
  | .lt => value.slt g.operand
  | .le => value.sle g.operand
  | .gt => g.operand.slt value
  | .ge => g.operand.sle value
  | .ltu => value.ult g.operand
  | .geu => g.operand.ule value
  | .allset => (value &&& g.operand) == g.operand
  | .anyset => (value &&& g.operand) != 0#32
  | .allclear => (value &&& g.operand) == 0#32

/-! ### Bit fields (R34) -/

/-- The word whose low `size` bits are set. -/
def fieldMask (size : Nat) : Word := BitVec.ofNat 32 (2 ^ size - 1)

/-- The field of `size` bits from bit `pos`, read unsigned (R34, R35). -/
def fieldOf (value : Word) (pos size : Nat) : Word := (value >>> pos) &&& fieldMask size

/-- The result of EXTRACT: the field, with copies of its most significant bit above it when signed (R35). -/
def extractField (value : Word) (pos size : Nat) (signed : Bool) : Word :=
  if signed && size != 0 && value.getLsbD (pos + size - 1) then
    fieldOf value pos size ||| ~~~ fieldMask size
  else fieldOf value pos size

/-- The value after INSERT: the field's bits replaced by the low `size` bits of the operand (R36). -/
def insertField (value : Word) (pos size : Nat) (field : Word) : Word :=
  (value &&& ~~~ (fieldMask size <<< pos)) ||| ((field &&& fieldMask size) <<< pos)

/-- V of INSERT: the operand has a set bit at position `size` or above (R36). -/
def fieldTooWide (field : Word) (size : Nat) : Bool := (field &&& ~~~ fieldMask size) != 0#32

/-- The range check of EXTRACT and INSERT at step 7 (R24). -/
def bitFieldInRange (pos size : Byte) : Bool :=
  pos.toNat ≤ 31 && size.toNat ≤ 32 && pos.toNat + size.toNat ≤ 32

/-- Step 7 of a cell request (R24). -/
def cellInRange : CellOp → Bool
  | .extract pos size _ => bitFieldInRange pos size
  | .insert pos size _ => bitFieldInRange pos size
  | _ => true

/-! ### Cell actions (R28 to R36) -/

/-- What an action leaves in the cell, its result, and its flags. -/
structure CellAction where
  after : Word
  result : Word
  flags : Flags
  deriving DecidableEq, Repr

/-- READ (R28). -/
def actRead (value : Word) : CellAction := ⟨value, value, flagsOn value⟩

/-- EXCHANGE (R29). -/
def actExchange (newValue _value : Word) : CellAction := ⟨newValue, newValue, flagsOn newValue⟩

/-- ADD (R30). -/
def actAdd (addend value : Word) : CellAction := ⟨value + addend, value + addend, addFlags value addend⟩

/-- SETMASK (R31). -/
def actSetmask (mask value : Word) : CellAction :=
  ⟨value ||| mask, value ||| mask, maskFlags value (value ||| mask) mask⟩

/-- CLEARMASK (R32). -/
def actClearmask (mask value : Word) : CellAction :=
  ⟨value &&& ~~~ mask, value &&& ~~~ mask, maskFlags value (value &&& ~~~ mask) mask⟩

/-- COMPARESWAP (R33). -/
def actCompareswap (expected newValue value : Word) : CellAction :=
  if value = expected then ⟨newValue, newValue, compareFlags value expected⟩
  else ⟨value, value, compareFlags value expected⟩

/-- EXTRACT (R35). -/
def actExtract (pos size : Byte) (signed : Bool) (value : Word) : CellAction :=
  let result := extractField value pos.toNat size.toNat signed
  ⟨value, result, flagsOn result⟩

/-- INSERT (R36). -/
def actInsert (pos size : Byte) (field value : Word) : CellAction :=
  let after := insertField value pos.toNat size.toNat field
  ⟨after, after, insertFlags after (fieldTooWide field size.toNat)⟩

/-- The action of a cell operation on a value (R25, R37). -/
def cellAct (op : CellOp) (value : Word) : CellAction :=
  match op with
  | .read => actRead value
  | .exchange newValue => actExchange newValue value
  | .add addend => actAdd addend value
  | .setmask mask => actSetmask mask value
  | .clearmask mask => actClearmask mask value
  | .compareswap expected newValue => actCompareswap expected newValue value
  | .extract pos size signed => actExtract pos size signed value
  | .insert pos size field => actInsert pos size field value

/-! ### Labels, ports and sets (R7, R163, R179) -/

/-- A label character is a byte from 21h to 7Eh (R7). -/
def labelCharacter (b : Byte) : Bool := 0x21 ≤ b.toNat && b.toNat ≤ 0x7E

/-- Every character of a label field is in range. -/
def labelInRange (label : Label) : Bool := label.all labelCharacter

/-- A label of 0 characters means that no label is given (R179). -/
def labelGiven (label : Label) : Option Label := if label = [] then none else some label

/-- A port number field in 0 to 7 (R163). -/
def portOf (b : Byte) : Option Port := if h : b.toNat < 8 then some ⟨b.toNat, h⟩ else none

/-- Whether a port is a member of an access set: bit n for port n (R179). -/
def accessHas (set : Byte) (p : Port) : Bool := set.getLsbD p.val

/-- An access set with one port added (R8, R17). -/
def accessWith (set : Byte) (p : Port) : Byte := set ||| (1#8 <<< p.val)

/-- A silence limit is 0 or lies in 10 to 60,000 (R129). -/
def silenceInRange (silence : Half) : Bool := silence == 0#16 || (10 ≤ silence.toNat && silence.toNat ≤ 60000)

end Sys2Proof.Machine
end

