-- ==== Sys2Proof/Machine/Replies.lean ====
section
/-! DEFINITION. The body of a reply, byte by byte (R178, R179, R181, R183 to R185). -/

namespace Sys2Proof.Machine

/-- The status codes of R184. -/
def Status.byte : Status → Byte
  | .ok => 0x00#8
  | .badRequest => 0x01#8
  | .noSession => 0x02#8
  | .closing => 0x03#8
  | .tagBusy => 0x04#8
  | .sessionOpen => 0x05#8
  | .noObject => 0x10#8
  | .wrongKind => 0x11#8
  | .noAccess => 0x12#8
  | .fault => 0x13#8
  | .noRight => 0x14#8
  | .range => 0x15#8
  | .slotTaken => 0x16#8
  | .storeFull => 0x17#8
  | .labelTaken => 0x18#8
  | .noSpace => 0x19#8
  | .lastAdmin => 0x1A#8
  | .notOwner => 0x1B#8
  | .limit => 0x1C#8
  | .guardFalse => 0x20#8
  | .empty => 0x21#8
  | .full => 0x22#8
  | .held => 0x23#8
  | .timeout => 0x24#8
  | .cancelled => 0x25#8
  | .deleted => 0x26#8
  | .notWaiting => 0x27#8

/-- The flags byte: bit 7 is 0, then N, Z, V, C, W, D, A (R178). -/
def flagsByte (f : Flags) (a : Bool) : Byte :=
  BitVec.ofNat 8 (64 * f.n.toNat + 32 * f.z.toNat + 16 * f.v.toNat + 8 * f.c.toNat + 4 * f.w.toNat + 2 * f.d.toNat
    + a.toNat)

/-- A count in one byte (R179). -/
def countByte (n : Nat) : Byte := BitVec.ofNat 8 n

/-- A count in two bytes (R179). -/
def countBytes (n : Nat) : List Byte := halfBytes (BitVec.ofNat 16 n)

/-- A port number in one byte (R179). -/
def portByte (p : Port) : Byte := BitVec.ofNat 8 p.val

/-- A port number, or FFh for no port (R179, R183). -/
def portByteOrNone : Option Port → Byte
  | some p => portByte p
  | none => 0xFF#8

/-- The tag state codes of R181. -/
def TagState.byte : TagState → Byte
  | .idle => 0x00#8
  | .pending _ => 0x01#8
  | .waiting _ => 0x02#8
  | .replying _ => 0x03#8

/-- The generation of the request that occupies a tag, if any (R111). -/
def TagState.gen? : TagState → Option Gen
  | .idle => none
  | .pending g => some g
  | .waiting g => some g
  | .replying g => some g

/-- A generation in one byte; FFh for an empty cache (R181). -/
def genByte : Option Gen → Byte
  | some g => BitVec.ofNat 8 g.val
  | none => 0xFF#8

/-- The session state codes of R181. -/
def SessionState.byte : SessionState → Byte
  | .closed => 0x00#8
  | .opened => 0x01#8
  | .closing => 0x02#8

/-- The end cause codes of R181. -/
def EndCause.byte : EndCause → Byte
  | .none => 0x00#8
  | .closed => 0x01#8
  | .lapsed => 0x02#8
  | .broken => 0x03#8
  | .forced => 0x04#8

/-- The label bytes; an absent label is 0 bytes (R183). -/
def labelBytes : Option Label → List Byte
  | some l => l
  | none => []

/-- The kind code and the six bytes of kind data of DESCRIBE (R181, R183). -/
def KindData.encode : KindData → Byte × List Byte
  | .cell value order => (0x01#8, wordBytes value ++ [order.byte, 0x00#8])
  | .queue depth limit reserve => (0x02#8, countBytes depth ++ countBytes limit ++ countBytes reserve)
  | .lock holder count damaged =>
    (0x03#8, [portByteOrNone (holder.map SessionId.port)]
      ++ halfBytes (match holder with | some s => s.number | none => 0x0000#16)
      ++ [countByte count, flagByte damaged, 0x00#8])

/-- The object flags byte: bit 0 scoped, bit 1 quarantined (R181). -/
def objectFlagsByte (isScoped quarantined : Bool) : Byte := BitVec.ofNat 8 (isScoped.toNat + 2 * quarantined.toNat)

/-- The nine bytes of an alert (R185). -/
def Alert.bytes (x : Alert) : List Byte :=
  match x.kind with
  | .quarantine h => [0x01#8] ++ wordBytes x.time ++ h.bytes ++ [0x00#8, 0x00#8]
  | .lapsed s => [0x02#8] ++ wordBytes x.time ++ [portByte s.port] ++ halfBytes s.number ++ [0x00#8]
  | .broken s => [0x03#8] ++ wordBytes x.time ++ [portByte s.port] ++ halfBytes s.number ++ [0x00#8]
  | .forced s => [0x04#8] ++ wordBytes x.time ++ [portByte s.port] ++ halfBytes s.number ++ [0x00#8]
  | .poolLow free => [0x05#8] ++ wordBytes x.time ++ countBytes free ++ [0x00#8, 0x00#8]

/-- The eleven statistics in the order of R158, two bytes each (R183). -/
def Statistics.bytes (c : Statistics) : List Byte :=
  halfBytes c.framesAccepted ++ halfBytes c.checkErrors ++ halfBytes c.lengthErrors ++ halfBytes c.gapErrors
    ++ halfBytes c.breaks ++ halfBytes c.refusalsSent ++ halfBytes c.refusalsDropped ++ halfBytes c.duplicates
    ++ halfBytes c.replays ++ halfBytes c.sessionsOpened ++ halfBytes c.lapses

/-- The data of a reply after its header (R183). -/
def ReplyData.bytes : ReplyData → List Byte
  | .none => []
  | .tagBusy state => [state.byte, genByte state.gen?]
  | .identify port =>
    halfBytes Config.vendorCode ++ halfBytes Config.partCode
      ++ [Config.revision, portByte port, 0x08#8, 0x04#8, 0x01#8, 0x00#8, 0x08#8, 0x00#8]
  | .tags report => report.flatMap fun r => [r.1.byte, genByte r.2]
  | .session number port silence previous =>
    halfBytes number ++ [portByte port] ++ halfBytes silence ++ [previous.byte]
  | .closed cancelled locks deleted => [countByte cancelled] ++ countBytes locks ++ countBytes deleted
  | .handle h => h.bytes
  | .deletedWaiters count => [countByte count]
  | .describe kind members creator isScoped quarantined waiters poolWaiters label =>
    [kind.encode.1, members, portByte creator.port] ++ halfBytes creator.number
      ++ [objectFlagsByte isScoped quarantined, countByte waiters, countByte poolWaiters] ++ kind.encode.2
      ++ labelBytes label
  | .access set => [set]
  | .cell before result => wordBytes before ++ wordBytes result
  | .order policy value => [policy.byte] ++ wordBytes value
  | .depth n => countBytes n
  | .entry value source n => wordBytes value ++ [portByte source] ++ countBytes n
  | .flushed removed n => countBytes removed ++ countBytes n
  | .limits limit reserve n => countBytes limit ++ countBytes reserve ++ countBytes n
  | .lock holder count => [portByteOrNone holder, countByte count]
  | .rights port set => [portByte port, set.byte]
  | .forced port number => [portByte port] ++ halfBytes number
  | .cleared objects waiters => countBytes objects ++ [countByte waiters]
  | .alerts returned remaining dropped =>
    [countByte returned.length, countByte remaining, countByte dropped] ++ returned.flatMap Alert.bytes
  | .statistics port counts state number silence cause label =>
    [portByte port] ++ counts.bytes ++ [state.byte] ++ halfBytes number ++ halfBytes silence ++ [cause.byte]
      ++ labelBytes label
  | .mark level free => countBytes level ++ countBytes free

/-- The body of a reply: the header of R178, then the data. -/
def Reply.body (r : Reply) : List Byte :=
  [r.code, packTagGen r.tag r.gen, r.status.byte, flagsByte r.flags r.a] ++ r.data.bytes

end Sys2Proof.Machine
end

