-- ==== Sys2Proof/Machine/Frames.lean ====
section
/-! DEFINITION. The frame, its check and the characters of the line (R146, R147, R149, R150). -/

namespace Sys2Proof.Machine

/-- One bit of the check computation: shift left, and divide by x^16 + x^12 + x^5 + 1 when a 1 leaves (R150). -/
def crcBit (c : Half) : Half := if c.msb then (c <<< 1) ^^^ 0x1021#16 else c <<< 1

/-- `n` bits of the check computation. -/
def crcBits : Nat → Half → Half
  | 0, c => c
  | n + 1, c => crcBits n (crcBit c)

/-- One byte of the check computation, most significant bit first (R150). -/
def crcByte (c : Half) (b : Byte) : Half := crcBits 8 (c ^^^ (b ++ 0#8))

/-- The computation run over bytes from a value. -/
def crcRun (c : Half) (bytes : List Byte) : Half := bytes.foldl crcByte c

/-- The frame check of the length byte and body: starting value FFFFh, not inverted (R150). -/
def frameCheck (bytes : List Byte) : Half := crcRun 0xFFFF#16 bytes

/-- The length byte of a body (R149). -/
def lengthByte (body : List Byte) : Byte := BitVec.ofNat 8 body.length

/-- The bytes of a frame: start byte, length, body, check most significant byte first (R149). -/
def frameBytes (body : List Byte) : List Byte :=
  [Config.startByte, lengthByte body] ++ body ++ halfBytes (frameCheck (lengthByte body :: body))

/-- The level of a bit: 1 is mark, 0 is space (R146). -/
def bitLevel (b : Bool) : Level := if b then .mark else .space

/-- The ten bit times of a character: start bit at space, eight data bits least significant first, stop bit at mark
(R146). -/
def characterLevels (b : Byte) : List Level :=
  [.space] ++ (List.range 8).map (fun i => bitLevel (b.getLsbD i)) ++ [.mark]

/-- The levels a transmitter drives while it sends a frame, as consecutive characters (R146, R156). -/
def frameLevels (bytes : List Byte) : List Level := bytes.flatMap characterLevels

/-- The levels that a transmitter has still to drive: none when it is free, and the output is then at mark (R156). -/
def Transmitter.levels : Transmitter → List Level
  | .free => []
  | .sending bytes => frameLevels bytes

/-- The line rate the straps select (R147). -/
def rateOf (s : Straps) : LineRate :=
  match s.sel1, s.sel0 with
  | .space, .space => .half
  | .space, .mark => .one
  | .mark, .space => .two
  | .mark, .mark => .four

/-- The bit time at a line rate, in periods of the 32 MHz crystal (R147). -/
def LineRate.crystalPeriods : LineRate → Nat
  | .half => 64
  | .one => 32
  | .two => 16
  | .four => 8

end Sys2Proof.Machine
end

