-- ==== Sys2Proof/Machine/Ops.lean ====
section
/-! DEFINITION. The named operations over the state that every family shares: accessors, statistics, alerts, replies
and tags, the arbiter, times and deadlines, wait records and record writes. -/

namespace Sys2Proof.Machine

/-! ### Accessors -/

/-- A vector with a function applied to every member. -/
def mapVector {α β : Type} {n : Nat} (f : α → β) (v : Vector α n) : Vector β n :=
  ⟨(v.toArray.toList.map f).toArray, by simp⟩

/-- The port numbered `p`. -/
def State.port (s : State) (p : Port) : PortState := s.ports.get p

/-- The state with one port replaced. -/
def State.setPort (s : State) (p : Port) (x : PortState) : State := { s with ports := s.ports.set p.val x p.isLt }

/-- The slot numbered `i` of the object table (R4). -/
def State.slot (s : State) (i : SlotNo) : Slot := s.slots.get i

/-- The state with one slot replaced. -/
def State.setSlot (s : State) (i : SlotNo) (x : Slot) : State := { s with slots := s.slots.set i.val x i.isLt }

/-- The object record in a slot, if it is occupied (R4). -/
def State.object (s : State) (i : SlotNo) : Option ObjectRecord := (s.slot i).object

/-- The queue accounting of a slot, if it holds a queue (R66). -/
def State.queue (s : State) (i : SlotNo) : Option QueueAccount := s.queues.get i

/-- The state with the queue accounting of one slot replaced. -/
def State.setQueue (s : State) (i : SlotNo) (x : Option QueueAccount) : State :=
  { s with queues := s.queues.set i.val x i.isLt }

/-- The rights of a port (R162). -/
def State.rightsOf (s : State) (p : Port) : Rights := s.rights.get p

/-- The alert indication of a port (R122). -/
def State.indication (s : State) (p : Port) : Bool := s.indications.get p

/-- A tag of a port. -/
def PortState.tag (x : PortState) (t : Tag) : TagEntry := x.tags.get t

/-- The port with one tag replaced. -/
def PortState.setTag (x : PortState) (t : Tag) (e : TagEntry) : PortState :=
  { x with tags := x.tags.set t.val e t.isLt }

/-- The port with one tag's state replaced and its cache left as it is. -/
def PortState.setTagState (x : PortState) (t : Tag) (st : TagState) : PortState :=
  x.setTag t ⟨st, (x.tag t).cache⟩

/-- The session of a port, as the store names it (R128). -/
def State.sessionOf (s : State) (p : Port) : SessionId := ⟨p, (s.port p).session.number⟩

/-- All slot numbers, ascending. -/
def allSlots : List SlotNo := List.finRange 256

/-- All ports, ascending. -/
def allPorts : List Port := [0, 1, 2, 3, 4, 5, 6, 7]

/-- All tags, ascending. -/
def allTags : List Tag := [0, 1, 2, 3]

/-! ### Statistics (R158) -/

/-- A statistic raised by one, saturating at 65,535. -/
def raise (x : Half) : Half := if x = 0xFFFF#16 then x else x + 1#16

/-- The port with its statistics changed. -/
def PortState.counting (x : PortState) (f : Statistics → Statistics) : PortState := { x with stats := f x.stats }

/-- A good frame was handed to the port unit (R153). -/
def countFrameAccepted (c : Statistics) : Statistics := { c with framesAccepted := raise c.framesAccepted }

/-- A frame failed its check (R153). -/
def countCheckError (c : Statistics) : Statistics := { c with checkErrors := raise c.checkErrors }

/-- A length byte outside 2 to 64 was taken (R152). -/
def countLengthError (c : Statistics) : Statistics := { c with lengthErrors := raise c.lengthErrors }

/-- The gap timer expired (R154). -/
def countGapError (c : Statistics) : Statistics := { c with gapErrors := raise c.gapErrors }

/-- A break was reported (R155). -/
def countBreak (c : Statistics) : Statistics := { c with breaks := raise c.breaks }

/-- A port refusal was enqueued (R114). -/
def countRefusalSent (c : Statistics) : Statistics := { c with refusalsSent := raise c.refusalsSent }

/-- An untracked frame was dropped (R118). -/
def countRefusalDropped (c : Statistics) : Statistics := { c with refusalsDropped := raise c.refusalsDropped }

/-- A duplicate was dropped (R111). -/
def countDuplicate (c : Statistics) : Statistics := { c with duplicates := raise c.duplicates }

/-- A cached reply was enqueued again (R111). -/
def countReplay (c : Statistics) : Statistics := { c with replays := raise c.replays }

/-- An OPEN opened a session (R129). -/
def countSessionOpened (c : Statistics) : Statistics := { c with sessionsOpened := raise c.sessionsOpened }

/-- A session lapsed (R132). -/
def countLapse (c : Statistics) : Statistics := { c with lapses := raise c.lapses }

/-! ### Times (R56) -/

/-- Of two times, `a` is earlier than `b` when b − a, modulo 2^32, lies in 1 to 2,147,483,647. -/
def earlier (a b : Word) : Bool := 1 ≤ (b - a).toNat && (b - a).toNat ≤ 2147483647

/-- A time has been reached when the timebase equals it or it is earlier than the timebase. -/
def reached (t now : Word) : Bool := now == t || earlier t now

/-- Whether a timer is running and may have expired. -/
def Timer.expired (t : Timer) (now : Word) : Bool :=
  match t with
  | .stopped => false
  | .running expiry => reached expiry now

/-! ### Alerts, rights and alert indications (R122, R169) -/

/-- The alert indication of each port: the list holds an alert and the port holds ADMIN (R122). -/
def indicationsFor (rights : Vector Rights 8) (alerts : List Alert) : Vector Bool 8 :=
  mapVector (fun r => r.admin && !alerts.isEmpty) rights

/-- The alert list and dropped count replaced, every indication brought up to date at once (R122, R169). -/
def State.setAlerts (s : State) (alerts : List Alert) (dropped : Nat) : State :=
  { s with alerts := alerts, dropped := dropped, indications := indicationsFor s.rights alerts }

/-- A port's rights replaced, every indication brought up to date at once (R122, R164). -/
def State.setRights (s : State) (p : Port) (r : Rights) : State :=
  { s with
    rights := s.rights.set p.val r p.isLt
    indications := indicationsFor (s.rights.set p.val r p.isLt) s.alerts }

/-- An alert joins the tail; when the list already holds 8, the oldest is lost and counted (R169). -/
def State.appendAlert (s : State) (kind : AlertKind) : State :=
  if s.alerts.length < Config.alertSlots then s.setAlerts (s.alerts ++ [⟨kind, s.timebase⟩]) s.dropped
  else s.setAlerts (s.alerts.drop 1 ++ [⟨kind, s.timebase⟩]) (min Config.droppedMax (s.dropped + 1))

/-! ### Replies, completions and notices (R114, R116 to R118, R137) -/

/-- What a job or a port unit answers: status, flags but A, and data. -/
structure Answer where
  status : Status
  flags : Flags
  data : ReplyData
  deriving DecidableEq, Repr

/-- OK with data and no flag but A. -/
def Answer.ok (data : ReplyData) : Answer := ⟨.ok, Flags.clear, data⟩

/-- A refusal: a status, no flag but A, and no data (R183). -/
def Answer.refuse (status : Status) : Answer := ⟨status, Flags.clear, .none⟩

/-- A status that carries data, with no flag but A. -/
def Answer.report (status : Status) (data : ReplyData) : Answer := ⟨status, Flags.clear, data⟩

/-- The reply to a waiter removed without service: W set and no data (R53). -/
def Answer.dismissal (status : Status) : Answer := ⟨status, Flags.waited, .none⟩

/-- The reply as it is produced now: the header of the request, and A as the port's indication stands (R120, R122). -/
def State.replyTo (s : State) (q : Sender) (code : Byte) (x : Answer) : Reply :=
  ⟨code, q.tag, q.gen, x.status, x.flags, s.indication q.port, x.data⟩

/-- A tag frame joins the tail of the transmit queue; the reply is cached and the tag becomes REPLYING (R116). -/
def PortState.sendTagFrame (x : PortState) (t : Tag) (r : Reply) (purpose : Purpose) : PortState :=
  { x.setTag t ⟨.replying r.gen, some r⟩ with queue := x.queue ++ [⟨some t, r, purpose⟩] }

/-- How many untracked frames stand in the transmit queue (R118). -/
def PortState.untracked (x : PortState) : Nat := (x.queue.filter (fun f => f.tag.isNone)).length

/-- An untracked frame joins the tail, or is dropped as a fifth and counted. A port refusal that is enqueued is counted
too (R114, R118). -/
def PortState.sendUntracked (x : PortState) (r : Reply) (isRefusal : Bool) : PortState :=
  if x.untracked < Config.untrackedMax then
    let y := { x with queue := x.queue ++ [⟨none, r, .plain⟩] }
    if isRefusal then y.counting countRefusalSent else y
  else x.counting countRefusalDropped

/-- A port unit takes a completion (R116). While CLOSING after a lapse, break or forced close, the reply is neither
cached nor enqueued and the tag becomes IDLE (R137). No completion reaches a CLOSED port (R145); one would be lost. -/
def State.completeFor (s : State) (purpose : Purpose) (q : Sender) (code : Byte) (x : Answer) : State :=
  match (s.port q.port).session.state with
  | .opened => s.setPort q.port ((s.port q.port).sendTagFrame q.tag (s.replyTo q code x) purpose)
  | .closing =>
    if (s.port q.port).session.cause = .closed then
      s.setPort q.port ((s.port q.port).sendTagFrame q.tag (s.replyTo q code x) purpose)
    else s.setPort q.port ((s.port q.port).setTagState q.tag .idle)
  | .closed => s

/-- A completion whose frame brings about nothing further when it is sent. -/
def State.complete (s : State) (q : Sender) (code : RequestCode) (x : Answer) : State :=
  s.completeFor .plain q code.byte x

/-- A port unit takes a waiter notice: the tag goes from PENDING to WAITING (R117). -/
def State.notifyWaiting (s : State) (q : Sender) : State :=
  match ((s.port q.port).tag q.tag).state with
  | .pending g => s.setPort q.port ((s.port q.port).setTagState q.tag (.waiting g))
  | _ => s

/-! ### The arbiter (R1, R2, R175) -/

/-- The kinds of job (R1). -/
inductive Job where
  | request (p : Port) (r : PendingRequest)
  | teardown (p : Port) (j : TeardownJob)
  | expiry (q : Sender)
  deriving DecidableEq, Repr

/-- What a port unit presents: a teardown job when one is due, else the head of its pending list (R1). -/
def State.portJob (s : State) (p : Port) : Option Job :=
  match (s.port p).teardown with
  | some j => some (.teardown p j)
  | none => (s.port p).requests.head?.map (Job.request p)

/-- What each source presents: sources 0 to 7 the port units, source 8 the deadline unit (R1). -/
def State.presents (s : State) (k : Fin 9) : Option Job :=
  if h : k.val < 8 then s.portJob ⟨k.val, h⟩ else s.expiry.map Job.expiry

/-- The sources in the order of the search, wrapping from 8 to 0 (R2). -/
def searchOrder (start : Fin 9) : List (Fin 9) := ([0, 1, 2, 3, 4, 5, 6, 7, 8] : List (Fin 9)).map (start + ·)

/-- The job the arbiter takes next: of the first source in search order that presents one; none while reset is
pending (R2, R175). -/
def State.nextJob (s : State) : Option Job :=
  if s.resetPending then none else (searchOrder s.searchStart).findSome? s.presents

/-- The source number of a port. -/
def sourceOf (p : Port) : Fin 9 := ⟨p.val, by omega⟩

/-- The arbiter takes a port's request job: the request leaves the pending list and the search start moves on
(R1, R2). -/
def State.takeRequest (s : State) (p : Port) : State :=
  { s.setPort p { s.port p with requests := (s.port p).requests.tail } with searchStart := sourceOf p + 1 }

/-- The arbiter takes a port's teardown job (R1, R2). -/
def State.takeTeardown (s : State) (p : Port) : State :=
  { s.setPort p { s.port p with teardown := none } with searchStart := sourceOf p + 1 }

/-- What the deadline unit presents, and its list, after it has examined the list: when it presents no expiry job and
the first entry has fallen due, that entry leaves the list and is presented (R58). -/
def examineDeadlines (now : Word) : Option Sender → List DeadlineEntry → Option Sender × List DeadlineEntry
  | none, e :: rest => if reached e.time now then (some e.sender, rest) else (none, e :: rest)
  | x, l => (x, l)

/-- The deadline unit examines its list (R58). -/
def presentExpiry (s : State) : State :=
  { s with
    expiry := (examineDeadlines s.timebase s.expiry s.deadlines).1
    deadlines := (examineDeadlines s.timebase s.expiry s.deadlines).2 }

/-- The arbiter takes the expiry job of the deadline unit, source 8, which at that moment examines its list again and
presents the next entry that has fallen due, if any (R1, R2, R58). -/
def State.takeExpiry (s : State) : State := presentExpiry { s with expiry := none, searchStart := 0 }

/-- A job runs on the state as it is taken. At its end it appends a POOL_LOW alert when the mark in force as it was
taken is not 0 and the free count has crossed it from above (R173). -/
def runJob (body : State → State) (s : State) : State :=
  if s.poolMark ≠ 0 ∧ s.poolMark ≤ s.free ∧ (body s).free < s.poolMark then
    (body s).appendAlert (.poolLow (body s).free)
  else body s

/-- The request job of a command: it runs when the arbiter takes exactly this request next; otherwise nothing happens
(log 1). -/
def requestJob (q : Sender) (r : Request) (body : State → State) (s : State) : State :=
  if s.nextJob = some (.request q.port ⟨q.tag, q.gen, r⟩) then runJob body (s.takeRequest q.port) else s

/-! ### Object records (R5, R8, R10) -/

/-- A write of an object record, which computes its check value anew (R10). -/
def State.writeRecord (s : State) (i : SlotNo) (r : ObjectRecord) : State :=
  s.setSlot i ⟨(s.slot i).stamp, some { r with check := .agrees }⟩

/-- The record of an occupied slot is written because its wait list changed (R8, R10; log 8). -/
def State.rewriteRecord (s : State) (i : SlotNo) : State :=
  match s.object i with
  | some r => s.writeRecord i r
  | none => s

/-- The write that goes with a change of a wait list: of the object's record, or nothing for the pool's list. -/
def State.listWritten (s : State) (l : WaitList) : State :=
  match l with
  | .object i => s.rewriteRecord i
  | .pool => s

/-- The record a handle resolves to: the slot is occupied and its stamp is the handle's (R5). -/
def State.resolve (s : State) (h : Handle) : Option ObjectRecord :=
  if (s.slot h.slot).stamp = h.stamp then s.object h.slot else none

/-- A record fails its check while its object is not quarantined (R10). -/
def ObjectRecord.failsCheck (r : ObjectRecord) : Bool := r.check == .fails && !r.quarantined

/-! ### Wait records and deadlines (R46 to R48, R54, R57, R59) -/

/-- The code of the request a wait record holds. -/
def WaitRequest.code : WaitRequest → RequestCode
  | .cell _ _ => .cellOp
  | .put _ _ => .put
  | .take _ => .take
  | .acquire => .acquire

/-- The wait list named, oldest first (R46, R84). -/
def State.waitList (s : State) (l : WaitList) : List WaitRecord := s.waits.filter (fun w => w.list == l)

/-- The puts for one queue on the pool wait list, in pool-list order (R13). -/
def State.poolPuts (s : State) (i : SlotNo) : List WaitRecord :=
  s.waits.filter (fun w => w.list == .pool && w.target.slot == i)

/-- The wait record of a port's tag, if any (R46). -/
def State.waiterOf (s : State) (p : Port) (t : Tag) : Option WaitRecord :=
  s.waits.find? (fun w => w.sender.port == p && w.sender.tag == t)

/-- The order of the deadline list: expiry time, then port, then tag (R57). -/
def DeadlineEntry.before (x y : DeadlineEntry) : Bool :=
  earlier x.time y.time ||
    (x.time == y.time && (x.sender.port < y.sender.port ||
      (x.sender.port == y.sender.port && x.sender.tag < y.sender.tag)))

/-- An entry takes its place in the deadline list (R57). -/
def insertDeadline (x : DeadlineEntry) : List DeadlineEntry → List DeadlineEntry
  | [] => [x]
  | y :: ys => if x.before y then x :: y :: ys else y :: insertDeadline x ys

/-- The expiry time of a deadline set now with wait limit L: T + L + 1 (R57). -/
def State.deadlineAt (s : State) (wait : Half) : Word := s.timebase + wait.setWidth 32 + 1#32

/-- The deadline of a request placed now: absent for wait limit 65,535 (R44, R47). -/
def State.deadlineFor (s : State) (wait : Half) : Option Word :=
  if wait = 0xFFFF#16 then none else some (s.deadlineAt wait)

/-- A deadline entry for a waiter that has a deadline (R57). -/
def State.addDeadline (s : State) (q : Sender) (deadline : Option Word) : State :=
  match deadline with
  | some t => { s with deadlines := insertDeadline ⟨t, q⟩ s.deadlines }
  | none => s

/-- The withdrawal of a removed waiter's deadline: its entry leaves the list; an expiry job already presented stays
(R59). -/
def State.withdraw (s : State) (w : WaitRecord) : State :=
  match w.deadline with
  | some _ => { s with deadlines := s.deadlines.filter (fun e => e.sender != w.sender) }
  | none => s

/-- Placement: the wait record joins the tail of its list, gains a deadline, and a waiter notice goes to its port
(R47). -/
def State.place (s : State) (q : Sender) (request : WaitRequest) (target : Handle) (wait : Half) (l : WaitList) :
    State :=
  (({ s with waits := s.waits ++ [(⟨q, request, target, s.deadlineFor wait, l⟩ : WaitRecord)] }.listWritten l).addDeadline q
    (s.deadlineFor wait)).notifyWaiting q

/-- A wait record leaves its list and its deadline is withdrawn (R54). -/
def State.removeWaiter (s : State) (w : WaitRecord) : State :=
  ({ s with waits := s.waits.erase w }.listWritten w.list).withdraw w

/-- A wait record moves to the tail of another list, keeping its deadline (R48). -/
def State.moveWaiter (s : State) (w : WaitRecord) (l : WaitList) : State :=
  ({ s with waits := s.waits.erase w ++ [{ w with list := l }] }.listWritten w.list).listWritten l

/-- A waiter is removed and replied with a status, W set and no data (R53). -/
def State.dismiss (status : Status) (s : State) (w : WaitRecord) : State :=
  (s.removeWaiter w).complete w.sender w.request.code (Answer.dismissal status)

/-- Waiters are removed and replied in order (R13, R19). -/
def State.dismissAll (status : Status) (s : State) (ws : List WaitRecord) : State :=
  ws.foldl (State.dismiss status) s

/-! ### The outcome of a command -/

/-- A command acts on the part while RESETN is high; while it is low every block is held in reset and nothing happens
(R160; log 14). -/
def perform (f : State → State) (s : State) : Host.Outcome State Fault Refusal :=
  .next (if s.resetn = .mark then f s else s)

end Sys2Proof.Machine
end

