-- ==== Sys2Proof/Machine/Holding.lean ====
section
/-! DEFINITION. The hand-off of a lock to a waiter (R97). -/

namespace Sys2Proof.Machine

/-- A lock's record with a new holder and count. -/
def ObjectRecord.withLock (r : ObjectRecord) (holder : Option SessionId) (count : Nat) (damaged : Bool) :
    ObjectRecord := { r with part := .lock holder count damaged }

/-- The lock data of a reply (R91). -/
def lockData (holder : Option SessionId) (count : Nat) : ReplyData := .lock (holder.map SessionId.port) count

/-- A waiter of the new holder's port is served as a re-entry: it leaves the list, the count rises by one, and it is
replied OK with W set (R97). -/
def serveReentry (i : SlotNo) (s : State) (w : WaitRecord) : State :=
  match s.object i with
  | some r =>
    match r.part with
    | .lock holder count damaged =>
      ((s.writeRecord i (r.withLock holder (count + 1) damaged)).removeWaiter w).complete w.sender .acquire
        ⟨.ok, Flags.lock damaged true, lockData holder (count + 1)⟩
    | _ => s
  | none => s

/-- The lock passes to a waiter: the waiter leaves the list and its port's session is the holder with count 1; the
replies are produced later in the job (R97). -/
def State.assignLock (s : State) (i : SlotNo) (r : ObjectRecord) (damaged : Bool) (w : WaitRecord) : State :=
  (s.writeRecord i (r.withLock (some (s.sessionOf w.sender.port)) 1 damaged)).removeWaiter w

/-- The replies of a hand-off: the new holder OK with W set and count 1, then its port's other waiters as re-entries in
list order (R97). -/
def State.replyHandOff (s : State) (i : SlotNo) (damaged : Bool) (w : WaitRecord) : State :=
  let s' := s.complete w.sender .acquire ⟨.ok, Flags.lock damaged true, .lock (some w.sender.port) 1⟩
  ((s'.waitList (.object i)).filter (fun v => v.sender.port == w.sender.port)).foldl (serveReentry i) s'

end Sys2Proof.Machine
end

