-- ==== Sys2Proof/Machine/Pool.lean ====
section
/-! DEFINITION. The entry pool: its accounting, grants, the service of a queue's own putters and pool service
(R65 to R69, R73, R79, R85, R86). -/

namespace Sys2Proof.Machine

/-- The number of entries in a queue's chain (R66). -/
def QueueAccount.depth (a : QueueAccount) : Nat := a.chain.length

/-- A queue's term of the outstanding reserve (R68). -/
def QueueAccount.promised (a : QueueAccount) : Nat := a.reserve - a.depth

/-- The term of a slot: 0 where there is no queue. -/
def promisedBy : Option QueueAccount → Nat
  | some a => a.promised
  | none => 0

/-- The depth of a slot's queue: 0 where there is no queue. -/
def depthOf : Option QueueAccount → Nat
  | some a => a.depth
  | none => 0

/-- The outstanding reserve: the sum of the terms of all queues (R68). -/
def State.outstanding (s : State) : Nat := (s.queues.toArray.toList.map promisedBy).sum

/-- The sum of the depths of all queues (R67). -/
def State.entriesHeld (s : State) : Nat := (s.queues.toArray.toList.map depthOf).sum

/-- The accounting of a queue's slot; a slot without accounting reads as an empty queue of limit 0 (log 19). -/
def State.account (s : State) (i : SlotNo) : QueueAccount := (s.queue i).getD ⟨[], 0, 0⟩

/-- A put to a queue is grantable (R69). -/
def State.grantable (s : State) (a : QueueAccount) : Bool := a.depth < a.reserve || 1 ≤ s.free - s.outstanding

/-- An entry linked into a chain at an end (R73). -/
def linkAt (side : QueueEnd) (e : Entry) (chain : List Entry) : List Entry :=
  match side with
  | .head => e :: chain
  | .tail => chain ++ [e]

/-- An entry is granted to a queue and linked at an end; the free count falls by one (R73). -/
def State.linkEntry (s : State) (i : SlotNo) (a : QueueAccount) (side : QueueEnd) (e : Entry) : State :=
  { s.setQueue i (some { a with chain := linkAt side e a.chain }) with free := s.free - 1 }

/-- A waiting put is granted an entry: it leaves its list, its entry is linked at its own end, and it is replied OK
with W set and the depth after its placement (R73, R79, R86). -/
def State.grantPut (s : State) (i : SlotNo) (a : QueueAccount) (w : WaitRecord) (value : Word) (side : QueueEnd) :
    State :=
  ((s.removeWaiter w).linkEntry i a side ⟨value, w.sender.port⟩).complete w.sender .put
    ⟨.ok, Flags.waited, .depth (a.depth + 1)⟩

/-- The service of one putter of a queue's own list: granted, or moved to the pool wait list, while the depth is below
the limit (R79). -/
def serveOwnPutter (i : SlotNo) (s : State) (w : WaitRecord) : State :=
  match s.queue i, w.request with
  | some a, .put value side =>
    if a.depth < a.limit then
      if s.grantable a then s.grantPut i a w value side else s.moveWaiter w .pool
    else s
  | _, _ => s

/-- The service of a queue's own putters, from head to tail (R79). -/
def State.serveOwnPutters (s : State) (i : SlotNo) : State := (s.waitList (.object i)).foldl (serveOwnPutter i) s

/-- One record of a pass of pool service: moved when its queue is at its limit, placed when grantable, else left; the
flag says whether anything was done (R86). -/
def poolPassRecord (r : State × Bool) (w : WaitRecord) : State × Bool :=
  match r.1.queue w.target.slot, w.request with
  | some a, .put value side =>
    if a.limit ≤ a.depth then (r.1.moveWaiter w (.object w.target.slot), true)
    else if r.1.grantable a then (r.1.grantPut w.target.slot a w value side, true)
    else r
  | _, _ => r

/-- A pass of pool service: each record of the pool wait list once, head to tail (R86). -/
def poolPass (s : State) : State × Bool := (s.waitList .pool).foldl poolPassRecord (s, false)

/-- Passes until one moves and places nothing (R86). Each pass that does something takes a record off the list, so one
pass more than the list's length is enough. -/
def poolPasses : Nat → State → State
  | 0, s => s
  | n + 1, s =>
    match poolPass s with
    | (s', true) => poolPasses n s'
    | (s', false) => s'

/-- Pool service (R86). -/
def State.poolService (s : State) : State := poolPasses ((s.waitList .pool).length + 1) s

/-- Pool service when the job calls for it (R85). -/
def State.poolServiceIf (s : State) (due : Bool) : State := if due then s.poolService else s

end Sys2Proof.Machine
end

