-- ==== Sys2Proof/Machine/Scan.lean ====
section
/-! DEFINITION. Scans of a cell's wait list under both order policies (R37, R49 to R51). -/

namespace Sys2Proof.Machine

/-- A waiter of a cell is carried out against the value as it stands: the record takes the new value, the waiter leaves
its list, and it is replied OK with W set (R37, R49, R50). -/
def State.serveCellWaiter (s : State) (i : SlotNo) (r : ObjectRecord) (value : Word) (order : Order) (w : WaitRecord)
    (op : CellOp) : State :=
  ((s.writeRecord i { r with part := .cell (cellAct op value).after order }).removeWaiter w).complete w.sender .cellOp
    ⟨.ok, (cellAct op value).flags.withW true, .cell value (cellAct op value).result⟩

/-- A STRICT scan from the head: it serves while the head's guard holds and stops at the first whose guard does not
(R49). -/
def scanStrict (i : SlotNo) : List WaitRecord → State → State
  | [], s => s
  | w :: ws, s =>
    match s.object i, w.request with
    | some r, .cell op guard =>
      match r.part with
      | .cell value order =>
        if guardHolds guard value then scanStrict i ws (s.serveCellWaiter i r value order w op) else s
      | _ => s
    | _, _ => s

/-- One waiter of a pass of a PASSING scan; the flag says whether the pass has served a waiter (R50). -/
def scanPassRecord (i : SlotNo) (x : State × Bool) (w : WaitRecord) : State × Bool :=
  match x.1.object i, w.request with
  | some r, .cell op guard =>
    match r.part with
    | .cell value order =>
      if guardHolds guard value then (x.1.serveCellWaiter i r value order w op, true) else x
    | _ => x
  | _, _ => x

/-- A pass of a PASSING scan: each waiter once, in list order (R50). -/
def scanPass (i : SlotNo) (s : State) : State × Bool := (s.waitList (.object i)).foldl (scanPassRecord i) (s, false)

/-- Passes until one serves no waiter (R50). A pass that serves takes a waiter off the list, so one pass more than the
list's length is enough. -/
def scanPasses (i : SlotNo) : Nat → State → State
  | 0, s => s
  | n + 1, s =>
    match scanPass i s with
    | (s', true) => scanPasses i n s'
    | (s', false) => s'

/-- A scan of a cell's wait list under its order policy (R38, R49, R50). -/
def State.scan (s : State) (i : SlotNo) : State :=
  match s.object i with
  | some r =>
    match r.part with
    | .cell _ .strict => scanStrict i (s.waitList (.object i)) s
    | .cell _ .passing => scanPasses i ((s.waitList (.object i)).length + 1) s
    | _ => s
  | none => s

/-- Whether a waiter is the head waiter of a STRICT cell, which one (R40, R55). -/
def State.strictHead (s : State) (w : WaitRecord) : Option SlotNo :=
  match w.list with
  | .pool => none
  | .object i =>
    match (s.object i).map ObjectRecord.part with
    | some (.cell _ .strict) => if (s.waitList (.object i)).head? = some w then some i else none
    | _ => none

/-- A scan of the cell named, if one is. -/
def State.scanIf (s : State) (cell : Option SlotNo) : State :=
  match cell with
  | some i => s.scan i
  | none => s

end Sys2Proof.Machine
end

