-- ==== Sys2Proof/Machine/Removal.lean ====
section
/-! DEFINITION. Quarantine, deletion and the checks of a request that names an object (R6, R9, R10, R13, R14, R19,
R20). -/

namespace Sys2Proof.Machine

/-- The kind effects of quarantine: a queue's reserve becomes 0, a lock loses its holder and count; a cell stays
(R20). -/
def State.quarantineKind (s : State) (i : SlotNo) (r : ObjectRecord) : State :=
  match r.part with
  | .cell _ _ => s.writeRecord i { r with quarantined := true }
  | .queue =>
    (match s.queue i with
      | some a => s.setQueue i (some { a with reserve := 0 })
      | none => s).writeRecord i { r with quarantined := true }
  | .lock _ _ damaged => s.writeRecord i { r.withLock none 0 damaged with quarantined := true }

/-- An object enters quarantine: the flag, its own waiters and then its pool puts replied FAULT with W set, the kind
effects, the rewritten record and the alert (R19, R20). -/
def State.quarantine (s : State) (i : SlotNo) (r : ObjectRecord) : State :=
  let s₁ := s.writeRecord i { r with quarantined := true }
  let s₂ := State.dismissAll .fault s₁ (s₁.waitList (.object i))
  let s₃ := State.dismissAll .fault s₂ (s₂.poolPuts i)
  (s₃.quarantineKind i r).appendAlert (.quarantine ⟨i, (s.slot i).stamp⟩)

/-- Quarantine of this object calls for pool service at the job's end: it is a queue with a reserve term above 0
(R20). -/
def State.quarantineDue (s : State) (i : SlotNo) (r : ObjectRecord) : Bool :=
  match r.part with
  | .queue => 0 < promisedBy (s.queue i)
  | _ => false

/-- What a verification of an object's record found: the state after it, whether the object went into quarantine, and
whether pool service is due for it. -/
structure Verified where
  state : State
  failed : Bool
  due : Bool
  deriving DecidableEq, Repr

/-- A job reads and verifies the record of an object it acts on without being named (R10). -/
def State.verify (s : State) (i : SlotNo) : Verified :=
  match s.object i with
  | some r => if r.failsCheck then ⟨s.quarantine i r, true, s.quarantineDue i r⟩ else ⟨s, false, false⟩
  | none => ⟨s, false, false⟩

/-- A stamp advances by one, and 255 advances to 1 (R6). -/
def nextStamp (stamp : Byte) : Byte := if stamp = 0xFF#8 then 0x01#8 else stamp + 1#8

/-- The waiters that a deletion removes: the object's own list, then its pool puts (R13). -/
def State.deletionWaiters (s : State) (i : SlotNo) : List WaitRecord := s.waitList (.object i) ++ s.poolPuts i

/-- The disposal of a slot's object: a queue's entries go back to the pool and its accounting is removed, the label
leaves the map, the slot becomes empty and its stamp advances (R6, R14). -/
def State.dispose (s : State) (i : SlotNo) : State :=
  { (s.setQueue i none).setSlot i ⟨nextStamp (s.slot i).stamp, none⟩ with
    free := s.free + depthOf (s.queue i)
    labelMap := s.labelMap.filter (fun e => e.2 != i) }

/-- The deletion of an object by any cause: its waiters replied DELETED with W set, then the disposal (R13, R14). -/
def State.deleteObject (s : State) (i : SlotNo) : State :=
  (State.dismissAll .deleted s (s.deletionWaiters i)).dispose i

/-- A deletion returns entries or removes a reserve term (R14). -/
def State.deletionDue (s : State) (i : SlotNo) : Bool := 0 < depthOf (s.queue i) || 0 < promisedBy (s.queue i)

/-! ### The checks of a request that names an object (R9) -/

/-- What differs between requests in the checks of R9. -/
structure Checks where
  /-- Step 3: the kinds the request applies to. -/
  kind : KindPart → Bool
  /-- Step 4: a port holding ADMIN passes as well (SET_ACCESS). -/
  adminPasses : Bool
  /-- Step 5: the request is carried out on a quarantined object (DELETE, DESCRIBE). -/
  onQuarantined : Bool
  /-- Step 6: the right the request needs. -/
  right : State → ObjectRecord → Bool
  /-- Step 7: every field lies in its range. -/
  range : State → Bool

/-- A request that names an object is checked in the order of R9; a record that fails its check is quarantined and the
request replied FAULT, with pool service at the end where quarantine calls for it (R9, R10, R20). -/
def State.withObject (s : State) (q : Sender) (code : RequestCode) (h : Handle) (c : Checks)
    (run : ObjectRecord → State) : State :=
  match s.resolve h with
  | none => s.complete q code (.refuse .noObject)
  | some r =>
    if r.failsCheck then
      ((s.quarantine h.slot r).complete q code (.refuse .fault)).poolServiceIf (s.quarantineDue h.slot r)
    else if !c.kind r.part then s.complete q code (.refuse .wrongKind)
    else if !(accessHas r.access q.port || (c.adminPasses && (s.rightsOf q.port).admin)) then
      s.complete q code (.refuse .noAccess)
    else if r.quarantined && !c.onQuarantined then s.complete q code (.refuse .fault)
    else if !c.right s r then s.complete q code (.refuse .noRight)
    else if !c.range s then s.complete q code (.refuse .range)
    else run r

/-- A part is a cell's. -/
def KindPart.isCell : KindPart → Bool
  | .cell _ _ => true
  | _ => false

/-- A part is a queue's. -/
def KindPart.isQueue : KindPart → Bool
  | .queue => true
  | _ => false

/-- A part is a lock's. -/
def KindPart.isLock : KindPart → Bool
  | .lock _ _ _ => true
  | _ => false

/-- The checks of a cell, queue or lock request: one kind, no right needed (R9). -/
def Checks.ofKind (kind : KindPart → Bool) (range : State → Bool) : Checks :=
  ⟨kind, false, false, fun _ _ => true, range⟩

end Sys2Proof.Machine
end

