-- ==== Sys2Proof/Machine/Sessions.lean ====
section
/-! DEFINITION. The reset of the whole part, the ends of a session (R132, R134 to R136), LAPSE, and the teardown job with
its six stages (R138 to R144). -/

namespace Sys2Proof.Machine

/-! ### The reset of the whole part (R147, R160, R176) -/

/-- Every block returns to its reset values; the straps are sampled at the levels they then have; the pins stay as they
are driven, and so does the model's queue of commands (R147, R176). -/
def State.resetPart (s : State) : State :=
  { State.reset with
    pending := s.pending
    resetn := s.resetn
    straps := s.straps
    lineRate := rateOf s.straps
    ports := mapVector (fun x => PortState.reset x.rxd) s.ports }

/-! ### Session ends -/

/-- The transmitter has begun to send the head frame of the queue (R118). -/
def PortState.sendingHead (x : PortState) : Bool :=
  match x.tx with
  | .free => false
  | .sending _ => true

/-- The frames of the queue whose sending has begun: the head, or none (R118, R132). -/
def PortState.begun (x : PortState) : List TxFrame := if x.sendingHead then x.queue.take 1 else []

/-- The frames of the queue whose sending has not begun (R132). -/
def PortState.unsent (x : PortState) : List TxFrame := if x.sendingHead then x.queue.drop 1 else x.queue

/-- A tag when its session ends by lapse, break or forced close: PENDING and REPLYING tags become IDLE with their cache
as it stood; WAITING stays (R132; log 17). -/
def TagEntry.atAbruptEnd (e : TagEntry) : TagEntry :=
  match e.state with
  | .waiting _ => e
  | _ => { e with state := .idle }

/-- A port unit takes the end of its session by lapse, break or forced close: CLOSING with the cause, timer stopped,
pending requests and unsent frames discarded, a frame begun counted as untracked from then on, and the teardown job due
(R132, R135, R136). -/
def PortState.endAbruptly (cause : EndCause) (x : PortState) : PortState :=
  { x with
    session := { x.session with state := .closing, cause := cause, timer := .stopped }
    tags := mapVector TagEntry.atAbruptEnd x.tags
    requests := []
    queue := x.begun.map fun f => { f with tag := none }
    teardown := some ⟨x.session.number, cause, none, []⟩ }

/-- The end of a port's session by lapse, break or forced close. Discarding the PART_RESET reply before its sending has
begun brings the reset of the part at that moment (R132, R175). An earlier frame of the same port that is then being sent
is cut short with those of the other ports: R157 and R176 spare the requesting link and R176's table frees every
transmitter, and the model's choice is the table (log 26). -/
def State.endAbruptly (s : State) (cause : EndCause) (p : Port) : State :=
  let s' := s.setPort p ((s.port p).endAbruptly cause)
  if (s.port p).unsent.any (fun f => f.purpose == .partResetReply) then s'.resetPart else s'

/-- A port unit takes the end of its session by CLOSE: CLOSING with cause CLOSED, timer stopped, the pending list taken
off with its tags left PENDING, the transmit queue kept, and the teardown job due (R134). -/
def PortState.endByClose (t : Tag) (g : Gen) (x : PortState) : PortState :=
  { x with
    session := { x.session with state := .closing, cause := .closed, timer := .stopped }
    requests := []
    teardown := some ⟨x.session.number, .closed, some (t, g), x.requests⟩ }

/-- The silence timer of an OPEN session expires; a timer that is stopped or whose time has not been reached does not
expire (R131, R132, R133). -/
def lapsePort (p : Port) (s : State) : State :=
  if (s.port p).session.state = .opened ∧ (s.port p).session.timer.expired s.timebase then
    (s.setPort p ((s.port p).counting countLapse)).endAbruptly .lapsed p
  else s

/-! ### The teardown job -/

/-- What a teardown job has counted and called for as its stages run: requests replied CANCELLED, locks abandoned,
objects deleted (R144), the STRICT cells whose head it removed (R140), and whether pool service is due (R142). -/
structure TeardownRun where
  state : State
  cancelled : Nat
  locks : Nat
  deleted : Nat
  heads : List SlotNo
  due : Bool
  deriving DecidableEq, Repr

/-- The requests taken off the pending list for one tag. -/
def TeardownJob.takenFor (j : TeardownJob) (t : Tag) : Option PendingRequest := j.taken.find? (fun r => r.tag == t)

/-- Stage 1 for a tag with a wait record whose object's record passes its check: the waiter is removed, and replied
CANCELLED with W set after a CLOSE only (R139). -/
def stageOneRemove (j : TeardownJob) (x : TeardownRun) (w : WaitRecord) : TeardownRun :=
  let heads := match x.state.strictHead w with
    | some i => i :: x.heads
    | none => x.heads
  if j.cause = .closed then
    { x with state := State.dismiss .cancelled x.state w, cancelled := x.cancelled + 1, heads := heads }
  else { x with state := x.state.removeWaiter w, heads := heads }

/-- Stage 1 for one tag of the ending port (R139). -/
def stageOneTag (p : Port) (j : TeardownJob) (x : TeardownRun) (t : Tag) : TeardownRun :=
  match x.state.waiterOf p t with
  | some w =>
    let v := x.state.verify w.target.slot
    if v.failed then { x with state := v.state, due := x.due || v.due } else stageOneRemove j x w
  | none =>
    match j.takenFor t with
    | some r =>
      { x with
        state := x.state.complete ⟨p, r.tag, r.gen⟩ r.request.code (.refuse .cancelled)
        cancelled := x.cancelled + 1 }
    | none => x

/-- Stage 1: the tags in ascending order, then a scan of each STRICT cell whose head was removed, in ascending slot
order (R139, R140). -/
def stageOne (p : Port) (j : TeardownJob) (x : TeardownRun) : TeardownRun :=
  let y := allTags.foldl (stageOneTag p j) x
  { y with state := (allSlots.filter (fun i => y.heads.contains i)).foldl State.scan y.state }

/-- Abandonment of one lock: free, count 0 and damaged; with waiters, handed to the oldest with W and D (R100). -/
def abandonLock (i : SlotNo) (r : ObjectRecord) (s : State) : State :=
  match (s.waitList (.object i)).head? with
  | none => s.writeRecord i (r.withLock none 0 true)
  | some w => (s.assignLock i r true w).replyHandOff i true w

/-- Stage 2 for one slot: a lock held by the ending session is abandoned, or quarantined and skipped when its record
fails its check (R100, R141). -/
def stageTwoSlot (ending : SessionId) (x : TeardownRun) (i : SlotNo) : TeardownRun :=
  match x.state.object i with
  | some r =>
    match r.part with
    | .lock (some holder) _ _ =>
      if holder = ending ∧ r.quarantined = false then
        if r.failsCheck then { x with state := x.state.quarantine i r, due := x.due || x.state.quarantineDue i r }
        else { x with state := abandonLock i r x.state, locks := x.locks + 1 }
      else x
    | _ => x
  | none => x

/-- Stage 2: the locks of the ending session in ascending slot order (R141). -/
def stageTwo (ending : SessionId) (x : TeardownRun) : TeardownRun := allSlots.foldl (stageTwoSlot ending) x

/-- Stage 3 for one slot: an object scoped to the ending session is verified, quarantined when it fails, and deleted
with the pool service of its own (R10, R14, R142). -/
def stageThreeSlot (ending : SessionId) (x : TeardownRun) (i : SlotNo) : TeardownRun :=
  match x.state.object i with
  | some r =>
    if r.isScoped ∧ r.creator = ending then
      let v := x.state.verify i
      let served := v.state.deletionDue i
      { x with
        state := (v.state.deleteObject i).poolServiceIf served
        deleted := x.deleted + 1
        due := x.due || v.due || served }
    else x
  | none => x

/-- Stage 3: the objects scoped to the ending session in ascending slot order (R142). -/
def stageThree (ending : SessionId) (x : TeardownRun) : TeardownRun := allSlots.foldl (stageThreeSlot ending) x

/-- Stage 4: pool service once more when stage 1 or stage 3 called for it (R142). -/
def stageFour (x : TeardownRun) : TeardownRun := { x with state := x.state.poolServiceIf x.due }

/-- Stage 5: the alert for an end the client did not ask for (R143). -/
def stageFive (ending : SessionId) (cause : EndCause) (x : TeardownRun) : TeardownRun :=
  match cause with
  | .lapsed => { x with state := x.state.appendAlert (.lapsed ending) }
  | .broken => { x with state := x.state.appendAlert (.broken ending) }
  | .forced => { x with state := x.state.appendAlert (.forced ending) }
  | .closed => x
  | .none => x

/-- The tag table emptied and the session CLOSED; its number, limit, label and cause keep their values (R144). -/
def PortState.becomeClosed (x : PortState) : PortState :=
  { x with
    session := { x.session with state := .closed }
    tags := Vector.replicate 4 TagEntry.reset }

/-- Stage 6: after a CLOSE its reply with the three counts, whose last byte will close the session; after any other end
the session is CLOSED at once (R144). -/
def stageSix (p : Port) (j : TeardownJob) (x : TeardownRun) : State :=
  match j.closing with
  | some (t, g) =>
    x.state.completeFor .closeReply ⟨p, t, g⟩ RequestCode.closeSession.byte
      (.ok (.closed x.cancelled x.locks x.deleted))
  | none => x.state.setPort p (x.state.port p).becomeClosed

/-- The teardown job: six stages in order (R138). -/
def jobTeardown (p : Port) (j : TeardownJob) (s : State) : State :=
  stageSix p j <| stageFive ⟨p, j.number⟩ j.cause <| stageFour <| stageThree ⟨p, j.number⟩ <| stageTwo ⟨p, j.number⟩ <|
    stageOne p j ⟨s, 0, 0, 0, [], false⟩

/-- The arbiter takes a port's teardown job, when it is the job it takes next (R2, R138). -/
def takeTeardownJob (p : Port) (s : State) : State :=
  match s.nextJob with
  | some (.teardown p' j) => if p' = p then runJob (jobTeardown p j) (s.takeTeardown p) else s
  | _ => s

/-! ### The commands -/

/-- SUPPLY_POWER_UP: the part leaves its self-held reset if RESETN is high, and stays in reset if it is low; the straps
are those on the pins (R147, R160). -/
def execSupplyPowerUp (resetn : Level) (straps : Straps) (s : State) : Host.Outcome State Fault Refusal :=
  .next { s with resetn := resetn, straps := straps }.resetPart

/-- POWER_ON_RESET: RESETN is held low and returns high; the straps are sampled as it does (R147, R160). -/
def execPowerOnReset (straps : Straps) (s : State) : Host.Outcome State Fault Refusal :=
  .next { s with resetn := .mark, straps := straps }.resetPart

/-- LAPSE (R132). -/
def execLapse (p : Port) (s : State) : Host.Outcome State Fault Refusal := perform (lapsePort p) s

/-- TEARDOWN (R138 to R144). -/
def execTeardown (p : Port) (s : State) : Host.Outcome State Fault Refusal := perform (takeTeardownJob p) s

end Sys2Proof.Machine
end

