-- ==== Sys2Proof/Machine/Admin.lean ====
section
/-! DEFINITION. The administrative requests SET_RIGHTS, FORCE_CLOSE, STORE_CLEAR, READ_ALERTS, STATS, SET_POOL_MARK and
PART_RESET (R163 to R175). -/

namespace Sys2Proof.Machine

/-- Step 2 of an administrative request: the port holds ADMIN (R163). -/
def State.asAdmin (s : State) (q : Sender) (code : RequestCode) (run : State) : State :=
  if (s.rightsOf q.port).admin then run else s.complete q code (.refuse .noRight)

/-- A request with a target port: RANGE for a port number above 7 (R163). -/
def State.withPort (s : State) (q : Sender) (code : RequestCode) (target : Byte) (run : Port → State) : State :=
  match portOf target with
  | some p => run p
  | none => s.complete q code (.refuse .range)

/-! ### SET_RIGHTS (R164) -/

/-- The target is the only port that holds ADMIN (R164). -/
def State.onlyAdmin (s : State) (p : Port) : Bool :=
  (s.rightsOf p).admin && allPorts.all (fun x => x == p || !(s.rightsOf x).admin)

/-- The SET_RIGHTS job: LAST_ADMIN, or the new set with the indications brought up to date before the reply (R164). -/
def jobSetRights (q : Sender) (target : Byte) (rights : Rights) (s : State) : State :=
  s.asAdmin q .setRights <| s.withPort q .setRights target fun p =>
    if s.onlyAdmin p && !rights.admin then s.complete q .setRights (.refuse .lastAdmin)
    else (s.setRights p rights).complete q .setRights (.ok (.rights p rights))

/-! ### FORCE_CLOSE (R136, R165) -/

/-- The FORCE_CLOSE job: RANGE for the requester's own port or a session that is not OPEN; else the target's session
ends with cause FORCED (R136, R165). -/
def jobForceClose (q : Sender) (target : Byte) (s : State) : State :=
  s.asAdmin q .forceClose <| s.withPort q .forceClose target fun p =>
    if p = q.port then s.complete q .forceClose (.refuse .range)
    else if (s.port p).session.state ≠ .opened then s.complete q .forceClose (.refuse .range)
    else (s.endAbruptly .forced p).complete q .forceClose (.ok (.forced p (s.port p).session.number))

/-! ### STORE_CLEAR (R166 to R168) -/

/-- What a STORE_CLEAR has done so far: objects deleted and waiters removed (R167). -/
structure ClearRun where
  state : State
  objects : Nat
  waiters : Nat
  deriving DecidableEq, Repr

/-- STORE_CLEAR treats one slot: an occupied slot's record is verified, quarantined when it fails, and its object
deleted; the waiters that quarantine or deletion removed are counted (R166 to R168). -/
def clearSlot (x : ClearRun) (i : SlotNo) : ClearRun :=
  match x.state.object i with
  | some _ =>
    ⟨(x.state.verify i).state.deleteObject i, x.objects + 1, x.waiters + (x.state.deletionWaiters i).length⟩
  | none => x

/-- Every slot in ascending order (R166). -/
def clearSlots (s : State) : ClearRun := allSlots.foldl clearSlot ⟨s, 0, 0⟩

/-- The STORE_CLEAR job: every object deleted, pool service once, then its own reply (R166, R167). -/
def jobStoreClear (q : Sender) (s : State) : State :=
  s.asAdmin q .storeClear <|
    (clearSlots s).state.poolService.complete q .storeClear
      (.ok (.cleared (clearSlots s).objects (clearSlots s).waiters))

/-! ### READ_ALERTS, STATS and SET_POOL_MARK (R171, R172, R174) -/

/-- The READ_ALERTS job: up to 4 alerts leave the head, the dropped count is read and cleared (R171). -/
def jobReadAlerts (q : Sender) (s : State) : State :=
  s.asAdmin q .readAlerts <|
    (s.setAlerts (s.alerts.drop Config.alertsPerRead) 0).complete q .readAlerts
      (.ok (.alerts (s.alerts.take Config.alertsPerRead) (s.alerts.drop Config.alertsPerRead).length s.dropped))

/-- The snapshot a STATS reports (R174). -/
def State.statsData (s : State) (p : Port) : ReplyData :=
  .statistics p (s.port p).stats (s.port p).session.state (s.port p).session.number (s.port p).session.silence
    (s.port p).session.cause (s.port p).session.label

/-- The STATS job: the snapshot, and all eleven set to 0 at the same moment when asked (R159, R174). -/
def jobStats (q : Sender) (target : Byte) (clear : Bool) (s : State) : State :=
  s.asAdmin q .stats <| s.withPort q .stats target fun p =>
    (if clear then s.setPort p { s.port p with stats := Statistics.reset } else s).complete q .stats
      (.ok (s.statsData p))

/-- The SET_POOL_MARK job (R172). -/
def jobSetPoolMark (q : Sender) (mark : Half) (s : State) : State :=
  s.asAdmin q .setPoolMark <|
    if Config.poolEntries < mark.toNat then s.complete q .setPoolMark (.refuse .range)
    else { s with poolMark := mark.toNat }.complete q .setPoolMark (.ok (.mark mark.toNat s.free))

/-! ### PART_RESET (R175) -/

/-- The PART_RESET job: OK, and the part enters reset pending (R175). -/
def jobPartReset (q : Sender) (s : State) : State :=
  s.asAdmin q .partReset <|
    { s.completeFor .partResetReply q RequestCode.partReset.byte (.ok .none) with resetPending := true }

/-! ### The commands -/

/-- SET_RIGHTS (R164). -/
def execSetRights (q : Sender) (target : Byte) (rights : Rights) (s : State) : Host.Outcome State Fault Refusal :=
  perform (requestJob q (.setRights target rights) (jobSetRights q target rights)) s

/-- FORCE_CLOSE (R136, R165). -/
def execForceClose (q : Sender) (target : Byte) (s : State) : Host.Outcome State Fault Refusal :=
  perform (requestJob q (.forceClose target) (jobForceClose q target)) s

/-- STORE_CLEAR (R166 to R168). -/
def execStoreClear (q : Sender) (s : State) : Host.Outcome State Fault Refusal :=
  perform (requestJob q .storeClear (jobStoreClear q)) s

/-- READ_ALERTS (R171). -/
def execReadAlerts (q : Sender) (s : State) : Host.Outcome State Fault Refusal :=
  perform (requestJob q .readAlerts (jobReadAlerts q)) s

/-- STATS (R159, R174). -/
def execStats (q : Sender) (target : Byte) (clear : Bool) (s : State) : Host.Outcome State Fault Refusal :=
  perform (requestJob q (.stats target clear) (jobStats q target clear)) s

/-- SET_POOL_MARK (R172). -/
def execSetPoolMark (q : Sender) (mark : Half) (s : State) : Host.Outcome State Fault Refusal :=
  perform (requestJob q (.setPoolMark mark) (jobSetPoolMark q mark)) s

/-- PART_RESET (R175). -/
def execPartReset (q : Sender) (s : State) : Host.Outcome State Fault Refusal :=
  perform (requestJob q .partReset (jobPartReset q)) s

end Sys2Proof.Machine
end

