-- ==== Sys2Proof/Machine/Cells.lean ====
section
/-! DEFINITION. The cell requests READ, EXCHANGE, ADD, SETMASK, CLEARMASK, COMPARESWAP, EXTRACT, INSERT, and SET_ORDER
(R23 to R41). -/

namespace Sys2Proof.Machine

/-- A cell request at step 8: carried out when its guard holds, with a scan after its reply when the value has changed;
else replied GUARD_FALSE or placed as a waiter (R25, R40, R45). -/
def runCell (q : Sender) (h : Handle) (op : CellOp) (guard : Guard) (wait : Half) (s : State) (r : ObjectRecord)
    (value : Word) (order : Order) : State :=
  if guardHolds guard value then
    ((s.writeRecord h.slot { r with part := .cell (cellAct op value).after order }).complete q .cellOp
      ⟨.ok, (cellAct op value).flags, .cell value (cellAct op value).result⟩).scanIf
        (if (cellAct op value).after = value then none else some h.slot)
  else if wait = 0#16 then s.complete q .cellOp ⟨.guardFalse, flagsOn value, .cell value value⟩
  else s.place q (.cell op guard) h wait (.object h.slot)

/-- The job of every cell request (R24, R25). -/
def jobCell (q : Sender) (h : Handle) (op : CellOp) (guard : Guard) (wait : Half) (s : State) : State :=
  s.withObject q .cellOp h (Checks.ofKind KindPart.isCell fun _ => cellInRange op) fun r =>
    match r.part with
    | .cell value order => runCell q h op guard wait s r value order
    | _ => s

/-- The SET_ORDER job: the policy is written, the reply carries it and the value, and the list is scanned (R39). -/
def jobSetOrder (q : Sender) (h : Handle) (order : Order) (s : State) : State :=
  s.withObject q .setOrder h (Checks.ofKind KindPart.isCell fun _ => true) fun r =>
    match r.part with
    | .cell value _ =>
      ((s.writeRecord h.slot { r with part := .cell value order }).complete q .setOrder (.ok (.order order value))).scan
        h.slot
    | _ => s

/-! ### The commands -/

/-- READ (R28). -/
def execRead (q : Sender) (h : Handle) (guard : Guard) (wait : Half) (s : State) : Host.Outcome State Fault Refusal :=
  perform (requestJob q (.cell h .read guard wait) (jobCell q h .read guard wait)) s

/-- EXCHANGE (R29). -/
def execExchange (q : Sender) (h : Handle) (guard : Guard) (wait : Half) (newValue : Word) (s : State) :
    Host.Outcome State Fault Refusal :=
  perform (requestJob q (.cell h (.exchange newValue) guard wait) (jobCell q h (.exchange newValue) guard wait)) s

/-- ADD (R30). -/
def execAdd (q : Sender) (h : Handle) (guard : Guard) (wait : Half) (addend : Word) (s : State) :
    Host.Outcome State Fault Refusal :=
  perform (requestJob q (.cell h (.add addend) guard wait) (jobCell q h (.add addend) guard wait)) s

/-- SETMASK (R31). -/
def execSetmask (q : Sender) (h : Handle) (guard : Guard) (wait : Half) (mask : Word) (s : State) :
    Host.Outcome State Fault Refusal :=
  perform (requestJob q (.cell h (.setmask mask) guard wait) (jobCell q h (.setmask mask) guard wait)) s

/-- CLEARMASK (R32). -/
def execClearmask (q : Sender) (h : Handle) (guard : Guard) (wait : Half) (mask : Word) (s : State) :
    Host.Outcome State Fault Refusal :=
  perform (requestJob q (.cell h (.clearmask mask) guard wait) (jobCell q h (.clearmask mask) guard wait)) s

/-- COMPARESWAP (R33). -/
def execCompareswap (q : Sender) (h : Handle) (guard : Guard) (wait : Half) (expected newValue : Word) (s : State) :
    Host.Outcome State Fault Refusal :=
  perform (requestJob q (.cell h (.compareswap expected newValue) guard wait)
    (jobCell q h (.compareswap expected newValue) guard wait)) s

/-- EXTRACT (R35). -/
def execExtract (q : Sender) (h : Handle) (guard : Guard) (wait : Half) (pos size : Byte) (signed : Bool) (s : State) :
    Host.Outcome State Fault Refusal :=
  perform (requestJob q (.cell h (.extract pos size signed) guard wait)
    (jobCell q h (.extract pos size signed) guard wait)) s

/-- INSERT (R36). -/
def execInsert (q : Sender) (h : Handle) (guard : Guard) (wait : Half) (pos size : Byte) (field : Word) (s : State) :
    Host.Outcome State Fault Refusal :=
  perform (requestJob q (.cell h (.insert pos size field) guard wait)
    (jobCell q h (.insert pos size field) guard wait)) s

/-- SET_ORDER (R39). -/
def execSetOrder (q : Sender) (h : Handle) (order : Order) (s : State) : Host.Outcome State Fault Refusal :=
  perform (requestJob q (.setOrder h order) (jobSetOrder q h order)) s

end Sys2Proof.Machine
end

