-- ==== Sys2Proof/Machine/Deadlines.lean ====
section
/-! DEFINITION. The deadline unit and CANCEL: TIMEBASE_TICK, DEADLINE_DUE, EXPIRY_JOB (R56 to R60) and CANCEL
(R62, R63). -/

namespace Sys2Proof.Machine

/-- The timebase advances by one and wraps (R56). -/
def tick (s : State) : State := { s with timebase := s.timebase + 1#32 }

/-- The TIMEOUT reply to a waiter, with the data of its object as it stands (R26, R60, R88, R99). -/
def State.timeoutAnswer (s : State) (w : WaitRecord) : Answer :=
  match w.request, (s.object w.target.slot).map ObjectRecord.part with
  | .cell _ _, some (.cell value _) => ⟨.timeout, (flagsOn value).withW true, .cell value value⟩
  | .put _ _, _ => ⟨.timeout, Flags.waited, .depth (s.account w.target.slot).depth⟩
  | .take _, _ => ⟨.timeout, Flags.waited, .depth (s.account w.target.slot).depth⟩
  | .acquire, some (.lock holder count damaged) => ⟨.timeout, Flags.lock damaged true, lockData holder count⟩
  | _, _ => Answer.dismissal .timeout

/-- A deadline has expired on a waiter: its object's record is verified; the waiter is removed and replied TIMEOUT, and
a STRICT cell that lost its head is scanned. When the check fails, quarantine replies it FAULT (R60). -/
def expireWaiter (w : WaitRecord) (s : State) : State :=
  let v := s.verify w.target.slot
  if v.failed then v.state.poolServiceIf v.due
  else ((s.removeWaiter w).complete w.sender w.request.code (s.timeoutAnswer w)).scanIf (s.strictHead w)

/-- The expiry job: a wait record with its port, tag and generation, or nothing when it is stale (R60). -/
def jobExpiry (q : Sender) (s : State) : State :=
  match s.waiterOf q.port q.tag with
  | some w => if w.sender.gen = q.gen then expireWaiter w s else s
  | none => s

/-- The arbiter takes the expiry job presented, when it is the job it takes next; the next entry that has fallen due is
presented before the job does anything (R2, R58, R60). -/
def takeExpiryJob (s : State) : State :=
  match s.nextJob with
  | some (.expiry q) => runJob (jobExpiry q) s.takeExpiry
  | _ => s

/-- A CANCEL that finds its target waiting: CANCELLED to the waiter, OK to the CANCEL, then the scan of a STRICT cell
that lost its head. When the record of the target's object fails its check, quarantine takes the target and the CANCEL
is replied NOT_WAITING (R62, R63). -/
def cancelWaiter (q : Sender) (w : WaitRecord) (s : State) : State :=
  let v := s.verify w.target.slot
  if v.failed then (v.state.complete q .cancel (.refuse .notWaiting)).poolServiceIf v.due
  else ((State.dismiss .cancelled s w).complete q .cancel (.ok .none)).scanIf (s.strictHead w)

/-- The CANCEL job (R62). -/
def jobCancel (q : Sender) (target : Tag) (s : State) : State :=
  match s.waiterOf q.port target with
  | some w => cancelWaiter q w s
  | none => s.complete q .cancel (.refuse .notWaiting)

/-! ### The commands -/

/-- TIMEBASE_TICK (R56). -/
def execTimebaseTick (s : State) : Host.Outcome State Fault Refusal := perform tick s

/-- DEADLINE_DUE (R58). -/
def execDeadlineDue (s : State) : Host.Outcome State Fault Refusal := perform presentExpiry s

/-- EXPIRY_JOB (R60). -/
def execExpiryJob (s : State) : Host.Outcome State Fault Refusal := perform takeExpiryJob s

/-- CANCEL (R62, R63). -/
def execCancel (q : Sender) (target : Tag) (s : State) : Host.Outcome State Fault Refusal :=
  perform (requestJob q (.cancel target) (jobCancel q target)) s

end Sys2Proof.Machine
end

