-- ==== Sys2Proof/Machine/Ports.lean ====
section
/-! DEFINITION. The port unit's decode (R108 to R114) and the requests it answers itself: NOP, IDENTIFY, QUERY_TAGS, OPEN
and CLOSE (R113, R123 to R125, R129, R130, R134). -/

namespace Sys2Proof.Machine

/-! ### Answers and refusals of a port unit -/

/-- A port refusal: an untracked frame that echoes the code, tag and generation (R114). -/
def State.refusePort (s : State) (q : Sender) (code : Byte) (x : Answer) : State :=
  s.setPort q.port ((s.port q.port).sendUntracked (s.replyTo q code x) true)

/-- An answer in the CLOSED state: an untracked frame that raises no statistic when it is enqueued (R113, R158). -/
def State.answerUntracked (s : State) (q : Sender) (code : RequestCode) (x : Answer) : State :=
  s.setPort q.port ((s.port q.port).sendUntracked (s.replyTo q code.byte x) false)

/-- The timer of a session with this silence limit, restarted now: stopped for a limit of 0 (R131; log 9). -/
def State.silenceTimer (s : State) (silence : Half) : Timer :=
  if silence = 0#16 then .stopped else .running (s.timebase + silence.setWidth 32)

/-- Every good frame decoded in an OPEN session restarts the silence timer, whatever its outcome (R131). -/
def State.restartTimer (s : State) (p : Port) : State :=
  if (s.port p).session.state = .opened then
    s.setPort p { s.port p with
      session := { (s.port p).session with timer := s.silenceTimer (s.port p).session.silence } }
  else s

/-! ### Opening a session (R128 to R130) -/

/-- The session number advances: 65,535 becomes 1 (R128). -/
def nextSession (n : Half) : Half := if n = 0xFFFF#16 then 1#16 else n + 1#16

/-- What an OPEN or SESSION_OPEN reply carries, with an end cause (R129, R130). -/
def sessionData (p : Port) (x : Session) : ReplyData := .session x.number p x.silence x.cause

/-- The record of a session opened now (R129). -/
def State.openedSession (s : State) (p : Port) (silence : Half) (label : Label) : Session where
  state := .opened
  number := nextSession (s.port p).session.number
  silence := silence
  label := labelGiven label
  cause := (s.port p).session.cause
  timer := s.silenceTimer silence

/-- The OK reply to an OPEN goes out as a tag frame and is not cached (R113, R129). -/
def PortState.sendUncached (x : PortState) (t : Tag) (r : Reply) : PortState :=
  { x.setTagState t (.replying r.gen) with queue := x.queue ++ [⟨some t, r, .plain⟩] }

/-- An OPEN decoded in the CLOSED state: RANGE, or the session opened and replied (R113, R129). -/
def State.openSession (s : State) (q : Sender) (silence : Half) (label : Label) : State :=
  if silenceInRange silence && labelInRange label then
    s.setPort q.port
      (({ s.port q.port with session := s.openedSession q.port silence label }.counting countSessionOpened).sendUncached
        q.tag (s.replyTo q RequestCode.openSession.byte
          (.ok (sessionData q.port (s.openedSession q.port silence label)))))
  else s.answerUntracked q .openSession (.refuse .range)

/-! ### The requests a port unit answers itself in an OPEN session -/

/-- The identity of the part and the port's number (R124). -/
def identifyAnswer (p : Port) : Answer := .ok (.identify p)

/-- The report of the tag table: each tag's state and cached generation (R125). -/
def tagReport (x : PortState) : List (TagState × Option Gen) :=
  allTags.map fun t => ((x.tag t).state, (x.tag t).cache.map Reply.gen)

/-- An accepted request, its tag already PENDING: answered at once by the port unit, a CLOSE ends the session, and every
other request joins the tail of the pending list (R111, R115, R123 to R125, R130, R134). -/
def State.accept (s : State) (q : Sender) (r : Request) : State :=
  match r with
  | .nop => s.complete q .nop (.ok .none)
  | .identify => s.complete q .identify (identifyAnswer q.port)
  | .queryTags => s.complete q .queryTags (.ok (.tags (tagReport (s.port q.port))))
  | .openSession _ _ =>
    s.complete q .openSession (.report .sessionOpen (sessionData q.port (s.port q.port).session))
  | .closeSession => s.setPort q.port ((s.port q.port).endByClose q.tag q.gen)
  | _ => s.setPort q.port { s.port q.port with requests := (s.port q.port).requests ++ [⟨q.tag, q.gen, r⟩] }

/-- A tag set PENDING with a generation (R111). -/
def State.pendTag (s : State) (q : Sender) : State :=
  s.setPort q.port ((s.port q.port).setTagState q.tag (.pending q.gen))

/-- The cached reply is enqueued again as a tag frame and counted (R111). -/
def State.replay (s : State) (q : Sender) (cached : Reply) : State :=
  s.setPort q.port (((s.port q.port).sendTagFrame q.tag cached .plain).counting countReplay)

/-- Check 3 in an OPEN session: replay, accepted, duplicate or TAG_BUSY, by generations alone (R111, R112). -/
def State.checkTag (s : State) (q : Sender) (r : Request) : State :=
  match ((s.port q.port).tag q.tag).state with
  | .idle =>
    match ((s.port q.port).tag q.tag).cache with
    | some cached => if cached.gen = q.gen then s.replay q cached else (s.pendTag q).accept q r
    | none => (s.pendTag q).accept q r
  | busy =>
    if busy.gen? = some q.gen then s.setPort q.port ((s.port q.port).counting countDuplicate)
    else s.refusePort q r.code.byte (.report .tagBusy (.tagBusy busy))

/-- Check 2, and what follows it, for a request decoded in the CLOSED state (R110, R113). -/
def State.decodeClosed (s : State) (q : Sender) (r : Request) : State :=
  match r with
  | .nop => s.answerUntracked q .nop (.ok .none)
  | .identify => s.answerUntracked q .identify (identifyAnswer q.port)
  | .openSession silence label => s.openSession q silence label
  | _ => s.refusePort q r.code.byte (.refuse .noSession)

/-- The decode of a well-formed request: the timer, then checks 2 and 3 (R108, R110, R111, R131). -/
def decodeRequest (q : Sender) (r : Request) (s : State) : State :=
  match (s.port q.port).session.state with
  | .closed => s.decodeClosed q r
  | .opened => (s.restartTimer q.port).checkTag q r
  | .closing => s.refusePort q r.code.byte (.refuse .closing)

/-- The decode of a body: BAD_REQUEST for a malformed one, which restarts the timer too (R108, R109, R131). -/
def decodeFrame (p : Port) (body : List Byte) (s : State) : State :=
  match decodeBody body with
  | .short => s
  | .malformed code t g => (s.restartTimer p).refusePort ⟨p, t, g⟩ code (.refuse .badRequest)
  | .request t g r => decodeRequest ⟨p, t, g⟩ r s

/-! ### The commands -/

/-- NOP: the port unit decodes a NOP (R123). -/
def execNop (q : Sender) (s : State) : Host.Outcome State Fault Refusal := perform (decodeRequest q .nop) s

/-- IDENTIFY: the port unit decodes an IDENTIFY (R124). -/
def execIdentify (q : Sender) (s : State) : Host.Outcome State Fault Refusal := perform (decodeRequest q .identify) s

/-- QUERY_TAGS: the port unit decodes a QUERY_TAGS (R125). -/
def execQueryTags (q : Sender) (s : State) : Host.Outcome State Fault Refusal := perform (decodeRequest q .queryTags) s

/-- OPEN: the port unit decodes an OPEN; one whose label is too long for its body is malformed (R109, R129, R130). -/
def execOpenSession (q : Sender) (silence : Half) (label : Label) (s : State) : Host.Outcome State Fault Refusal :=
  perform (fun s =>
    if label.fits then decodeRequest q (.openSession silence label) s
    else (s.restartTimer q.port).refusePort q RequestCode.openSession.byte (.refuse .badRequest)) s

/-- CLOSE: the port unit decodes a CLOSE (R134). -/
def execCloseSession (q : Sender) (s : State) : Host.Outcome State Fault Refusal :=
  perform (decodeRequest q .closeSession) s

end Sys2Proof.Machine
end

