-- ==== Sys2Proof/Machine/Links.lean ====
section
/-! DEFINITION. The link receivers and transmitters: CHARACTER_RECEIVED, FRAME_RECEIVED, GAP_ERROR, BREAK,
INPUT_LEVEL_CHANGE, TRANSMIT_START and FRAME_SENT (R148 to R157, R119, R144, R175). -/

namespace Sys2Proof.Machine

/-! ### Frame collection (R151 to R153) -/

/-- The gap timer restarted by a byte taken now (R154; log 10). -/
def State.gapTimer (s : State) : Timer := .running (s.timebase + Config.gapLimit)

/-- A receiver that has given up or finished a frame: HUNT, nothing collected, gap timer stopped (R152 to R155). -/
def Receiver.toHunt (x : Receiver) : Receiver :=
  { x with state := .hunt, partialFrame := [], bodyCount := 0, gapTimer := .stopped }

/-- A byte examined in HUNT: the start byte begins a frame, any other is ignored (R152). -/
def Receiver.hunt (gap : Timer) (b : Byte) (x : Receiver) : Receiver :=
  if b = Config.startByte then { x with state := .length, partialFrame := [], gapTimer := gap } else x

/-- A length byte lies in 2 to 64 (R149). -/
def lengthInRange (b : Byte) : Bool := 2 ≤ b.toNat && b.toNat ≤ 64

/-- A good length byte: kept, the body count set to it (R152). -/
def Receiver.takeLength (gap : Timer) (b : Byte) (x : Receiver) : Receiver :=
  { x with state := .body, partialFrame := [b], bodyCount := b.toNat, gapTimer := gap }

/-- A body byte: kept, the body count falls by one, and at 0 the check bytes follow (R152). -/
def Receiver.takeBody (gap : Timer) (b : Byte) (x : Receiver) : Receiver :=
  { x with
    state := if x.bodyCount - 1 = 0 then .check else .body
    partialFrame := x.partialFrame ++ [b]
    bodyCount := x.bodyCount - 1
    gapTimer := gap }

/-- The length byte of the frame being collected says how many bytes of it are length and body. -/
def Receiver.frameLength (x : Receiver) : Nat :=
  match x.partialFrame with
  | l :: _ => l.toNat + 1
  | [] => 0

/-- The receiver waits for the second check byte: the length, the body and one check byte are kept (R151). -/
def Receiver.awaitsLast (x : Receiver) : Bool := x.state == .check && x.partialFrame.length == x.frameLength + 1

/-- A port with its receiver replaced. -/
def PortState.withRx (x : PortState) (rx : Receiver) : PortState := { x with rx := rx }

/-- The second check byte: the frame check is tested over the length byte and body. A frame that fails is discarded and
counted; a good one is counted and its body handed to the port unit, which decodes it at once (R153). -/
def takeLastByte (p : Port) (b : Byte) (s : State) : State :=
  let rx := (s.port p).rx
  let collected := rx.partialFrame ++ [b]
  if halfBytes (frameCheck (collected.take rx.frameLength)) = collected.drop rx.frameLength then
    decodeFrame p ((collected.take rx.frameLength).drop 1)
      (s.setPort p (((s.port p).withRx rx.toHunt).counting countFrameAccepted))
  else s.setPort p (((s.port p).withRx rx.toHunt).counting countCheckError)

/-- A byte taken by the receiver, by its receive state (R152). -/
def takeByte (p : Port) (b : Byte) (s : State) : State :=
  let x := s.port p
  match x.rx.state with
  | .hunt => s.setPort p (x.withRx (x.rx.hunt s.gapTimer b))
  | .length =>
    if lengthInRange b then s.setPort p (x.withRx (x.rx.takeLength s.gapTimer b))
    else s.setPort p ((x.withRx (x.rx.toHunt.hunt s.gapTimer b)).counting countLengthError)
  | .body => s.setPort p (x.withRx (x.rx.takeBody s.gapTimer b))
  | .check =>
    if x.rx.awaitsLast then takeLastByte p b s
    else s.setPort p (x.withRx { x.rx with partialFrame := x.rx.partialFrame ++ [b], gapTimer := s.gapTimer })

/-! ### Characters and levels (R148, R155) -/

/-- A port with its character receiver at a phase. -/
def PortState.withPhase (x : PortState) (phase : CharacterPhase) : PortState :=
  x.withRx { x.rx with phase := phase }

/-- A character's stop bit is sampled at the level of the input: at mark the byte is taken, at space the character has a
framing fault and no byte is taken. No character is received at space before a start bit began, nor after a framing
fault until the input has returned to mark (R148; log 12). -/
def receiveCharacter (p : Port) (b : Byte) (s : State) : State :=
  match (s.port p).rxd, (s.port p).rx.phase with
  | _, .awaitingMark => s
  | .mark, _ => takeByte p b (s.setPort p ((s.port p).withPhase .waiting))
  | .space, .inCharacter => s.setPort p ((s.port p).withPhase .awaitingMark)
  | .space, .waiting => s

/-- The second check byte of a frame is received; in any other receive state the event is not this one (R153). -/
def receiveLastByte (p : Port) (b : Byte) (s : State) : State :=
  if (s.port p).rx.awaitsLast then receiveCharacter p b s else s

/-- A receiver when its input changes to space: a possible start bit begins and the break detector measures from now
(R148, R155). -/
def Receiver.toSpace (now : Word) (x : Receiver) : Receiver :=
  { x with
    breakDetector := .measuring now
    phase := match x.phase with
      | .waiting => .inCharacter
      | phase => phase }

/-- A receiver when its input returns to mark: the measurement is cleared and break reporting re-armed; a receiver held
by a framing fault looks for a start bit again (R148, R155). -/
def Receiver.toMark (x : Receiver) : Receiver :=
  { x with
    breakDetector := .atMark
    phase := match x.phase with
      | .awaitingMark => .waiting
      | phase => phase }

/-- The level of a link input changes (R148, R155). The pin is driven from outside, so it changes in reset too; the
receiver acts only while the part is out of reset (R160). -/
def changeLevel (p : Port) (level : Level) (s : State) : State :=
  if (s.port p).rxd = level then s
  else
    let x := { s.port p with rxd := level }
    match s.resetn, level with
    | .space, _ => s.setPort p { x with rx := Receiver.reset level }
    | .mark, .space => s.setPort p (x.withRx (x.rx.toSpace s.timebase))
    | .mark, .mark => s.setPort p (x.withRx x.rx.toMark)

/-- The level of a rate strap changes: the line rate stays as sampled until the next reset (R147). -/
def changeStraps (f : Straps → Straps) (s : State) : State := { s with straps := f s.straps }

/-- The level of an input pin changes (R147, R148, R155; log 27). -/
def changePin (pin : InputPin) (level : Level) (s : State) : State :=
  match pin with
  | .link p => changeLevel p level s
  | .ratesel1 => changeStraps (fun x => { x with sel1 := level }) s
  | .ratesel0 => changeStraps (fun x => { x with sel0 := level }) s

/-! ### Gap errors and breaks (R154, R155, R135) -/

/-- A frame in progress has a gap error: the partial frame is discarded and counted (R154). -/
def PortState.giveUpFrame (x : PortState) : PortState := (x.withRx x.rx.toHunt).counting countGapError

/-- The gap timer expires (R154). A timer that is stopped or whose time has not been reached does not expire. -/
def gapExpires (p : Port) (s : State) : State :=
  if (s.port p).rx.gapTimer.expired s.timebase then s.setPort p (s.port p).giveUpFrame else s

/-- Whether a break can be reported now: the input has stayed at space for 2 ms and no break has been reported since it
changed (R155; log 10). -/
def BreakDetector.due (x : BreakDetector) (now : Word) : Bool :=
  match x with
  | .measuring since => reached (since + Config.breakTime) now
  | .atMark => false
  | .reported => false

/-- A receiver that reports a break: partial frame discarded, gap timer stopped, HUNT (R155). -/
def Receiver.reportBreak (x : Receiver) : Receiver := { x.toHunt with breakDetector := .reported }

/-- A port at a break, with a frame in progress or none: a break in the middle of a frame is always preceded by the gap
error of that frame, so a gap timer still running has expired by then (R155; log 28). -/
def PortState.beforeBreak (x : PortState) : PortState :=
  match x.rx.gapTimer with
  | .stopped => x
  | .running _ => x.giveUpFrame

/-- A break is counted by the receiver, after the gap error of a frame in progress (R155). -/
def PortState.countedBreak (x : PortState) : PortState :=
  (x.beforeBreak.withRx x.beforeBreak.rx.reportBreak).counting countBreak

/-- A break is reported and counted, and ends an OPEN session with cause BROKEN (R135, R155). -/
def reportBreak (p : Port) (s : State) : State :=
  if (s.port p).rx.breakDetector.due s.timebase then
    let s' := s.setPort p (s.port p).countedBreak
    if (s.port p).session.state = .opened then s'.endAbruptly .broken p else s'
  else s

/-! ### The transmitter (R119, R144, R156, R175) -/

/-- The transmitter, when free, begins to send the head frame of the queue (R156). -/
def startTransmit (p : Port) (s : State) : State :=
  match (s.port p).tx, (s.port p).queue with
  | .free, f :: _ => s.setPort p { s.port p with tx := .sending (frameBytes f.reply.body) }
  | _, _ => s

/-- The port unit learns that a frame's last byte has gone: the frame leaves the queue, and its tag, if any, becomes
IDLE with its cache kept (R119). -/
def PortState.frameGone (x : PortState) (f : TxFrame) (rest : List TxFrame) : PortState :=
  { (match f.tag with
      | some t => x.setTagState t .idle
      | none => x) with
    queue := rest
    tx := .free }

/-- The last byte of the head frame has been sent (R119). After it, the CLOSE reply closes its session (R144) and the
PART_RESET reply resets the part (R175). -/
def finishTransmit (p : Port) (s : State) : State :=
  match (s.port p).tx, (s.port p).queue with
  | .sending _, f :: rest =>
    let x := (s.port p).frameGone f rest
    match f.purpose with
    | .plain => s.setPort p x
    | .closeReply => s.setPort p (if x.session.state = .closing then x.becomeClosed else x)
    | .partResetReply => (s.setPort p x).resetPart
  | _, _ => s

/-! ### The commands -/

/-- CHARACTER_RECEIVED (R148, R152). -/
def execCharacterReceived (p : Port) (b : Byte) (s : State) : Host.Outcome State Fault Refusal :=
  perform (receiveCharacter p b) s

/-- FRAME_RECEIVED (R153). -/
def execFrameReceived (p : Port) (b : Byte) (s : State) : Host.Outcome State Fault Refusal :=
  perform (receiveLastByte p b) s

/-- GAP_ERROR (R154). -/
def execGapError (p : Port) (s : State) : Host.Outcome State Fault Refusal := perform (gapExpires p) s

/-- BREAK (R135, R155). -/
def execLineBreak (p : Port) (s : State) : Host.Outcome State Fault Refusal := perform (reportBreak p) s

/-- INPUT_LEVEL_CHANGE (R147, R148, R155). -/
def execInputLevelChange (pin : InputPin) (level : Level) (s : State) : Host.Outcome State Fault Refusal :=
  .next (changePin pin level s)

/-- TRANSMIT_START (R156). -/
def execTransmitStart (p : Port) (s : State) : Host.Outcome State Fault Refusal := perform (startTransmit p) s

/-- FRAME_SENT (R119, R144, R175). -/
def execFrameSent (p : Port) (s : State) : Host.Outcome State Fault Refusal := perform (finishTransmit p) s

end Sys2Proof.Machine
end

