-- ==== Sys2Proof/Machine/Locks.lean ====
section
/-! DEFINITION. The lock requests ACQUIRE, RELEASE and RESTORE (R90 to R98). -/

namespace Sys2Proof.Machine

/-- The checks of a lock request (R90). -/
def lockChecks : Checks := Checks.ofKind KindPart.isLock fun _ => true

/-- A reply to a lock request that did not wait: the lock data as given, D as the damaged flag stands (R91). -/
def lockAnswer (status : Status) (damaged : Bool) (holder : Option SessionId) (count : Nat) : Answer :=
  ⟨status, Flags.lock damaged false, lockData holder count⟩

/-- ACQUIRE at step 8: a free lock is taken, a held one re-entered by its own session up to 255, and otherwise the
request is replied HELD or waits (R92 to R94). -/
def runAcquire (q : Sender) (h : Handle) (wait : Half) (s : State) (r : ObjectRecord) (holder : Option SessionId)
    (count : Nat) (damaged : Bool) : State :=
  match holder with
  | none =>
    (s.writeRecord h.slot (r.withLock (some (s.sessionOf q.port)) 1 damaged)).complete q .acquire
      (lockAnswer .ok damaged (some (s.sessionOf q.port)) 1)
  | some owner =>
    if owner = s.sessionOf q.port then
      if count < Config.holdMax then
        (s.writeRecord h.slot (r.withLock holder (count + 1) damaged)).complete q .acquire
          (lockAnswer .ok damaged holder (count + 1))
      else s.complete q .acquire (lockAnswer .limit damaged holder count)
    else if wait = 0#16 then s.complete q .acquire (lockAnswer .held damaged holder count)
    else s.place q .acquire h wait (.object h.slot)

/-- The ACQUIRE job. -/
def jobAcquire (q : Sender) (h : Handle) (wait : Half) (s : State) : State :=
  s.withObject q .acquire h lockChecks fun r =>
    match r.part with
    | .lock holder count damaged => runAcquire q h wait s r holder count damaged
    | _ => s

/-- The holder's last hold is released: the lock becomes free, or is handed to the oldest waiter, the RELEASE replied
first (R96, R97). -/
def releaseLast (q : Sender) (h : Handle) (s : State) (r : ObjectRecord) (damaged : Bool) : State :=
  match (s.waitList (.object h.slot)).head? with
  | none =>
    (s.writeRecord h.slot (r.withLock none 0 damaged)).complete q .release (lockAnswer .ok damaged none 0)
  | some w =>
    ((s.assignLock h.slot r damaged w).complete q .release
      ⟨.ok, Flags.lock damaged false, .lock (some w.sender.port) 0⟩).replyHandOff h.slot damaged w

/-- RELEASE at step 8 (R95, R96). -/
def runRelease (q : Sender) (h : Handle) (s : State) (r : ObjectRecord) (holder : Option SessionId) (count : Nat)
    (damaged : Bool) : State :=
  if holder = some (s.sessionOf q.port) then
    if 1 < count then
      (s.writeRecord h.slot (r.withLock holder (count - 1) damaged)).complete q .release
        (lockAnswer .ok damaged holder (count - 1))
    else releaseLast q h s r damaged
  else s.complete q .release (lockAnswer .notOwner damaged holder count)

/-- The RELEASE job. -/
def jobRelease (q : Sender) (h : Handle) (s : State) : State :=
  s.withObject q .release h lockChecks fun r =>
    match r.part with
    | .lock holder count damaged => runRelease q h s r holder count damaged
    | _ => s

/-- RESTORE at step 8: the holder clears the damaged flag (R98). -/
def runRestore (q : Sender) (h : Handle) (s : State) (r : ObjectRecord) (holder : Option SessionId) (count : Nat)
    (damaged : Bool) : State :=
  if holder = some (s.sessionOf q.port) then
    (s.writeRecord h.slot (r.withLock holder count false)).complete q .restore (lockAnswer .ok false holder count)
  else s.complete q .restore (lockAnswer .notOwner damaged holder count)

/-- The RESTORE job. -/
def jobRestore (q : Sender) (h : Handle) (s : State) : State :=
  s.withObject q .restore h lockChecks fun r =>
    match r.part with
    | .lock holder count damaged => runRestore q h s r holder count damaged
    | _ => s

/-! ### The commands -/

/-- ACQUIRE (R92 to R94). -/
def execAcquire (q : Sender) (h : Handle) (wait : Half) (s : State) : Host.Outcome State Fault Refusal :=
  perform (requestJob q (.acquire h wait) (jobAcquire q h wait)) s

/-- RELEASE (R95 to R97). -/
def execRelease (q : Sender) (h : Handle) (s : State) : Host.Outcome State Fault Refusal :=
  perform (requestJob q (.release h) (jobRelease q h)) s

/-- RESTORE (R98). -/
def execRestore (q : Sender) (h : Handle) (s : State) : Host.Outcome State Fault Refusal :=
  perform (requestJob q (.restore h) (jobRestore q h)) s

end Sys2Proof.Machine
end

