-- ==== Sys2Proof/Machine/Objects.lean ====
section
/-! DEFINITION. The object requests: CREATE, DELETE, DESCRIBE, FIND and SET_ACCESS (R11 to R17). -/

namespace Sys2Proof.Machine

/-! ### CREATE (R11, R12) -/

/-- Step 2 of CREATE: label characters, a queue's limit and reserve (R11). -/
def createInRange (kind : KindParams) (label : Label) : Bool :=
  labelInRange label &&
    match kind with
    | .queue limit reserve => 1 ≤ limit.toNat && limit.toNat ≤ 2048 && reserve.toNat ≤ limit.toNat
    | _ => true

/-- The slot a CREATE uses: the requested one if empty, or the lowest-numbered empty one (R11, R12). -/
def State.slotFor (s : State) (choice : SlotChoice) : Option SlotNo :=
  match choice with
  | .slot n => if (s.object n).isNone then some n else none
  | .any => allSlots.find? (fun i => (s.object i).isNone)

/-- The status when no slot can be used (R11). -/
def takenStatus : SlotChoice → Status
  | .slot _ => .slotTaken
  | .any => .storeFull

/-- The label, if one is given, is in the label map (R11). -/
def State.labelInMap (s : State) (label : Label) : Bool :=
  match labelGiven label with
  | some l => s.labelMap.any (fun e => e.1 == l)
  | none => false

/-- The reserve a CREATE asks for. -/
def kindReserve : KindParams → Nat
  | .queue _ reserve => reserve.toNat
  | _ => 0

/-- The kind part a CREATE writes: a cell's value and policy, a free undamaged lock (R8, R22, R89). -/
def kindPartOf : KindParams → KindPart
  | .cell initial order => .cell initial order
  | .queue _ _ => .queue
  | .lock => .lock none 0 false

/-- The accounting a CREATE makes: a queue of depth 0 (R12, R66). -/
def accountOf : KindParams → Option QueueAccount
  | .queue limit reserve => some ⟨[], limit.toNat, reserve.toNat⟩
  | _ => none

/-- The new object is placed in its slot, with accounting and a label map entry as it needs (R12). -/
def State.placeObject (s : State) (q : Sender) (i : SlotNo) (access : Byte) (isScoped : Bool) (kind : KindParams)
    (label : Label) : State :=
  { (s.setQueue i (accountOf kind)).writeRecord i
      ⟨labelGiven label, accessWith access q.port, s.sessionOf q.port, isScoped, false, .agrees, kindPartOf kind⟩ with
    labelMap := match labelGiven label with
      | some l => s.labelMap ++ [(l, i)]
      | none => s.labelMap }

/-- The CREATE job, checked in the order of R11. -/
def jobCreate (q : Sender) (slot : SlotChoice) (access : Byte) (isScoped : Bool) (kind : KindParams) (label : Label)
    (s : State) : State :=
  if !(s.rightsOf q.port).create then s.complete q .create (.refuse .noRight)
  else if !createInRange kind label then s.complete q .create (.refuse .range)
  else
    match s.slotFor slot with
    | none => s.complete q .create (.refuse (takenStatus slot))
    | some i =>
      if s.labelInMap label then s.complete q .create (.refuse .labelTaken)
      else if s.free < s.outstanding + kindReserve kind then s.complete q .create (.refuse .noSpace)
      else (s.placeObject q i access isScoped kind label).complete q .create (.ok (.handle ⟨i, (s.slot i).stamp⟩))

/-! ### DELETE (R13, R14) -/

/-- The checks of DELETE: every kind, a quarantined object too, the DELETE right (R9). -/
def deleteChecks (q : Sender) : Checks := ⟨fun _ => true, false, true, fun s _ => (s.rightsOf q.port).delete, fun _ => true⟩

/-- The DELETE job: the deletion, then its own reply with the count of waiters, then pool service when it returned
entries or removed a reserve term (R13, R14). -/
def jobDelete (q : Sender) (h : Handle) (s : State) : State :=
  s.withObject q .delete h (deleteChecks q) fun _ =>
    ((s.deleteObject h.slot).complete q .delete (.ok (.deletedWaiters (s.deletionWaiters h.slot).length))).poolServiceIf
      (s.deletionDue h.slot)

/-! ### DESCRIBE (R15) -/

/-- The checks of DESCRIBE: every kind, a quarantined object too, no right (R9). -/
def describeChecks : Checks := ⟨fun _ => true, false, true, fun _ _ => true, fun _ => true⟩

/-- The kind data a DESCRIBE reports (R15). -/
def State.kindData (s : State) (i : SlotNo) (r : ObjectRecord) : KindData :=
  match r.part with
  | .cell value order => .cell value order
  | .queue => .queue (s.account i).depth (s.account i).limit (s.account i).reserve
  | .lock holder count damaged => .lock holder count damaged

/-- What a DESCRIBE reports of an object (R15). -/
def State.describeData (s : State) (i : SlotNo) (r : ObjectRecord) : ReplyData :=
  .describe (s.kindData i r) r.access r.creator r.isScoped r.quarantined (s.waitList (.object i)).length
    (s.poolPuts i).length r.label

/-- The DESCRIBE job (R15). -/
def jobDescribe (q : Sender) (h : Handle) (s : State) : State :=
  s.withObject q .describe h describeChecks fun r => s.complete q .describe (.ok (s.describeData h.slot r))

/-! ### FIND (R16) -/

/-- The slot the label map gives for a label; a label of 0 characters names no entry (R16, R182). -/
def State.labelled (s : State) (label : Label) : Option SlotNo :=
  (labelGiven label).bind fun l => (s.labelMap.find? (fun e => e.1 == l)).map Prod.snd

/-- The FIND job (R16). -/
def jobFind (q : Sender) (label : Label) (s : State) : State :=
  if !labelInRange label then s.complete q .find (.refuse .range)
  else
    match s.labelled label with
    | none => s.complete q .find (.refuse .noObject)
    | some i =>
      match s.object i with
      | none => s.complete q .find (.refuse .noObject)
      | some r =>
        if r.failsCheck then
          ((s.quarantine i r).complete q .find (.refuse .fault)).poolServiceIf (s.quarantineDue i r)
        else if accessHas r.access q.port then s.complete q .find (.ok (.handle ⟨i, (s.slot i).stamp⟩))
        else s.complete q .find (.refuse .noObject)

/-! ### SET_ACCESS (R17) -/

/-- The checks of SET_ACCESS: step 4 passes for ADMIN too, step 6 for the creator's port or ADMIN (R9, R17). -/
def setAccessChecks (q : Sender) : Checks :=
  ⟨fun _ => true, true, false, fun s r => r.creator.port == q.port || (s.rightsOf q.port).admin, fun _ => true⟩

/-- The SET_ACCESS job: the new set with the creator's port (R17). -/
def jobSetAccess (q : Sender) (h : Handle) (access : Byte) (s : State) : State :=
  s.withObject q .setAccess h (setAccessChecks q) fun r =>
    (s.writeRecord h.slot { r with access := accessWith access r.creator.port }).complete q .setAccess
      (.ok (.access (accessWith access r.creator.port)))

/-! ### The commands -/

/-- CREATE (R11, R12). -/
def execCreate (q : Sender) (slot : SlotChoice) (access : Byte) (isScoped : Bool) (kind : KindParams) (label : Label)
    (s : State) : Host.Outcome State Fault Refusal :=
  perform (requestJob q (.create slot access isScoped kind label) (jobCreate q slot access isScoped kind label)) s

/-- DELETE (R13, R14). -/
def execDelete (q : Sender) (h : Handle) (s : State) : Host.Outcome State Fault Refusal :=
  perform (requestJob q (.delete h) (jobDelete q h)) s

/-- DESCRIBE (R15). -/
def execDescribe (q : Sender) (h : Handle) (s : State) : Host.Outcome State Fault Refusal :=
  perform (requestJob q (.describe h) (jobDescribe q h)) s

/-- FIND (R16). -/
def execFind (q : Sender) (label : Label) (s : State) : Host.Outcome State Fault Refusal :=
  perform (requestJob q (.find label) (jobFind q label)) s

/-- SET_ACCESS (R17). -/
def execSetAccess (q : Sender) (h : Handle) (access : Byte) (s : State) : Host.Outcome State Fault Refusal :=
  perform (requestJob q (.setAccess h access) (jobSetAccess q h access)) s

end Sys2Proof.Machine
end

