-- ==== Sys2Proof/Machine/Queues.lean ====
section
/-! DEFINITION. The queue requests PUT, TAKE, PEEK, FLUSH and SET_QUEUE_LIMITS (R70 to R83). -/

namespace Sys2Proof.Machine

/-- The checks of a queue request (R70). -/
def queueChecks (range : State → Bool) : Checks := Checks.ofKind KindPart.isQueue range

/-! ### PUT (R71 to R74) -/

/-- A waiter is a taker. -/
def WaitRecord.isTaker (w : WaitRecord) : Bool :=
  match w.request with
  | .take _ => true
  | _ => false

/-- A request that must wait: replied at once with a status and the depth when its wait limit is 0, else placed
(R45, R74, R77). -/
def waitOrReport (q : Sender) (code : RequestCode) (request : WaitRequest) (h : Handle) (wait : Half) (l : WaitList)
    (status : Status) (depth : Nat) (s : State) : State :=
  if wait = 0#16 then s.complete q code (.report status (.depth depth)) else s.place q request h wait l

/-- PUT at step 8, by the first case of R71 that applies. -/
def runPut (q : Sender) (h : Handle) (side : QueueEnd) (value : Word) (wait : Half) (s : State) : State :=
  match (s.waitList (.object h.slot)).find? WaitRecord.isTaker with
  | some w =>
    ((s.removeWaiter w).complete q .put (.ok (.depth 0))).complete w.sender .take
      ⟨.ok, Flags.waited, .entry value q.port 0⟩
  | none =>
    if (s.account h.slot).limit ≤ (s.account h.slot).depth then
      waitOrReport q .put (.put value side) h wait (.object h.slot) .full (s.account h.slot).depth s
    else if !s.grantable (s.account h.slot) then
      waitOrReport q .put (.put value side) h wait .pool .noSpace (s.account h.slot).depth s
    else
      (s.linkEntry h.slot (s.account h.slot) side ⟨value, q.port⟩).complete q .put
        (.ok (.depth ((s.account h.slot).depth + 1)))

/-- The PUT job. -/
def jobPut (q : Sender) (h : Handle) (side : QueueEnd) (value : Word) (wait : Half) (s : State) : State :=
  s.withObject q .put h (queueChecks fun _ => true) fun _ => runPut q h side value wait s

/-! ### TAKE (R75 to R77) -/

/-- The entry at an end of a chain, and the chain without it (R75). -/
def takeAt (side : QueueEnd) (chain : List Entry) : Option (Entry × List Entry) :=
  match side with
  | .head => match chain with
    | e :: es => some (e, es)
    | [] => none
  | .tail => chain.getLast?.map fun e => (e, chain.dropLast)

/-- The oldest put for a queue on the pool wait list, with its value (R76). -/
def State.oldestPoolPut (s : State) (i : SlotNo) : Option (WaitRecord × Word) :=
  (s.poolPuts i).findSome? fun w =>
    match w.request with
    | .put value _ => some (w, value)
    | _ => none

/-- TAKE at step 8: an entry of the chain, then the queue's putters and pool service; on an empty queue the oldest pool
put; else it waits (R75 to R77). -/
def runTake (q : Sender) (h : Handle) (side : QueueEnd) (wait : Half) (s : State) : State :=
  match takeAt side (s.account h.slot).chain with
  | some (e, rest) =>
    (({ s.setQueue h.slot (some { s.account h.slot with chain := rest }) with free := s.free + 1 }.complete q .take
      (.ok (.entry e.value e.source rest.length))).serveOwnPutters h.slot).poolService
  | none =>
    match s.oldestPoolPut h.slot with
    | some (w, value) =>
      ((s.removeWaiter w).complete q .take (.ok (.entry value w.sender.port 0))).complete w.sender .put
        ⟨.ok, Flags.waited, .depth 0⟩
    | none => waitOrReport q .take (.take side) h wait (.object h.slot) .empty 0 s

/-- The TAKE job. -/
def jobTake (q : Sender) (h : Handle) (side : QueueEnd) (wait : Half) (s : State) : State :=
  s.withObject q .take h (queueChecks fun _ => true) fun _ => runTake q h side wait s

/-! ### PEEK and FLUSH (R80, R81) -/

/-- The PEEK job: an index from the head below the depth, else RANGE (R80). -/
def jobPeek (q : Sender) (h : Handle) (index : Half) (s : State) : State :=
  s.withObject q .peek h (queueChecks fun s => index.toNat < (s.account h.slot).depth) fun _ =>
    match (s.account h.slot).chain[index.toNat]? with
    | some e => s.complete q .peek (.ok (.entry e.value e.source (s.account h.slot).depth))
    | none => s

/-- FLUSH at step 8: every entry goes back, then the queue's putters and pool service; an empty queue changes nothing
(R81). -/
def runFlush (q : Sender) (h : Handle) (s : State) : State :=
  if (s.account h.slot).depth = 0 then s.complete q .flush (.ok (.flushed 0 0))
  else
    (({ s.setQueue h.slot (some { s.account h.slot with chain := [] }) with
        free := s.free + (s.account h.slot).depth }.complete q .flush
      (.ok (.flushed (s.account h.slot).depth 0))).serveOwnPutters h.slot).poolService

/-- The FLUSH job. -/
def jobFlush (q : Sender) (h : Handle) (s : State) : State :=
  s.withObject q .flush h (queueChecks fun _ => true) fun _ => runFlush q h s

/-! ### SET_QUEUE_LIMITS (R82, R83) -/

/-- Step 7 of SET_QUEUE_LIMITS (R70, R82). -/
def limitsInRange (h : Handle) (limit reserve : Half) (s : State) : Bool :=
  1 ≤ limit.toNat && limit.toNat ≤ 2048 && (s.account h.slot).depth ≤ limit.toNat && reserve.toNat ≤ limit.toNat

/-- The accounting with the new limit and reserve written (R83). -/
def State.withLimits (s : State) (i : SlotNo) (limit reserve : Half) : State :=
  s.setQueue i (some { s.account i with limit := limit.toNat, reserve := reserve.toNat })

/-- SET_QUEUE_LIMITS at step 8: NO_SPACE when the pool cannot cover the new reserve; else the numbers are written, and
after the reply the queue's putters are served when the limit rose, and pool service runs in every case (R82, R83). -/
def runSetQueueLimits (q : Sender) (h : Handle) (limit reserve : Half) (s : State) : State :=
  if s.free < (s.withLimits h.slot limit reserve).outstanding then
    s.complete q .setQueueLimits (.refuse .noSpace)
  else
    let s' := (s.withLimits h.slot limit reserve).complete q .setQueueLimits
      (.ok (.limits limit.toNat reserve.toNat (s.account h.slot).depth))
    (if (s.account h.slot).limit < limit.toNat then s'.serveOwnPutters h.slot else s').poolService

/-- The SET_QUEUE_LIMITS job. -/
def jobSetQueueLimits (q : Sender) (h : Handle) (limit reserve : Half) (s : State) : State :=
  s.withObject q .setQueueLimits h (queueChecks (limitsInRange h limit reserve)) fun _ =>
    runSetQueueLimits q h limit reserve s

/-! ### The commands -/

/-- PUT (R71 to R74). -/
def execPut (q : Sender) (h : Handle) (side : QueueEnd) (value : Word) (wait : Half) (s : State) :
    Host.Outcome State Fault Refusal :=
  perform (requestJob q (.put h side value wait) (jobPut q h side value wait)) s

/-- TAKE (R75 to R77). -/
def execTake (q : Sender) (h : Handle) (side : QueueEnd) (wait : Half) (s : State) :
    Host.Outcome State Fault Refusal :=
  perform (requestJob q (.take h side wait) (jobTake q h side wait)) s

/-- PEEK (R80). -/
def execPeek (q : Sender) (h : Handle) (index : Half) (s : State) : Host.Outcome State Fault Refusal :=
  perform (requestJob q (.peek h index) (jobPeek q h index)) s

/-- FLUSH (R81). -/
def execFlush (q : Sender) (h : Handle) (s : State) : Host.Outcome State Fault Refusal :=
  perform (requestJob q (.flush h) (jobFlush q h)) s

/-- SET_QUEUE_LIMITS (R82, R83). -/
def execSetQueueLimits (q : Sender) (h : Handle) (limit reserve : Half) (s : State) :
    Host.Outcome State Fault Refusal :=
  perform (requestJob q (.setQueueLimits h limit reserve) (jobSetQueueLimits q h limit reserve)) s

end Sys2Proof.Machine
end

