-- ==== Sys2Proof/Machine/Dispatch.lean ====
section
/-! DEFINITION. The meaning of every command, one arm each. -/

namespace Sys2Proof.Machine

/-- The effect of a command on everything but the queue of commands. -/
def exec (i : Instr) (s : State) : Host.Outcome State Fault Refusal :=
  match i with
  | .supplyPowerUp resetn straps => Sys2Proof.Machine.execSupplyPowerUp resetn straps s
  | .powerOnReset straps => Sys2Proof.Machine.execPowerOnReset straps s
  | .frameReceived p check => Sys2Proof.Machine.execFrameReceived p check s
  | .gapError p => Sys2Proof.Machine.execGapError p s
  | .lineBreak p => Sys2Proof.Machine.execLineBreak p s
  | .nop q => Sys2Proof.Machine.execNop q s
  | .identify q => Sys2Proof.Machine.execIdentify q s
  | .queryTags q => Sys2Proof.Machine.execQueryTags q s
  | .openSession q silence label => Sys2Proof.Machine.execOpenSession q silence label s
  | .closeSession q => Sys2Proof.Machine.execCloseSession q s
  | .create q slot access isScoped kind label => Sys2Proof.Machine.execCreate q slot access isScoped kind label s
  | .delete q h => Sys2Proof.Machine.execDelete q h s
  | .describe q h => Sys2Proof.Machine.execDescribe q h s
  | .find q label => Sys2Proof.Machine.execFind q label s
  | .setAccess q h access => Sys2Proof.Machine.execSetAccess q h access s
  | .read q h guard wait => Sys2Proof.Machine.execRead q h guard wait s
  | .exchange q h guard wait newValue => Sys2Proof.Machine.execExchange q h guard wait newValue s
  | .add q h guard wait addend => Sys2Proof.Machine.execAdd q h guard wait addend s
  | .setmask q h guard wait mask => Sys2Proof.Machine.execSetmask q h guard wait mask s
  | .clearmask q h guard wait mask => Sys2Proof.Machine.execClearmask q h guard wait mask s
  | .compareswap q h guard wait expected newValue => Sys2Proof.Machine.execCompareswap q h guard wait expected newValue s
  | .extract q h guard wait pos size signed => Sys2Proof.Machine.execExtract q h guard wait pos size signed s
  | .insert q h guard wait pos size field => Sys2Proof.Machine.execInsert q h guard wait pos size field s
  | .setOrder q h order => Sys2Proof.Machine.execSetOrder q h order s
  | .put q h side value wait => Sys2Proof.Machine.execPut q h side value wait s
  | .take q h side wait => Sys2Proof.Machine.execTake q h side wait s
  | .peek q h index => Sys2Proof.Machine.execPeek q h index s
  | .flush q h => Sys2Proof.Machine.execFlush q h s
  | .setQueueLimits q h limit reserve => Sys2Proof.Machine.execSetQueueLimits q h limit reserve s
  | .acquire q h wait => Sys2Proof.Machine.execAcquire q h wait s
  | .release q h => Sys2Proof.Machine.execRelease q h s
  | .restore q h => Sys2Proof.Machine.execRestore q h s
  | .cancel q target => Sys2Proof.Machine.execCancel q target s
  | .setRights q target rights => Sys2Proof.Machine.execSetRights q target rights s
  | .forceClose q target => Sys2Proof.Machine.execForceClose q target s
  | .storeClear q => Sys2Proof.Machine.execStoreClear q s
  | .readAlerts q => Sys2Proof.Machine.execReadAlerts q s
  | .stats q target clear => Sys2Proof.Machine.execStats q target clear s
  | .setPoolMark q mark => Sys2Proof.Machine.execSetPoolMark q mark s
  | .partReset q => Sys2Proof.Machine.execPartReset q s
  | .deadlineDue => Sys2Proof.Machine.execDeadlineDue s
  | .expiryJob => Sys2Proof.Machine.execExpiryJob s
  | .lapse p => Sys2Proof.Machine.execLapse p s
  | .teardown p => Sys2Proof.Machine.execTeardown p s
  | .transmitStart p => Sys2Proof.Machine.execTransmitStart p s
  | .frameSent p => Sys2Proof.Machine.execFrameSent p s
  | .characterReceived p byte => Sys2Proof.Machine.execCharacterReceived p byte s
  | .inputLevelChange pin level => Sys2Proof.Machine.execInputLevelChange pin level s
  | .timebaseTick => Sys2Proof.Machine.execTimebaseTick s

end Sys2Proof.Machine
end

