-- ==== Sys2Proof/Safety.lean ====
section
/-! DEFINITION. The words of the statements: the command of a request, the conditions under which a job runs, the
effects that many commands share written field by field, the checks of R9 and R11 as tables, and the laws of the part. -/

namespace Sys2Proof.Machine

/-! ### The command of a request -/

/-- The command of a cell request, by its operation (R23). -/
def cellCommand (q : Sender) (h : Handle) (guard : Guard) (wait : Half) : CellOp → Instr
  | .read => .read q h guard wait
  | .exchange newValue => .exchange q h guard wait newValue
  | .add addend => .add q h guard wait addend
  | .setmask mask => .setmask q h guard wait mask
  | .clearmask mask => .clearmask q h guard wait mask
  | .compareswap expected newValue => .compareswap q h guard wait expected newValue
  | .extract pos size signed => .extract q h guard wait pos size signed
  | .insert pos size field => .insert q h guard wait pos size field

/-- The command of a request of a client. -/
def requestCommand (q : Sender) : Request → Instr
  | .nop => .nop q
  | .identify => .identify q
  | .queryTags => .queryTags q
  | .openSession silence label => .openSession q silence label
  | .closeSession => .closeSession q
  | .create slot access isScoped kind label => .create q slot access isScoped kind label
  | .delete h => .delete q h
  | .describe h => .describe q h
  | .find label => .find q label
  | .setAccess h access => .setAccess q h access
  | .cell h op guard wait => cellCommand q h guard wait op
  | .setOrder h order => .setOrder q h order
  | .put h side value wait => .put q h side value wait
  | .take h side wait => .take q h side wait
  | .peek h index => .peek q h index
  | .flush h => .flush q h
  | .setQueueLimits h limit reserve => .setQueueLimits q h limit reserve
  | .acquire h wait => .acquire q h wait
  | .release h => .release q h
  | .restore h => .restore q h
  | .cancel target => .cancel q target
  | .setRights target rights => .setRights q target rights
  | .forceClose target => .forceClose q target
  | .storeClear => .storeClear q
  | .readAlerts => .readAlerts q
  | .stats target clear => .stats q target clear
  | .setPoolMark mark => .setPoolMark q mark
  | .partReset => .partReset q

/-- A request that becomes a job of the store; the other five are the port unit's (R1, R115). -/
def isStoreJob : Request → Bool
  | .nop => false
  | .identify => false
  | .queryTags => false
  | .openSession _ _ => false
  | .closeSession => false
  | _ => true

/-! ### When a job runs -/

/-- RESETN is high and the arbiter takes this request of this sender next, its port's session being OPEN (R1, R2; step 1
of R9). -/
abbrev State.serves (s : State) (q : Sender) (r : Request) : Prop :=
  s.resetn = .mark ∧ s.nextJob = some (.request q.port ⟨q.tag, q.gen, r⟩) ∧ (s.port q.port).session.state = .opened

/-- The handle resolves to a record that passes its check, is in service, and lets the port in (steps 2 to 5 of R9). -/
abbrev State.usable (s : State) (q : Sender) (h : Handle) (r : ObjectRecord) : Prop :=
  s.resolve h = some r ∧ r.check = .agrees ∧ r.quarantined = false ∧ accessHas r.access q.port = true

/-- The job is an administrative request of a port that holds ADMIN (R163). -/
abbrev State.administers (s : State) (q : Sender) (r : Request) : Prop :=
  s.serves q r ∧ (s.rightsOf q.port).admin = true

/-- A tag can accept a request with this generation: IDLE, its cache without it (R111). -/
abbrev State.accepts (s : State) (q : Sender) : Prop :=
  s.resetn = .mark ∧ (s.port q.port).session.state = .opened ∧ ((s.port q.port).tag q.tag).state = .idle ∧
    ((s.port q.port).tag q.tag).cache.map Reply.gen ≠ some q.gen

/-! ### Shared effects, field by field -/

/-- The reply produced now to a sender: the header of the request and A as the port's indication stands (R120, R122). -/
def State.replyNow (s : State) (q : Sender) (code : Byte) (x : Answer) : Reply :=
  ⟨code, q.tag, q.gen, x.status, x.flags, s.indications.get q.port, x.data⟩

/-- One reply goes to an OPEN port: cached, enqueued at the tail as a tag frame with a purpose, the tag REPLYING, and
nothing else (R116). -/
def State.repliedFor (s : State) (purpose : Purpose) (q : Sender) (code : Byte) (x : Answer) : State :=
  { s with
    ports := s.ports.set q.port.val
      { s.ports.get q.port with
        tags := (s.ports.get q.port).tags.set q.tag.val ⟨.replying q.gen, some (s.replyNow q code x)⟩ q.tag.isLt
        queue := (s.ports.get q.port).queue ++ [⟨some q.tag, s.replyNow q code x, purpose⟩] }
      q.port.isLt }

/-- One reply whose frame brings about nothing further when it is sent. -/
def State.replied (s : State) (q : Sender) (code : Byte) (x : Answer) : State := s.repliedFor .plain q code x

/-- A request job that does nothing but reply with a status and no data (R9, R163). -/
def State.refuses (s : State) (q : Sender) (r : Request) (status : Status) : State :=
  (s.takeRequest q.port).replied q r.code.byte ⟨status, Flags.clear, .none⟩

/-- An untracked frame joins the tail of a port's transmit queue, and nothing else (R118). -/
def State.sendsUntracked (s : State) (q : Sender) (code : Byte) (x : Answer) : State :=
  { s with
    ports := s.ports.set q.port.val
      { s.ports.get q.port with queue := (s.ports.get q.port).queue ++ [⟨none, s.replyNow q code x, .plain⟩] }
      q.port.isLt }

/-- A port's statistics change by `f`, and nothing else. -/
def State.counts (s : State) (p : Port) (f : Statistics → Statistics) : State :=
  { s with ports := s.ports.set p.val { s.ports.get p with stats := f (s.ports.get p).stats } p.isLt }

/-- A port refusal: an untracked frame counted in refusals sent, or, when four already stand in the queue, nothing but
a count in refusals dropped (R114, R118, R158). -/
def State.refusesAtPort (s : State) (q : Sender) (code : Byte) (x : Answer) : State :=
  if ((s.port q.port).queue.filter (fun f => f.tag.isNone)).length < 4 then
    (s.sendsUntracked q code x).counts q.port (fun c => { c with refusalsSent := raise c.refusalsSent })
  else s.counts q.port (fun c => { c with refusalsDropped := raise c.refusalsDropped })

/-- A port's silence timer set anew from its own limit: stopped for limit 0, else to expire one limit from now
(R131). -/
def State.timerRestarted (s : State) (p : Port) : State :=
  { s with
    ports := s.ports.set p.val
      { s.ports.get p with
        session := { (s.ports.get p).session with
          timer := if (s.ports.get p).session.silence = 0#16 then .stopped
            else .running (s.timebase + (s.ports.get p).session.silence.setWidth 32) } }
      p.isLt }

/-- A tag of a port takes a state and keeps its cache, and nothing else changes. -/
def State.tagBecomes (s : State) (q : Sender) (st : TagState) : State :=
  { s with
    ports := s.ports.set q.port.val
      { s.ports.get q.port with
        tags := (s.ports.get q.port).tags.set q.tag.val ⟨st, ((s.ports.get q.port).tags.get q.tag).cache⟩ q.tag.isLt }
      q.port.isLt }

/-- A request placed as a waiter: its wait record at the tail of its list, a deadline at T + L + 1 unless the wait limit
is 65,535, its tag WAITING, and nothing else (R47, R57, R117). -/
def State.waiting (s : State) (q : Sender) (request : WaitRequest) (target : Handle) (wait : Half) (l : WaitList) :
    State :=
  { s.tagBecomes q (.waiting q.gen) with
    waits := s.waits ++
      [⟨q, request, target, if wait = 0xFFFF#16 then none else some (s.timebase + wait.setWidth 32 + 1#32), l⟩]
    deadlines := if wait = 0xFFFF#16 then s.deadlines
      else insertDeadline ⟨s.timebase + wait.setWidth 32 + 1#32, q⟩ s.deadlines }

/-- A wait record off its list and its deadline withdrawn, and nothing else (R54, R59). -/
def State.without (s : State) (w : WaitRecord) : State :=
  { s with
    waits := s.waits.erase w
    deadlines := if w.deadline = none then s.deadlines else s.deadlines.filter (fun e => e.sender ≠ w.sender) }

/-- The record in a slot replaced, the stamp kept, and nothing else. -/
def State.holds (s : State) (i : SlotNo) (r : ObjectRecord) : State :=
  { s with slots := s.slots.set i.val ⟨(s.slots.get i).stamp, some r⟩ i.isLt }

/-- The arbiter takes the expiry job: the search start is 0, and the first deadline, where it has been reached, is
presented next; nothing else changes (R2, R58). -/
def State.expiryTaken (s : State) : State :=
  match s.deadlines with
  | e :: rest =>
    if (s.timebase - e.time).toNat ≤ 2147483647 then
      { s with searchStart := 0, expiry := some e.sender, deadlines := rest }
    else { s with searchStart := 0, expiry := none }
  | [] => { s with searchStart := 0, expiry := none }

/-- One deadline stands at or before another: by time, the wrap doing no harm, then port, then tag (R56, R57). -/
def DeadlineEntry.notAfter (x y : DeadlineEntry) : Prop :=
  (x.time ≠ y.time ∧ (y.time - x.time).toNat ≤ 2147483647) ∨
    (x.time = y.time ∧ (x.sender.port < y.sender.port ∨
      (x.sender.port = y.sender.port ∧ x.sender.tag ≤ y.sender.tag)))

/-- The record whose wait list is named, if any, agrees with its check: a removal from the list leaves it as it is
(R10; log 8). -/
def State.listAgrees (s : State) (l : WaitList) : Prop :=
  ∀ i r, l = .object i → s.object i = some r → r.check = .agrees

/-- The object is a queue with a reserve term above 0, which quarantine takes away (R20, R68). -/
def State.promisesEntries (s : State) (i : SlotNo) (r : ObjectRecord) : Prop :=
  r.part = .queue ∧ ∃ a, s.queue i = some a ∧ a.chain.length < a.reserve

/-- The deletion of a slot's object returns entries to the pool or removes a reserve term (R14). -/
def State.givesBackEntries (s : State) (i : SlotNo) : Prop :=
  ∃ a, s.queue i = some a ∧ (a.chain ≠ [] ∨ a.chain.length < a.reserve)

/-- The object of a slot deleted: its own waiters and then its pool puts dismissed with DELETED in list order, the slot
empty with its stamp advanced, accounting and label gone, the queue's entries free, and nothing else (R6, R13, R14). -/
def State.deleted (s : State) (i : SlotNo) : State :=
  { (s.waitList (.object i) ++ s.poolPuts i).foldl (State.dismiss .deleted) s with
    slots := s.slots.set i.val
      ⟨if (s.slot i).stamp = 0xFF#8 then 0x01#8 else (s.slot i).stamp + 1#8, none⟩ i.isLt
    queues := s.queues.set i.val none i.isLt
    free := s.free + depthOf (s.queue i)
    labelMap := s.labelMap.filter (fun e => e.2 ≠ i) }

/-- STORE_CLEAR at one slot: an object that fails its check is quarantined first, and every object is deleted (R166,
R168). -/
def State.clearedSlot (s : State) (i : SlotNo) : State :=
  match s.object i with
  | some r => if r.check = .fails ∧ r.quarantined = false then (s.quarantine i r).deleted i else s.deleted i
  | none => s

/-- The end of a job that began in `start`: a POOL_LOW alert when the free count has crossed the mark in force from
above (R173). -/
def State.endsJob (start u : State) : State :=
  if start.poolMark ≠ 0 ∧ start.poolMark ≤ start.free ∧ u.free < start.poolMark then
    u.appendAlert (.poolLow u.free)
  else u

/-- A cell request carried out when taken: the cell's new value, the reply with W clear, and, when the value changed, a
scan after the reply (R25, R40). -/
def State.cellCarriedOut (s : State) (q : Sender) (h : Handle) (r : ObjectRecord) (order : Order)
    (before after result : Word) (n z v c : Bool) : State :=
  let t := ((s.takeRequest q.port).holds h.slot { r with part := .cell after order }).replied q 0x20#8
    ⟨.ok, ⟨n, z, v, c, false, false⟩, .cell before result⟩
  if after = before then t else t.scan h.slot

/-- A reply to a lock request, with D and W as given (R91). -/
def lockReply (status : Status) (damaged waited : Bool) (holder : Option Port) (count : Nat) : Answer :=
  ⟨status, ⟨false, false, false, false, waited, damaged⟩, .lock holder count⟩

/-- A lock's part in the record of a slot replaced, and nothing else. -/
def State.lockBecomes (s : State) (i : SlotNo) (r : ObjectRecord) (holder : Option SessionId) (count : Nat)
    (damaged : Bool) : State := s.holds i { r with part := .lock holder count damaged }

/-- A part is a lock held by a session (R89). -/
def KindPart.heldBy (part : KindPart) (holder : SessionId) : Bool :=
  match part with
  | .lock h _ _ => h == some holder
  | .cell _ _ => false
  | .queue => false

/-- A port's receiver replaced, and nothing else. -/
def State.receives (s : State) (p : Port) (rx : Receiver) : State :=
  { s with ports := s.ports.set p.val { s.ports.get p with rx := rx } p.isLt }

/-- A queue's accounting and the free count replaced, and nothing else. -/
def State.poolBecomes (s : State) (i : SlotNo) (a : QueueAccount) (free : Nat) : State :=
  { s with queues := s.queues.set i.val (some a) i.isLt, free := free }

/-- Bytes received one after another on a link, as CHARACTER_RECEIVED commands. -/
def receiveAll (p : Port) : List Byte → State → Host.Outcome State Fault Refusal
  | [], s => .next s
  | b :: bs, s =>
    match exec (.characterReceived p b) s with
    | .next t => receiveAll p bs t
    | .fault f => .fault f
    | .refused f => .refused f

/-! ### Frames -/

/-- The commands that act on one port unit and its link alone, with the port. -/
def onePortCommand : Instr → Option Port
  | .frameReceived p _ => some p
  | .gapError p => some p
  | .nop q => some q.port
  | .identify q => some q.port
  | .queryTags q => some q.port
  | .openSession q _ _ => some q.port
  | .closeSession q => some q.port
  | .transmitStart p => some p
  | .characterReceived p _ => some p
  | .inputLevelChange (.link p) _ => some p
  | _ => none

/-- The requests on a cell or a lock. -/
def onCellOrLock : Request → Bool
  | .cell _ _ _ _ => true
  | .setOrder _ _ => true
  | .acquire _ _ => true
  | .release _ => true
  | .restore _ => true
  | _ => false

/-- The requests on a queue. -/
def onQueue : Request → Bool
  | .put _ _ _ _ => true
  | .take _ _ _ => true
  | .peek _ _ => true
  | .flush _ => true
  | .setQueueLimits _ _ _ => true
  | _ => false

/-- What no request on an object changes: pins, rate, timebase, the presented expiry, reset pending, the rights, the
pool mark, the label map, and of every port its link, session, teardown job and statistics. -/
def State.sameOutside (s t : State) : Prop :=
  t.resetn = s.resetn ∧ t.straps = s.straps ∧ t.lineRate = s.lineRate ∧ t.timebase = s.timebase ∧
  t.expiry = s.expiry ∧ t.resetPending = s.resetPending ∧ t.rights = s.rights ∧ t.poolMark = s.poolMark ∧
  t.labelMap = s.labelMap ∧
  ∀ p : Port, (t.port p).rxd = (s.port p).rxd ∧ (t.port p).rx = (s.port p).rx ∧ (t.port p).tx = (s.port p).tx ∧
    (t.port p).session = (s.port p).session ∧ (t.port p).teardown = (s.port p).teardown ∧
    (t.port p).stats = (s.port p).stats

/-! ### Tables of the spec -/

/-- The body lengths that check 1 accepts for a code (R180). -/
def lengthAllowed (c : RequestCode) (n : Nat) : Bool :=
  match c with
  | .nop => n == 2
  | .identify => n == 2
  | .openSession => 4 ≤ n && n ≤ 12
  | .closeSession => n == 2
  | .queryTags => n == 2
  | .create => 13 ≤ n && n ≤ 21
  | .delete => n == 4
  | .describe => n == 4
  | .find => 2 ≤ n && n ≤ 10
  | .setAccess => n == 5
  | .cellOp => n == 20
  | .setOrder => n == 5
  | .put => n == 11
  | .take => n == 7
  | .peek => n == 6
  | .flush => n == 4
  | .setQueueLimits => n == 8
  | .acquire => n == 6
  | .release => n == 4
  | .restore => n == 4
  | .cancel => n == 3
  | .setRights => n == 4
  | .forceClose => n == 3
  | .storeClear => n == 2
  | .readAlerts => n == 2
  | .stats => n == 4
  | .setPoolMark => n == 4
  | .partReset => n == 2

/-- A field of the body's fields after the header, as a number; the fields are counted from 0 (R182). -/
def fieldAt (fields : List Byte) (k : Nat) : Nat := (fields.getD k 0#8).toNat

/-- A code field of the body holds a value that is not in its list of R181, at the place where R182 puts the field. -/
def holdsUndefinedCode (code : Byte) (fields : List Byte) : Prop :=
  (code = 0x10#8 ∧
    (fieldAt fields 0 ∉ [1, 2, 3] ∨
      (255 < 256 * fieldAt fields 1 + fieldAt fields 2 ∧ 256 * fieldAt fields 1 + fieldAt fields 2 ≠ 65535) ∨
      1 < fieldAt fields 4 ∨ (fieldAt fields 0 = 1 ∧ 1 < fieldAt fields 9))) ∨
  (code = 0x20#8 ∧
    (7 < fieldAt fields 2 ∨ 11 < fieldAt fields 3 ∨ (fieldAt fields 2 = 6 ∧ 1 < fieldAt fields 12))) ∨
  (code = 0x21#8 ∧ 1 < fieldAt fields 2) ∨ (code = 0x30#8 ∧ 1 < fieldAt fields 2) ∨
  (code = 0x31#8 ∧ 1 < fieldAt fields 2) ∨ (code = 0x48#8 ∧ 3 < fieldAt fields 0) ∨
  (code = 0x50#8 ∧ 7 < fieldAt fields 1) ∨ (code = 0x54#8 ∧ 1 < fieldAt fields 1)

/-! ### The bodies of replies (R178, R179, R181, R183 to R185) -/

/-- A number in a count of bytes, most significant byte first (R179). -/
def numberBytes (width n : Nat) : List Byte :=
  (List.range width).reverse.map fun k => BitVec.ofNat 8 (n / 256 ^ k)

/-- The status codes of R184. -/
def statusCodes : List (Status × Nat) :=
  [(.ok, 0x00), (.badRequest, 0x01), (.noSession, 0x02), (.closing, 0x03), (.tagBusy, 0x04), (.sessionOpen, 0x05),
   (.noObject, 0x10), (.wrongKind, 0x11), (.noAccess, 0x12), (.fault, 0x13), (.noRight, 0x14), (.range, 0x15),
   (.slotTaken, 0x16), (.storeFull, 0x17), (.labelTaken, 0x18)] ++
  [(.noSpace, 0x19), (.lastAdmin, 0x1A), (.notOwner, 0x1B), (.limit, 0x1C), (.guardFalse, 0x20), (.empty, 0x21),
   (.full, 0x22), (.held, 0x23), (.timeout, 0x24), (.cancelled, 0x25), (.deleted, 0x26), (.notWaiting, 0x27)]

/-- The tag state codes of R181. -/
def tagStateNumber : TagState → Nat
  | .idle => 0
  | .pending _ => 1
  | .waiting _ => 2
  | .replying _ => 3

/-- A generation as a number, FFh for none (R181). -/
def genNumber : Option Gen → Nat
  | some g => g.val
  | none => 0xFF

/-- A holder's port as a number, FFh for none (R179). -/
def holderNumber : Option Port → Nat
  | some p => p.val
  | none => 0xFF

/-- The end cause codes of R181. -/
def causeNumber : EndCause → Nat
  | .none => 0
  | .closed => 1
  | .lapsed => 2
  | .broken => 3
  | .forced => 4

/-- The session state codes of R181. -/
def sessionStateNumber : SessionState → Nat
  | .closed => 0
  | .opened => 1
  | .closing => 2

/-- The order policy codes of R181. -/
def orderNumber : Order → Nat
  | .strict => 0
  | .passing => 1

/-- The characters of a label, one byte each; an absent label is 0 bytes (R179, R183). -/
def labelLayout (label : Option Label) : List (Nat × Nat) := (label.getD []).map fun b => (1, b.toNat)

/-- The kind byte of DESCRIBE and its six bytes of kind data: width in bytes and value of each field (R181, R183). -/
def KindData.layout : KindData → Nat × List (Nat × Nat)
  | .cell value order => (1, [(4, value.toNat), (1, orderNumber order), (1, 0)])
  | .queue depth limit reserve => (2, [(2, depth), (2, limit), (2, reserve)])
  | .lock holder count damaged =>
    (3, [(1, holderNumber (holder.map SessionId.port)), (2, (holder.map fun x => x.number.toNat).getD 0), (1, count),
      (1, damaged.toNat), (1, 0)])

/-- The nine bytes of an alert, field by field (R185). -/
def Alert.layout (x : Alert) : List (Nat × Nat) :=
  match x.kind with
  | .quarantine h => [(1, 1), (4, x.time.toNat), (1, h.slot.val), (1, h.stamp.toNat), (2, 0)]
  | .lapsed s => [(1, 2), (4, x.time.toNat), (1, s.port.val), (2, s.number.toNat), (1, 0)]
  | .broken s => [(1, 3), (4, x.time.toNat), (1, s.port.val), (2, s.number.toNat), (1, 0)]
  | .forced s => [(1, 4), (4, x.time.toNat), (1, s.port.val), (2, s.number.toNat), (1, 0)]
  | .poolLow free => [(1, 5), (4, x.time.toNat), (2, free), (2, 0)]

/-- The data of a reply after its header: width in bytes and value of each field (R183). -/
def ReplyData.layout : ReplyData → List (Nat × Nat)
  | .none => []
  | .tagBusy state => [(1, tagStateNumber state), (1, genNumber state.gen?)]
  | .identify port => [(2, 0x3A71), (2, 0x0208), (1, 1), (1, port.val), (1, 8), (1, 4), (2, 256), (2, 2048)]
  | .tags report => report.flatMap fun x => [(1, tagStateNumber x.1), (1, genNumber x.2)]
  | .session number port silence previous =>
    [(2, number.toNat), (1, port.val), (2, silence.toNat), (1, causeNumber previous)]
  | .closed cancelled locks deleted => [(1, cancelled), (2, locks), (2, deleted)]
  | .handle h => [(1, h.slot.val), (1, h.stamp.toNat)]
  | .deletedWaiters count => [(1, count)]
  | .describe kind members creator isScoped quarantined waiters poolWaiters label =>
    [(1, kind.layout.1), (1, members.toNat), (1, creator.port.val), (2, creator.number.toNat),
      (1, isScoped.toNat + 2 * quarantined.toNat), (1, waiters), (1, poolWaiters)] ++ kind.layout.2 ++ labelLayout label
  | .access set => [(1, set.toNat)]
  | .cell before result => [(4, before.toNat), (4, result.toNat)]
  | .order policy value => [(1, orderNumber policy), (4, value.toNat)]
  | .depth n => [(2, n)]
  | .entry value source n => [(4, value.toNat), (1, source.val), (2, n)]
  | .flushed removed n => [(2, removed), (2, n)]
  | .limits limit reserve n => [(2, limit), (2, reserve), (2, n)]
  | .lock holder count => [(1, holderNumber holder), (1, count)]
  | .rights port set => [(1, port.val), (1, set.create.toNat + 2 * set.delete.toNat + 4 * set.admin.toNat)]
  | .forced port number => [(1, port.val), (2, number.toNat)]
  | .cleared objects waiters => [(2, objects), (1, waiters)]
  | .alerts returned remaining dropped =>
    [(1, returned.length), (1, remaining), (1, dropped)] ++ returned.flatMap Alert.layout
  | .statistics port c state number silence cause label =>
    [(1, port.val), (2, c.framesAccepted.toNat), (2, c.checkErrors.toNat), (2, c.lengthErrors.toNat),
      (2, c.gapErrors.toNat), (2, c.breaks.toNat), (2, c.refusalsSent.toNat), (2, c.refusalsDropped.toNat),
      (2, c.duplicates.toNat), (2, c.replays.toNat), (2, c.sessionsOpened.toNat), (2, c.lapses.toNat),
      (1, sessionStateNumber state), (2, number.toNat), (2, silence.toNat), (1, causeNumber cause)] ++ labelLayout label
  | .mark level free => [(2, level), (2, free)]

/-- The body lengths of R183, the header of four bytes included. -/
def ReplyData.bodyLength : ReplyData → Nat
  | .none => 4
  | .tagBusy _ => 6
  | .identify _ => 16
  | .tags _ => 12
  | .session _ _ _ _ => 10
  | .closed _ _ _ => 9
  | .handle _ => 6
  | .deletedWaiters _ => 5
  | .describe _ _ _ _ _ _ _ label => 18 + (label.getD []).length
  | .access _ => 5
  | .cell _ _ => 12
  | .order _ _ => 9
  | .depth _ => 6
  | .entry _ _ _ => 11
  | .flushed _ _ => 8
  | .limits _ _ _ => 10
  | .lock _ _ => 6
  | .rights _ _ => 6
  | .forced _ _ => 7
  | .cleared _ _ => 7
  | .alerts returned _ _ => 7 + 9 * returned.length
  | .statistics _ _ _ _ _ _ label => 33 + (label.getD []).length
  | .mark _ _ => 8

/-- The handle of a request that names an object (R9). -/
def requestHandle : Request → Option Handle
  | .delete h => some h
  | .describe h => some h
  | .setAccess h _ => some h
  | .cell h _ _ _ => some h
  | .setOrder h _ => some h
  | .put h _ _ _ => some h
  | .take h _ _ => some h
  | .peek h _ => some h
  | .flush h => some h
  | .setQueueLimits h _ _ => some h
  | .acquire h _ => some h
  | .release h => some h
  | .restore h => some h
  | _ => none

/-- Step 3 of R9: the request applies to the kind of the object (R9, R24, R39, R70, R90). -/
def appliesTo (r : Request) (part : KindPart) : Bool :=
  match r with
  | .cell _ _ _ _ => part.isCell
  | .setOrder _ _ => part.isCell
  | .put _ _ _ _ => part.isQueue
  | .take _ _ _ => part.isQueue
  | .peek _ _ => part.isQueue
  | .flush _ => part.isQueue
  | .setQueueLimits _ _ _ => part.isQueue
  | .acquire _ _ => part.isLock
  | .release _ => part.isLock
  | .restore _ => part.isLock
  | _ => true

/-- Step 4 of R9: the port is in the access set, or, for SET_ACCESS, holds ADMIN. -/
def State.letsIn (s : State) (q : Sender) (r : Request) (o : ObjectRecord) : Bool :=
  o.access.getLsbD q.port.val ||
    match r with
    | .setAccess _ _ => (s.rights.get q.port).admin
    | _ => false

/-- Step 5 of R9: DELETE and DESCRIBE pass on a quarantined object. -/
def passesQuarantine : Request → Bool
  | .delete _ => true
  | .describe _ => true
  | _ => false

/-- Step 6 of R9: DELETE needs DELETE; SET_ACCESS needs the creator's port or ADMIN. -/
def State.hasRight (s : State) (q : Sender) (r : Request) (o : ObjectRecord) : Bool :=
  match r with
  | .delete _ => (s.rights.get q.port).delete
  | .setAccess _ _ => o.creator.port == q.port || (s.rights.get q.port).admin
  | _ => true

/-- Step 7 of R9: every field lies in its range (R24, R70). -/
def State.inRange (s : State) (r : Request) : Bool :=
  match r with
  | .cell _ (.extract pos size _) _ _ => pos.toNat ≤ 31 && size.toNat ≤ 32 && pos.toNat + size.toNat ≤ 32
  | .cell _ (.insert pos size _) _ _ => pos.toNat ≤ 31 && size.toNat ≤ 32 && pos.toNat + size.toNat ≤ 32
  | .peek h index => index.toNat < (s.account h.slot).chain.length
  | .setQueueLimits h limit reserve =>
    1 ≤ limit.toNat && limit.toNat ≤ 2048 && (s.account h.slot).chain.length ≤ limit.toNat &&
      reserve.toNat ≤ limit.toNat
  | _ => true

/-- The status of the first of steps 3 to 7 of R9 that fails, if one does. -/
def State.firstRefusal (s : State) (q : Sender) (r : Request) (o : ObjectRecord) : Option Status :=
  if !appliesTo r o.part then some .wrongKind
  else if !s.letsIn q r o then some .noAccess
  else if o.quarantined && !passesQuarantine r then some .fault
  else if !s.hasRight q r o then some .noRight
  else if !s.inRange r then some .range
  else none

/-- The fields of a CREATE are in range (step 2 of R11). -/
def createFieldsInRange (kind : KindParams) (label : Label) : Bool :=
  label.all (fun b => 0x21 ≤ b.toNat && b.toNat ≤ 0x7E) &&
    match kind with
    | .queue limit reserve => 1 ≤ limit.toNat && limit.toNat ≤ 2048 && reserve.toNat ≤ limit.toNat
    | .cell _ _ => true
    | .lock => true

/-- The slot a CREATE uses: the requested one when it is empty, or the lowest-numbered empty one (R11, R12). -/
def State.usesSlot (s : State) (choice : SlotChoice) (i : SlotNo) : Prop :=
  s.object i = none ∧
    match choice with
    | .slot n => n = i
    | .any => ∀ j : SlotNo, j < i → s.object j ≠ none

/-- The reserve a new object asks of the pool. -/
def reserveAsked : KindParams → Nat
  | .queue _ reserve => reserve.toNat
  | .cell _ _ => 0
  | .lock => 0

/-- A waiter of an object, on the object's own list or, for a queue, on the pool wait list (R13, R46). -/
def State.waitsOnObject (s : State) (w : WaitRecord) : Bool :=
  match w.list with
  | .object i => (s.object i).isSome
  | .pool => (s.object w.target.slot).isSome

/-- A waiter is the head of a STRICT cell's list (R40, R55). -/
def State.isStrictHead (s : State) (w : WaitRecord) (i : SlotNo) : Prop :=
  w.list = .object i ∧ (∃ r v, s.object i = some r ∧ r.part = .cell v .strict) ∧
    (s.waitList (.object i)).head? = some w

/-- The reply to a waiter whose deadline expired, by the kind of its request (R26, R60, R88, R91). -/
def State.timesOutWith (s : State) (w : WaitRecord) (r : ObjectRecord) (x : Answer) : Prop :=
  (∃ op g v o, w.request = .cell op g ∧ r.part = .cell v o ∧
    x = ⟨.timeout, ⟨v.msb, v == 0#32, false, false, true, false⟩, .cell v v⟩) ∨
  (∃ value side a, w.request = .put value side ∧ s.queue w.target.slot = some a ∧
    x = ⟨.timeout, Flags.waited, .depth a.chain.length⟩) ∨
  (∃ side a, w.request = .take side ∧ s.queue w.target.slot = some a ∧
    x = ⟨.timeout, Flags.waited, .depth a.chain.length⟩) ∨
  (∃ holder count damaged, w.request = .acquire ∧ r.part = .lock holder count damaged ∧
    x = ⟨.timeout, ⟨false, false, false, false, true, damaged⟩, .lock (holder.map SessionId.port) count⟩)

/-! ### The values of reset (R176) -/

/-- Every block holds the values its rule states for power-on reset. -/
def State.hasResetValues (t : State) : Prop :=
  (∀ p : Port,
    (t.port p).rx.state = .hunt ∧ (t.port p).rx.partialFrame = [] ∧ (t.port p).rx.bodyCount = 0 ∧
    (t.port p).rx.gapTimer = .stopped ∧
    (t.port p).rx.breakDetector = (if (t.port p).rxd = .mark then .atMark else .measuring 0#32) ∧
    (t.port p).tx = .free ∧ (t.port p).session = ⟨.closed, 0#16, 0#16, none, .none, .stopped⟩ ∧
    (∀ k : Tag, (t.port p).tag k = ⟨.idle, none⟩) ∧ (t.port p).requests = [] ∧ (t.port p).queue = [] ∧
    (t.port p).teardown = none ∧ (t.port p).stats = ⟨0, 0, 0, 0, 0, 0, 0, 0, 0, 0, 0⟩) ∧
  t.searchStart = 0 ∧ t.resetPending = false ∧ (∀ i : SlotNo, t.slot i = ⟨1#8, none⟩) ∧ t.labelMap = [] ∧
  t.waits = [] ∧ (∀ i : SlotNo, t.queue i = none) ∧ t.free = 2048 ∧
  (∀ p : Port, t.rightsOf p = ⟨true, true, p == 0⟩) ∧ t.alerts = [] ∧ t.dropped = 0 ∧
  (∀ p : Port, t.indication p = false) ∧ t.poolMark = 0 ∧ t.timebase = 0#32 ∧ t.deadlines = [] ∧ t.expiry = none

/-! ### The laws of the part -/

/-- The pool: entry conservation (R67), the law of reserves (R68), limits and reserves in their ranges (R66, R73), and
accounting exactly where a queue's record stands (R66). -/
def State.poolLaw (s : State) : Prop :=
  s.free + s.entriesHeld = 2048 ∧ s.outstanding ≤ s.free ∧
  (∀ i a, s.queue i = some a → a.chain.length ≤ a.limit ∧ a.reserve ≤ a.limit ∧ 1 ≤ a.limit ∧ a.limit ≤ 2048) ∧
  (∀ i : SlotNo, (s.queue i).isSome = true ↔ ∃ r, s.object i = some r ∧ r.part = .queue)

/-- A port: the silence timer runs only in an OPEN session with a limit (R131); requests stand on the pending list only
then (R132, R134); a teardown is due only while CLOSING (R138); a CLOSED port has every tag IDLE with an empty cache
(R145); a session opened has a number (R128); at most four untracked frames (R118); and the CLOSE reply stands in the
queue at most once, only while the port is CLOSING with its teardown job done (R144). -/
def PortState.portLaw (x : PortState) : Prop :=
  (x.session.timer ≠ .stopped → x.session.state = .opened ∧ x.session.silence ≠ 0#16) ∧
  (x.session.state ≠ .opened → x.requests = []) ∧
  (x.teardown ≠ none → x.session.state = .closing) ∧
  (x.session.state = .closed → ∀ k : Tag, x.tag k = ⟨.idle, none⟩) ∧
  (x.session.state ≠ .closed → x.session.number ≠ 0#16) ∧
  (x.queue.filter (fun f => f.tag.isNone)).length ≤ 4 ∧
  (x.queue.filter (fun f => f.purpose == .closeReply)).length ≤ 1 ∧
  ((∃ f ∈ x.queue, f.purpose = .closeReply) → x.session.state = .closing ∧ x.teardown = none)

/-- Locks: no holder exactly with count 0 (R104). -/
def State.lockLaw (s : State) : Prop :=
  ∀ i r holder count damaged, s.object i = some r → r.part = .lock holder count damaged → (holder = none ↔ count = 0)

/-- The object table: stamps 1 to 255 (R4), every access set holding its creator's port (R8), one label map entry for
each live object with a label and no other (R7), and no two live objects with one label (R7). -/
def State.tableLaw (s : State) : Prop :=
  (∀ i : SlotNo, (s.slot i).stamp ≠ 0#8) ∧
  (∀ i r, s.object i = some r → accessHas r.access r.creator.port = true) ∧
  (∀ l i, (l, i) ∈ s.labelMap ↔ ∃ r, s.object i = some r ∧ r.label = some l) ∧
  (∀ i j r r' l, s.object i = some r → s.object j = some r' → r.label = some l → r'.label = some l → i = j)

/-- Administration: at least one port holds ADMIN (R164), at most 8 alerts and a dropped count of at most 255 (R169),
and every indication as R122 gives it. -/
def State.adminLaw (s : State) : Prop :=
  (∃ p : Port, (s.rightsOf p).admin = true) ∧ s.alerts.length ≤ 8 ∧ s.dropped ≤ 255 ∧
  ∀ p : Port, s.indication p = ((s.rightsOf p).admin && !s.alerts.isEmpty)

/-- What carries a tag's request: wait records, pending requests, a teardown job (the CLOSE itself or a request taken
off the pending list), frames of the transmit queue (R106). -/
structure Carriers where
  waits : List WaitRecord
  requests : List PendingRequest
  taken : List (Tag × Gen)
  frames : List TxFrame

/-- The carriers of one tag of one port. -/
def State.carriers (s : State) (p : Port) (t : Tag) : Carriers where
  waits := s.waits.filter (fun w => w.sender.port == p && w.sender.tag == t)
  requests := (s.port p).requests.filter (fun r => r.tag == t)
  taken := ((match (s.port p).teardown with
    | some j => j.closing.toList ++ j.taken.map (fun r => (r.tag, r.gen))
    | none => []) : List (Tag × Gen)).filter (fun x => x.1 == t)
  frames := (s.port p).queue.filter (fun f => f.tag == some t)

/-- A tag's state says what carries its request, and that alone carries it (R46, R106, R115, R118). -/
def State.tagLaw (s : State) : Prop :=
  ∀ (p : Port) (t : Tag),
    match ((s.port p).tag t).state with
    | .idle => s.carriers p t = ⟨[], [], [], []⟩
    | .pending g => (∃ r, r.gen = g ∧ s.carriers p t = ⟨[], [r], [], []⟩) ∨
        s.carriers p t = ⟨[], [], [(t, g)], []⟩
    | .waiting g => ∃ w, w.sender.gen = g ∧ s.carriers p t = ⟨[w], [], [], []⟩
    | .replying g => ∃ f, f.reply.gen = g ∧ s.carriers p t = ⟨[], [], [], [f]⟩

/-- Ending sessions: a teardown job carries its port's session and cause, with a CLOSE exactly for cause CLOSED (R138);
a port CLOSING by another end has its tags IDLE or WAITING (R132); once the teardown job has run nothing of the port
waits (R139, R145), and no tag frame stands behind the CLOSE reply (R144). -/
def State.endingLaw (s : State) : Prop :=
  ∀ p : Port,
    (∀ j, (s.port p).teardown = some j →
      j.number = (s.port p).session.number ∧ j.cause = (s.port p).session.cause ∧
      (j.closing.isSome = true ↔ j.cause = .closed) ∧ (j.closing = none → j.taken = [])) ∧
    ((s.port p).session.state = .closing → (s.port p).session.cause ≠ .closed →
      ∀ k : Tag, ((s.port p).tag k).state = .idle ∨ ∃ g, ((s.port p).tag k).state = .waiting g) ∧
    ((s.port p).session.state ≠ .opened → (s.port p).teardown = none → ∀ w ∈ s.waits, w.sender.port ≠ p) ∧
    (∀ before f after, (s.port p).queue = before ++ f :: after → f.purpose = .closeReply →
      ∀ x ∈ after, x.tag = none)

/-- A wait record stands on the list of the object it names or on the pool wait list (R46). -/
def State.listLaw (s : State) : Prop := ∀ w ∈ s.waits, w.list = .object w.target.slot ∨ w.list = .pool

/-- The law of wait records and tags with what it rests on. -/
def State.waitLaw (s : State) : Prop :=
  s.tagLaw ∧ s.endingLaw ∧ s.listLaw ∧ ∀ p : Port, (s.port p).portLaw

end Sys2Proof.Machine
end

