-- ==== Sys2Proof/Certificates/Slice0/Obligations.lean ====
section
/-! DEFINITION. The statements for the provers, from the numbered rules of the spec. -/

open Sys2Proof Sys2Proof.Machine

/-! ### The step and the commands as a whole -/

/-- A step runs the command at the front of the queue on the state with the queue's rest; with an empty queue it idles
(the model's choice, log 3). -/
def Obligations.StepRunsFrontCommand : Prop :=
  (∀ (c : Instr) (rest : List Instr) (s : State), s.pending = c :: rest → step s = exec c { s with pending := rest }) ∧
  ∀ s : State, s.pending = [] → step s = .next s

/-- Every command answers a next state and leaves the queue of commands alone; while RESETN is low only the resets and
the levels of the inputs do anything (R160; log 14). -/
def Obligations.EveryCommandAnswersNext : Prop :=
  (∀ (c : Instr) (s : State), ∃ t, exec c s = .next t ∧ t.pending = s.pending) ∧
  ∀ (c : Instr) (s : State), s.resetn = .space → (∀ l st, c ≠ .supplyPowerUp l st) → (∀ st, c ≠ .powerOnReset st) →
    (∀ p l, c ≠ .inputLevelChange p l) → exec c s = .next s

/-- The state after reset holds every value that R176 gathers, and every law of the part; the levels of its pins are the
model's choice (log 13). -/
def Obligations.ResetStateHasSpecValuesAndLaws : Prop :=
  State.reset.hasResetValues ∧ State.reset.pending = [] ∧ State.reset.poolLaw ∧ State.reset.waitLaw ∧ State.reset.lockLaw ∧ State.reset.tableLaw ∧ State.reset.adminLaw

/-- SUPPLY_POWER_UP and POWER_ON_RESET return every block to its reset values, sample the straps, and leave the inputs
as they are driven; so does the reset that PART_RESET brings about, on the straps as they then stand. A change of a
strap's level leaves the line rate as sampled, and nothing else changes (R147, R160, R176; the command that carries a
strap change: log 27). -/
def Obligations.ResetsRestoreResetValues : Prop :=
  (∀ (level : Level) (straps : Straps) (s : State),
    ∃ t, exec (.supplyPowerUp level straps) s = .next t ∧ t.hasResetValues ∧ t.resetn = level ∧ t.straps = straps ∧
      t.pending = s.pending ∧ (∀ p : Port, (t.port p).rxd = (s.port p).rxd) ∧
      (straps = ⟨.space, .space⟩ → t.lineRate = .half) ∧ (straps = ⟨.space, .mark⟩ → t.lineRate = .one) ∧
      (straps = ⟨.mark, .space⟩ → t.lineRate = .two) ∧ (straps = ⟨.mark, .mark⟩ → t.lineRate = .four)) ∧
  (∀ (straps : Straps) (s : State), exec (.powerOnReset straps) s = exec (.supplyPowerUp .mark straps) s) ∧
  ∀ s : State, s.resetPart.hasResetValues ∧ exec (.supplyPowerUp s.resetn s.straps) s = .next s.resetPart ∧
    ∀ level, exec (.inputLevelChange .ratesel1 level) s = .next { s with straps := ⟨level, s.straps.sel0⟩ } ∧
      exec (.inputLevelChange .ratesel0 level) s = .next { s with straps := ⟨s.straps.sel1, level⟩ }

/-- The timebase advances by one; the first deadline that has been reached is presented when no expiry job is, and
otherwise DEADLINE_DUE changes nothing (R56, R58). An entry that takes its place in the deadline list is added to it and
nothing is lost; where the times lie within half the range of the timebase, the list keeps its order of time, then port,
then tag (R57). -/
def Obligations.TimebaseTickAndDeadlineDue : Prop :=
  (∀ (x : DeadlineEntry) (l : List DeadlineEntry), (insertDeadline x l).Perm (x :: l) ∧
    ∀ base : Word, (∀ e ∈ x :: l, (e.time - base).toNat ≤ 2147483647) → l.Pairwise DeadlineEntry.notAfter →
      (insertDeadline x l).Pairwise DeadlineEntry.notAfter) ∧
  ∀ s : State, s.resetn = .mark →
    exec .timebaseTick s = .next { s with timebase := s.timebase + 1#32 } ∧
    (∀ e rest, s.expiry = none → s.deadlines = e :: rest →
      ((s.timebase - e.time).toNat ≤ 2147483647 →
        exec .deadlineDue s = .next { s with deadlines := rest, expiry := some e.sender }) ∧
      (2147483647 < (s.timebase - e.time).toNat → exec .deadlineDue s = .next s)) ∧
    (∀ q, s.expiry = some q → exec .deadlineDue s = .next s) ∧
    (s.deadlines = [] → exec .deadlineDue s = .next s)

/-- The expiry job: with a wait record of its port, tag and generation, whose object's record passes its check, the
waiter is removed and replied TIMEOUT with W set, and a STRICT cell that lost its head is scanned; when the record fails,
the object is quarantined and no TIMEOUT is sent, with pool service for a queue that had a reserve term; without a wait
record it is stale and changes nothing but the arbiter's own state and the next deadline presented (R2, R58, R60). -/
def Obligations.ExpiryJobTimesOutOrIsStale : Prop :=
  ∀ (s : State) (q : Sender), s.resetn = .mark → s.nextJob = some (.expiry q) →
    ((∀ w, s.waiterOf q.port q.tag = some w → w.sender.gen ≠ q.gen) →
      exec .expiryJob s = .next s.expiryTaken) ∧
    ∀ w r, s.waiterOf q.port q.tag = some w → w.sender.gen = q.gen → s.object w.target.slot = some r →
      (∀ x, r.check = .agrees → (w.list = .object w.target.slot ∨ w.list = .pool) → s.timesOutWith w r x →
        (∀ i, s.isStrictHead w i → exec .expiryJob s =
          .next (((s.expiryTaken.without w).complete w.sender w.request.code x).scan i)) ∧
        ((∀ i, ¬ s.isStrictHead w i) → exec .expiryJob s =
          .next ((s.expiryTaken.without w).complete w.sender w.request.code x))) ∧
      (r.check = .fails → r.quarantined = false →
        (¬ s.promisesEntries w.target.slot r → exec .expiryJob s = .next (s.expiryTaken.quarantine w.target.slot r)) ∧
        (s.promisesEntries w.target.slot r →
          exec .expiryJob s = .next (s.endsJob (s.expiryTaken.quarantine w.target.slot r).poolService)))

/-- What each source presents, the search from the search start, the search start after a job is taken, the next deadline
presented as an expiry job is taken, and no job while reset is pending; a store command whose job is not the one taken
next changes nothing (R1, R2, R58, R175; log 1). -/
def Obligations.ArbiterTakesFirstPresentingSource : Prop :=
  ∀ s : State,
    (∀ p : Port, s.presents ⟨p.val, by omega⟩ =
      match (s.port p).teardown with
      | some j => some (.teardown p j)
      | none => (s.port p).requests.head?.map (Job.request p)) ∧
    s.presents 8 = s.expiry.map Job.expiry ∧
    (s.resetPending = true → s.nextJob = none) ∧
    (s.resetPending = false → (∀ k, s.presents k = none) → s.nextJob = none) ∧
    (s.resetPending = false → ∀ (k : Fin 9) j, s.presents k = some j →
      (∀ m : Fin 9, (m - s.searchStart).val < (k - s.searchStart).val → s.presents m = none) → s.nextJob = some j) ∧
    (∀ p : Port, (s.takeRequest p).searchStart.val = p.val + 1 ∧ (s.takeTeardown p).searchStart.val = p.val + 1 ∧
      ((s.takeRequest p).port p).requests = (s.port p).requests.tail ∧ ((s.takeTeardown p).port p).teardown = none) ∧
    s.takeExpiry = s.expiryTaken ∧
    (∀ (q : Sender) (r : Request), isStoreJob r = true → s.nextJob ≠ some (.request q.port ⟨q.tag, q.gen, r⟩) →
      exec (requestCommand q r) s = .next s) ∧
    ((∀ q, s.nextJob ≠ some (.expiry q)) → exec .expiryJob s = .next s) ∧
    ∀ p : Port, (∀ j, s.nextJob ≠ some (.teardown p j)) → exec (.teardown p) s = .next s

/-! ### The port unit -/

/-- NOP, IDENTIFY, QUERY_TAGS and OPEN in an OPEN session, on a tag that accepts them: the silence timer restarts and
the request is replied at once, cached, and nothing else changes (R111, R123, R124, R125, R130, R131). -/
def Obligations.OpenSessionAnswersAtOnce : Prop :=
  ∀ (s : State) (q : Sender), s.accepts q →
    exec (.nop q) s = .next ((s.timerRestarted q.port).replied q 0x01#8 ⟨.ok, Flags.clear, .none⟩) ∧
    exec (.identify q) s =
      .next ((s.timerRestarted q.port).replied q 0x02#8 ⟨.ok, Flags.clear, .identify q.port⟩) ∧
    exec (.queryTags q) s =
      .next ((s.timerRestarted q.port).replied q 0x05#8 ⟨.ok, Flags.clear,
        .tags (([0, 1, 2, 3] : List Tag).map fun t =>
          (if t = q.tag then .pending q.gen else ((s.port q.port).tag t).state,
            ((s.port q.port).tag t).cache.map Reply.gen))⟩) ∧
    (∀ (silence : Half) (label : Label), label.length ≤ 8 → exec (.openSession q silence label) s =
      .next ((s.timerRestarted q.port).replied q 0x03#8 ⟨.sessionOpen, Flags.clear,
        .session (s.port q.port).session.number q.port (s.port q.port).session.silence
          (s.port q.port).session.cause⟩)) ∧
    (ReplyData.identify q.port).bytes = [0x3A#8, 0x71#8, 0x02#8, 0x08#8, 0x01#8, BitVec.ofNat 8 q.port.val, 0x08#8,
      0x04#8, 0x01#8, 0x00#8, 0x08#8, 0x00#8]

/-- In the CLOSED state NOP and IDENTIFY are answered by untracked frames, dropped and counted as a fifth, and every
other request but OPEN is refused NO_SESSION; in CLOSING every request is refused CLOSING (R110, R113, R114, R118). -/
def Obligations.SessionStateDecidesDecode : Prop :=
  ∀ (s : State) (q : Sender), s.resetn = .mark →
    ((s.port q.port).session.state = .closed →
      (((s.port q.port).queue.filter (fun f => f.tag.isNone)).length < 4 →
        exec (.nop q) s = .next (s.sendsUntracked q 0x01#8 ⟨.ok, Flags.clear, .none⟩) ∧
        exec (.identify q) s = .next (s.sendsUntracked q 0x02#8 ⟨.ok, Flags.clear, .identify q.port⟩)) ∧
      (4 ≤ ((s.port q.port).queue.filter (fun f => f.tag.isNone)).length →
        exec (.nop q) s = .next (s.counts q.port fun c => { c with refusalsDropped := raise c.refusalsDropped }) ∧
        exec (.identify q) s =
          .next (s.counts q.port fun c => { c with refusalsDropped := raise c.refusalsDropped })) ∧
      exec (.queryTags q) s = .next (s.refusesAtPort q 0x05#8 ⟨.noSession, Flags.clear, .none⟩) ∧
      exec (.closeSession q) s = .next (s.refusesAtPort q 0x04#8 ⟨.noSession, Flags.clear, .none⟩) ∧
      ∀ r, isStoreJob r = true → decodeRequest q r s = s.refusesAtPort q r.code.byte ⟨.noSession, Flags.clear, .none⟩) ∧
    ((s.port q.port).session.state = .closing →
      (∀ r, decodeRequest q r s = s.refusesAtPort q r.code.byte ⟨.closing, Flags.clear, .none⟩) ∧
      ∀ r, isStoreJob r = false → r.wellFormed = true →
        exec (requestCommand q r) s = .next (s.refusesAtPort q r.code.byte ⟨.closing, Flags.clear, .none⟩))

/-- OPEN in the CLOSED state: fields in range open the session, with the next number, the limit, the label, the timer
and a reply that is not cached; a field out of range is replied RANGE by an untracked frame (R113, R128, R129). An OPEN
command whose label is longer than a body can carry is refused BAD_REQUEST (R109; the model's reading, log 20). -/
def Obligations.OpenOpensSession : Prop :=
  ∀ (s : State) (q : Sender) (silence : Half) (label : Label), s.resetn = .mark →
    (s.port q.port).session.state = .closed →
    (label.length ≤ 8 → (silence = 0#16 ∨ 10 ≤ silence.toNat ∧ silence.toNat ≤ 60000) →
      (∀ b ∈ label, 0x21 ≤ b.toNat ∧ b.toNat ≤ 0x7E) →
      ∀ number : Half, number =
          (if (s.port q.port).session.number = 0xFFFF#16 then 1#16 else (s.port q.port).session.number + 1#16) →
        exec (.openSession q silence label) s = .next (s.setPort q.port
          { s.port q.port with
            session := ⟨.opened, number, silence, if label = [] then none else some label,
              (s.port q.port).session.cause,
              if silence = 0#16 then .stopped else .running (s.timebase + silence.setWidth 32)⟩
            tags := (s.port q.port).tags.set q.tag.val
              ⟨.replying q.gen, ((s.port q.port).tag q.tag).cache⟩ q.tag.isLt
            queue := (s.port q.port).queue ++ [⟨some q.tag,
              ⟨0x03#8, q.tag, q.gen, .ok, Flags.clear, s.indications.get q.port,
                .session number q.port silence (s.port q.port).session.cause⟩, .plain⟩]
            stats := { (s.port q.port).stats with sessionsOpened := raise (s.port q.port).stats.sessionsOpened } })) ∧
    (label.length ≤ 8 →
      ((silence ≠ 0#16 ∧ (silence.toNat < 10 ∨ 60000 < silence.toNat)) ∨
        (∃ b ∈ label, b.toNat < 0x21 ∨ 0x7E < b.toNat)) →
      exec (.openSession q silence label) s = .next
        (if ((s.port q.port).queue.filter (fun f => f.tag.isNone)).length < 4 then
          s.sendsUntracked q 0x03#8 ⟨.range, Flags.clear, .none⟩
        else s.counts q.port fun c => { c with refusalsDropped := raise c.refusalsDropped })) ∧
    (8 < label.length → exec (.openSession q silence label) s =
      .next (s.refusesAtPort q 0x03#8 ⟨.badRequest, Flags.clear, .none⟩))

/-- CLOSE in an OPEN session, on a tag that accepts it: CLOSING with cause CLOSED, the timer stopped, the tag PENDING,
the pending list taken off into the teardown job, and nothing else (R134). -/
def Obligations.CloseEndsSession : Prop :=
  ∀ (s : State) (q : Sender), s.accepts q → exec (.closeSession q) s = .next (s.setPort q.port
    { s.port q.port with
      session := { (s.port q.port).session with state := .closing, cause := .closed, timer := .stopped }
      tags := (s.port q.port).tags.set q.tag.val ⟨.pending q.gen, ((s.port q.port).tag q.tag).cache⟩ q.tag.isLt
      requests := []
      teardown := some ⟨(s.port q.port).session.number, .closed, some (q.tag, q.gen), (s.port q.port).requests⟩ })

/-- Check 3 in an OPEN session, whatever the request: a replay, a duplicate, TAG_BUSY, or, for a request of the store, a
place at the tail of the pending list; each restarts the silence timer (R111, R112, R115, R131). -/
def Obligations.TagTableDecidesRepeats : Prop :=
  ∀ (s : State) (q : Sender) (r : Request), (s.port q.port).session.state = .opened →
    (∀ c, ((s.port q.port).tag q.tag).state = .idle → ((s.port q.port).tag q.tag).cache = some c → c.gen = q.gen →
      decodeRequest q r s = ((s.timerRestarted q.port).setPort q.port
        { (s.timerRestarted q.port).port q.port with
          tags := (s.port q.port).tags.set q.tag.val ⟨.replying q.gen, some c⟩ q.tag.isLt
          queue := (s.port q.port).queue ++ [⟨some q.tag, c, .plain⟩]
          stats := { (s.port q.port).stats with replays := raise (s.port q.port).stats.replays } })) ∧
    (((s.port q.port).tag q.tag).state.gen? = some q.gen →
      decodeRequest q r s = (s.timerRestarted q.port).counts q.port
        fun c => { c with duplicates := raise c.duplicates }) ∧
    (∀ g, ((s.port q.port).tag q.tag).state.gen? = some g → g ≠ q.gen →
      decodeRequest q r s = (s.timerRestarted q.port).refusesAtPort q r.code.byte
        ⟨.tagBusy, Flags.clear, .tagBusy ((s.port q.port).tag q.tag).state⟩) ∧
    (((s.port q.port).tag q.tag).state = .idle → ((s.port q.port).tag q.tag).cache.map Reply.gen ≠ some q.gen →
      isStoreJob r = true → decodeRequest q r s = ((s.timerRestarted q.port).setPort q.port
        { (s.timerRestarted q.port).port q.port with
          tags := (s.port q.port).tags.set q.tag.val
            ⟨.pending q.gen, ((s.port q.port).tag q.tag).cache⟩ q.tag.isLt
          requests := (s.port q.port).requests ++ [⟨q.tag, q.gen, r⟩] }))

/-- A malformed body is refused BAD_REQUEST, echoing its code byte, tag and generation, and restarts the timer of an
OPEN session: a code that names no request, a length its code does not allow, a code field that holds a value outside
its list; every other body spells a request (R109, R114, R131, R177, R178, R180, R181). -/
def Obligations.MalformedBodyIsRefused : Prop :=
  (∀ (s : State) (p : Port) (code packed : Byte) (fields : List Byte) (t : Tag) (g : Gen),
    packed.toNat = t.val * 64 + g.val →
    ((∀ c, c.byte = code → lengthAllowed c (fields.length + 2) = false) ∨ holdsUndefinedCode code fields ∨
      (∃ c, c.byte = code ∧ requestOf c fields = none)) →
    decodeFrame p (code :: packed :: fields) s =
      (if (s.port p).session.state = .opened then s.timerRestarted p else s).refusesAtPort ⟨p, t, g⟩ code
        ⟨.badRequest, Flags.clear, .none⟩) ∧
  ∀ (packed : Byte) (fields : List Byte) (t : Tag) (g : Gen) (c : RequestCode), packed.toNat = t.val * 64 + g.val →
    lengthAllowed c (fields.length + 2) = true → ¬ holdsUndefinedCode c.byte fields →
    ∃ r, r.code = c ∧ decodeBody (c.byte :: packed :: fields) = .request t g r

/-- A completion: in OPEN, and in CLOSING after a CLOSE, it is cached and enqueued and its tag is REPLYING; in CLOSING
after another end its tag becomes IDLE and nothing is sent (R116, R137); one to a CLOSED port, which R145 rules out, is
lost (the model's choice, log 18). -/
def Obligations.CompletionIsTaken : Prop :=
  ∀ (s : State) (purpose : Purpose) (q : Sender) (code : Byte) (x : Answer),
    ((s.port q.port).session.state = .opened ∨
      ((s.port q.port).session.state = .closing ∧ (s.port q.port).session.cause = .closed) →
      s.completeFor purpose q code x = s.repliedFor purpose q code x) ∧
    ((s.port q.port).session.state = .closing → (s.port q.port).session.cause ≠ .closed →
      s.completeFor purpose q code x = s.tagBecomes q .idle) ∧
    ((s.port q.port).session.state = .closed → s.completeFor purpose q code x = s)

/-! ### The links -/

/-- A byte taken on a link, by the receive state; the input is at mark and no framing fault holds the receiver (R148,
R152, R154). With the input at space a character in progress has a framing fault and no byte is taken; a receiver that a
framing fault holds, or that has no character in progress at space, takes no byte (R148, R155). -/
def Obligations.CharacterIsCollected : Prop :=
  ∀ (s : State) (p : Port) (b : Byte) (rx : Receiver), s.resetn = .mark → (s.port p).rx = rx →
    ((s.port p).rxd = .mark → rx.phase ≠ .awaitingMark →
      (rx.state = .hunt →
        (b = 0x5A#8 → exec (.characterReceived p b) s = .next (s.receives p
          { rx with state := .length, partialFrame := [], gapTimer := .running (s.timebase + 1#32), phase := .waiting })) ∧
        (b ≠ 0x5A#8 → exec (.characterReceived p b) s = .next (s.receives p { rx with phase := .waiting }))) ∧
      (rx.state = .length →
        (2 ≤ b.toNat ∧ b.toNat ≤ 64 → exec (.characterReceived p b) s = .next (s.receives p
          { rx with
            state := .body, partialFrame := [b], bodyCount := b.toNat
            gapTimer := .running (s.timebase + 1#32), phase := .waiting })) ∧
        (b = 0x5A#8 → exec (.characterReceived p b) s = .next ((s.receives p
          { rx with
            state := .length, partialFrame := [], bodyCount := 0
            gapTimer := .running (s.timebase + 1#32), phase := .waiting }).counts p
              fun c => { c with lengthErrors := raise c.lengthErrors })) ∧
        (¬ (2 ≤ b.toNat ∧ b.toNat ≤ 64) → b ≠ 0x5A#8 → exec (.characterReceived p b) s = .next ((s.receives p
          { rx with state := .hunt, partialFrame := [], bodyCount := 0, gapTimer := .stopped, phase := .waiting }).counts
              p fun c => { c with lengthErrors := raise c.lengthErrors }))) ∧
      (rx.state = .body → exec (.characterReceived p b) s = .next (s.receives p
        { rx with
          state := if rx.bodyCount ≤ 1 then .check else .body
          partialFrame := rx.partialFrame ++ [b], bodyCount := rx.bodyCount - 1
          gapTimer := .running (s.timebase + 1#32), phase := .waiting })) ∧
      (∀ l body, rx.state = .check → rx.partialFrame = l :: body → body.length = l.toNat →
        exec (.characterReceived p b) s = .next (s.receives p
          { rx with
            partialFrame := rx.partialFrame ++ [b], gapTimer := .running (s.timebase + 1#32), phase := .waiting }))) ∧
    ((s.port p).rxd = .space → rx.phase = .inCharacter →
      exec (.characterReceived p b) s = .next (s.receives p { rx with phase := .awaitingMark })) ∧
    (rx.phase = .awaitingMark → exec (.characterReceived p b) s = .next s ∧ exec (.frameReceived p b) s = .next s) ∧
    ((s.port p).rxd = .space → rx.phase = .waiting →
      exec (.characterReceived p b) s = .next s ∧ exec (.frameReceived p b) s = .next s)

/-- The second check byte, taken as FRAME_RECEIVED or as CHARACTER_RECEIVED: the receiver returns to HUNT; a frame whose
check bytes are the frame check is counted and its body decoded at once, any other is counted as a check error and
discarded (R150, R152, R153). A body that spells a request goes to checks 2 and 3 with the port, and the tag and
generation it carries (R108, R110, R111). -/
def Obligations.LastCheckByteEndsFrame : Prop :=
  (∀ (s : State) (p : Port) (body : List Byte) (t : Tag) (g : Gen) (r : Request), decodeBody body = .request t g r →
    decodeFrame p body s = decodeRequest ⟨p, t, g⟩ r s) ∧
  ∀ (s : State) (p : Port) (b l c : Byte) (body : List Byte), s.resetn = .mark → (s.port p).rxd = .mark →
    (s.port p).rx.phase ≠ .awaitingMark → (s.port p).rx.state = .check →
    (s.port p).rx.partialFrame = l :: (body ++ [c]) → body.length = l.toNat →
    ∀ u, u = s.receives p
        { (s.port p).rx with
          state := .hunt, partialFrame := [], bodyCount := 0, gapTimer := .stopped, phase := .waiting } →
      exec (.frameReceived p b) s = exec (.characterReceived p b) s ∧
      ((c ++ b : Half) = frameCheck (l :: body) → exec (.frameReceived p b) s =
        .next (decodeFrame p body (u.counts p fun x => { x with framesAccepted := raise x.framesAccepted }))) ∧
      ((c ++ b : Half) ≠ frameCheck (l :: body) → exec (.frameReceived p b) s =
        .next (u.counts p fun x => { x with checkErrors := raise x.checkErrors }))

/-- GAP_ERROR gives up the frame and counts when the gap timer's time has been reached, and changes nothing else; a
change of an input's level begins a possible start bit and a break measurement, or clears them (R148, R154, R155). That a
return to mark leaves the receiver in a character, disturbance or data bit, is the model's choice (log 12). While RESETN
is low a link input takes its new level and the receiver stays in its reset state (R151, R155, R160; that the pin may
change then: log 14); a level that is already there is no change. A break is
reported 2 ms after the input changed to space, once: a frame in progress counts once as a gap error (log 28), the
receiver gives it up and counts the break; in an OPEN session the session ends with cause BROKEN as a lapse does, in the
other states nothing further happens (R135, R155, R175; what the reset at a PART_RESET reply discarded does to a frame
then being sent on that link: log 26). -/
def Obligations.GapErrorsLevelsAndBreaks : Prop :=
  (∀ (s : State) (p : Port), s.resetn = .mark →
    (∀ e, (s.port p).rx.gapTimer = .running e →
      ((s.timebase - e).toNat ≤ 2147483647 → exec (.gapError p) s = .next ((s.receives p
        { (s.port p).rx with state := .hunt, partialFrame := [], bodyCount := 0, gapTimer := .stopped }).counts p
          fun c => { c with gapErrors := raise c.gapErrors })) ∧
      (2147483647 < (s.timebase - e).toNat → exec (.gapError p) s = .next s)) ∧
    ((s.port p).rx.gapTimer = .stopped → exec (.gapError p) s = .next s) ∧
    ((s.port p).rxd = .mark → exec (.inputLevelChange (.link p) .space) s = .next (s.setPort p
      { s.port p with
        rxd := .space
        rx := { (s.port p).rx with
          breakDetector := .measuring s.timebase
          phase := if (s.port p).rx.phase = .waiting then .inCharacter else (s.port p).rx.phase } })) ∧
    ((s.port p).rxd = .space → exec (.inputLevelChange (.link p) .mark) s = .next (s.setPort p
      { s.port p with
        rxd := .mark
        rx := { (s.port p).rx with
          breakDetector := .atMark
          phase := if (s.port p).rx.phase = .awaitingMark then .waiting else (s.port p).rx.phase } })) ∧
    exec (.inputLevelChange (.link p) (s.port p).rxd) s = .next s) ∧
  (∀ (s : State) (p : Port) (level : Level), s.resetn = .space →
    ((s.port p).rxd = level → exec (.inputLevelChange (.link p) level) s = .next s) ∧
    ((s.port p).rxd ≠ level → exec (.inputLevelChange (.link p) level) s = .next (s.setPort p
      { s.port p with
        rxd := level
        rx := ⟨.hunt, [], 0, .stopped, if level = .mark then .atMark else .measuring 0#32, .waiting⟩ }))) ∧
  ∀ (s : State) (p : Port), s.resetn = .mark →
    (∀ since, (s.port p).rx.breakDetector = .measuring since →
      ((s.timebase - (since + 2#32)).toNat ≤ 2147483647 →
        ∀ x, x = { s.port p with
            rx := { (s.port p).rx with
              state := .hunt, partialFrame := [], bodyCount := 0, gapTimer := .stopped, breakDetector := .reported }
            stats := { (s.port p).stats with
              gapErrors := if (s.port p).rx.gapTimer = .stopped then (s.port p).stats.gapErrors
                else raise (s.port p).stats.gapErrors
              breaks := raise (s.port p).stats.breaks } } →
          ((s.port p).session.state ≠ .opened → exec (.lineBreak p) s = .next (s.setPort p x)) ∧
          ((s.port p).session.state = .opened → (∀ f ∈ x.unsent, f.purpose ≠ .partResetReply) →
            exec (.lineBreak p) s = .next (s.setPort p (x.endAbruptly .broken))) ∧
          ((s.port p).session.state = .opened → (∃ f ∈ x.unsent, f.purpose = .partResetReply) →
            exec (.lineBreak p) s = .next (s.setPort p (x.endAbruptly .broken)).resetPart)) ∧
      (2147483647 < (s.timebase - (since + 2#32)).toNat → exec (.lineBreak p) s = .next s)) ∧
    ((s.port p).rx.breakDetector = .reported → exec (.lineBreak p) s = .next s) ∧
    ((s.port p).rx.breakDetector = .atMark → exec (.lineBreak p) s = .next s)

/-- What the end of a session by lapse, break or forced close does at its port unit (R132); the lapse itself: counted,
and with a PART_RESET reply among the frames discarded the whole part resets (R131, R132, R175; a frame then being sent on
that link: log 26). That every PENDING and REPLYING tag becomes IDLE is read from R132 (log 17). That the limit has run
out from reading T + L on is the model's choice (log 9). A timer that is stopped, or whose time has not been reached, does
not expire. -/
def Obligations.LapseEndsSession : Prop :=
  (∀ (x : PortState) (cause : EndCause),
    (x.endAbruptly cause).session = { x.session with state := .closing, cause := cause, timer := .stopped } ∧
    (∀ k : Tag, ((x.endAbruptly cause).tag k).cache = (x.tag k).cache ∧
      ((∃ g, (x.tag k).state = .waiting g) → ((x.endAbruptly cause).tag k).state = (x.tag k).state) ∧
      ((∀ g, (x.tag k).state ≠ .waiting g) → ((x.endAbruptly cause).tag k).state = .idle)) ∧
    (x.endAbruptly cause).requests = [] ∧
    (x.tx = .free → (x.endAbruptly cause).queue = []) ∧
    (∀ bytes f rest, x.tx = .sending bytes → x.queue = f :: rest →
      (x.endAbruptly cause).queue = [{ f with tag := none }]) ∧
    (x.endAbruptly cause).teardown = some ⟨x.session.number, cause, none, []⟩ ∧
    (x.endAbruptly cause).rxd = x.rxd ∧ (x.endAbruptly cause).rx = x.rx ∧ (x.endAbruptly cause).tx = x.tx ∧
    (x.endAbruptly cause).stats = x.stats) ∧
  ∀ (s : State) (p : Port), s.resetn = .mark →
    (∀ e, (s.port p).session.state = .opened → (s.port p).session.timer = .running e →
      (s.timebase - e).toNat ≤ 2147483647 →
      ∀ u, u = s.setPort p ({ s.port p with
          stats := { (s.port p).stats with lapses := raise (s.port p).stats.lapses } }.endAbruptly .lapsed) →
        ((∀ f ∈ (s.port p).unsent, f.purpose ≠ .partResetReply) → exec (.lapse p) s = .next u) ∧
        ((∃ f ∈ (s.port p).unsent, f.purpose = .partResetReply) → exec (.lapse p) s = .next u.resetPart)) ∧
    (∀ e, (s.port p).session.timer = .running e → 2147483647 < (s.timebase - e).toNat →
      exec (.lapse p) s = .next s) ∧
    ((s.port p).session.timer = .stopped → exec (.lapse p) s = .next s)

/-- A free transmitter begins the head frame, sent as start byte, length, body and check; when its last byte has gone
the frame leaves the queue and its tag, if any, becomes IDLE with its cache kept (R119, R149, R156). That the transmitter
is free from that moment, and not one byte time later, is the model's choice (log 11). After the last byte
of a CLOSE reply the CLOSING session is CLOSED with every tag IDLE and every cache empty, its number, limit, label and
cause kept (R144); after that of the PART_RESET reply the whole part is reset (R175, R176). The body that is sent: code,
tag and generation, status code, the flags with bit 7 at 0, and the data field by field, with the length of the reply's
layout (R178, R179, R181, R183 to R185). -/
def Obligations.FrameIsSentFromTheHead : Prop :=
  (∀ (r : Reply) (flags : Byte) (status : Nat), (r.status, status) ∈ statusCodes →
    (∀ i < 8, flags.getLsbD i =
      (([r.a, r.flags.d, r.flags.w, r.flags.c, r.flags.v, r.flags.z, r.flags.n, false] : List Bool).getD i false)) →
    r.body = [r.code] ++ numberBytes 1 (r.tag.val * 64 + r.gen.val) ++ numberBytes 1 status ++ [flags] ++
        r.data.layout.flatMap (fun f => numberBytes f.1 f.2) ∧
      ((∀ report, r.data = .tags report → report.length = 4) → r.body.length = r.data.bodyLength)) ∧
  (∀ (s : State) (p : Port) (f : TxFrame) (rest : List TxFrame), s.resetn = .mark → (s.port p).queue = f :: rest →
    ((s.port p).tx = .free → exec (.transmitStart p) s = .next (s.setPort p
      { s.port p with
        tx := .sending ([0x5A#8, BitVec.ofNat 8 f.reply.body.length] ++ f.reply.body ++
          [(frameCheck (BitVec.ofNat 8 f.reply.body.length :: f.reply.body)).extractLsb' 8 8,
            (frameCheck (BitVec.ofNat 8 f.reply.body.length :: f.reply.body)).extractLsb' 0 8]) })) ∧
    (∀ bytes, (s.port p).tx = .sending bytes → f.purpose = .plain →
      (f.tag = none → exec (.frameSent p) s = .next (s.setPort p { s.port p with queue := rest, tx := .free })) ∧
      (∀ t : Tag, f.tag = some t → exec (.frameSent p) s = .next (s.setPort p
        { s.port p with
          queue := rest, tx := .free
          tags := (s.port p).tags.set t.val ⟨.idle, ((s.port p).tag t).cache⟩ t.isLt })))) ∧
  ∀ (s : State) (p : Port) (f : TxFrame) (rest : List TxFrame) (bytes : List Byte), s.resetn = .mark →
    (s.port p).queue = f :: rest → (s.port p).tx = .sending bytes →
    (f.purpose = .closeReply → (s.port p).session.state = .closing → ∃ x, exec (.frameSent p) s = .next (s.setPort p x) ∧
      x.session = { (s.port p).session with state := .closed } ∧ (∀ k : Tag, x.tag k = ⟨.idle, none⟩) ∧
      x.queue = rest ∧ x.tx = .free ∧ x.rx = (s.port p).rx ∧ x.rxd = (s.port p).rxd ∧ x.stats = (s.port p).stats ∧
      x.requests = (s.port p).requests ∧ x.teardown = (s.port p).teardown) ∧
    (f.purpose = .partResetReply → ∃ t, exec (.frameSent p) s = .next t ∧ t.hasResetValues ∧ t.straps = s.straps ∧
      t.lineRate = rateOf s.straps ∧ t.pending = s.pending ∧ ∀ k : Port, (t.port k).rxd = (s.port k).rxd)

/-- The frame check: run on over the two check bytes it gives 0, and over any other two bytes it does not; the two
reference values (R150). -/
def Obligations.FrameCheckLeavesZero : Prop :=
  (∀ bytes : List Byte, crcRun 0xFFFF#16 (bytes ++ halfBytes (frameCheck bytes)) = 0#16) ∧
  (∀ (bytes : List Byte) (c : Half), crcRun 0xFFFF#16 (bytes ++ halfBytes c) = 0#16 → c = frameCheck bytes) ∧
  frameCheck [0x31#8, 0x32#8, 0x33#8, 0x34#8, 0x35#8, 0x36#8, 0x37#8, 0x38#8, 0x39#8] = 0x29B1#16 ∧
  frameBytes [0x00#8, 0x00#8] = [0x5A#8, 0x02#8, 0x00#8, 0x00#8, 0xA2#8, 0xFC#8]

/-- A whole frame received byte by byte: from a receiver in HUNT with its input at mark, the bytes of the frame of any
body of 2 to 64 bytes bring that body to the port unit's decode, count one good frame, and leave the receiver in HUNT
(R149 to R153). -/
def Obligations.FrameIsCollectedWhole : Prop :=
  ∀ (s : State) (p : Port) (body : List Byte), s.resetn = .mark → (s.port p).rxd = .mark →
    (s.port p).rx.state = .hunt → (s.port p).rx.phase ≠ .awaitingMark → 2 ≤ body.length → body.length ≤ 64 →
    receiveAll p (frameBytes body) s = .next (decodeFrame p body ((s.receives p
      { (s.port p).rx with
        state := .hunt, partialFrame := [], bodyCount := 0, gapTimer := .stopped, phase := .waiting }).counts p
          fun c => { c with framesAccepted := raise c.framesAccepted }))

/-- No bit of a request is dropped by its encoding: the body of every well-formed request, on every tag with every
generation, decodes to that request (R177, R179 to R182). -/
def Obligations.DecodeOfEncodeIsTheRequest : Prop :=
  ∀ (t : Tag) (g : Gen) (r : Request), r.wellFormed = true → decodeBody (encodeBody t g r) = .request t g r

/-! ### Requests that name an object -/

/-- A request that names an object is refused by the first of the checks of R9 that fails, and then does nothing else:
NO_OBJECT for a handle that does not resolve, and steps 3 to 7 for a record that passes its check or is already
quarantined (R5, R9, R10). -/
def Obligations.FirstFailingCheckDecides : Prop :=
  ∀ (s : State) (q : Sender) (r : Request) (h : Handle), requestHandle r = some h → s.serves q r →
    ((s.object h.slot = none ∨ (s.slot h.slot).stamp ≠ h.stamp) →
      exec (requestCommand q r) s = .next (s.refuses q r .noObject)) ∧
    ∀ o status, s.object h.slot = some o → (s.slot h.slot).stamp = h.stamp →
      (o.check = .agrees ∨ o.quarantined = true) → s.firstRefusal q r o = some status →
      exec (requestCommand q r) s = .next (s.refuses q r status)

/-- A waiter dismissed leaves its list and is replied with W set and no data (R53, R54). Quarantine: the flag, the
waiters of the object and then those of its queue on the pool's list dismissed with FAULT in list order, a queue's
reserve 0, a lock's holder and count cleared, everything else of the object and every other slot as it was, and a
QUARANTINE alert at the tail (R10, R19, R20, R169). A request that names an object that fails its check is replied FAULT
after that, and a queue that had a reserve term then has pool service (R10, R20, R173). FIND treats the object its label
leads to as its own object, and does the same (R10, R16). -/
def Obligations.FailingRecordIsQuarantined : Prop :=
  (∀ (s : State) (status : Status) (w : WaitRecord), s.listAgrees w.list →
    State.dismiss status s w = (s.without w).complete w.sender w.request.code ⟨status, Flags.waited, .none⟩) ∧
  (∀ (s : State) (i : SlotNo) (r : ObjectRecord), s.object i = some r →
    ∀ t, t = s.quarantine i r →
      (∀ u, u = (s.waitList (.object i) ++ s.poolPuts i).foldl (State.dismiss .fault)
          (s.holds i { r with quarantined := true, check := .agrees }) →
        t.ports = u.ports ∧ t.deadlines = u.deadlines) ∧
      (t.slot i).stamp = (s.slot i).stamp ∧
      t.object i = some { r with
        quarantined := true
        check := .agrees
        part := match r.part with
          | .lock _ _ damaged => .lock none 0 damaged
          | .cell value order => .cell value order
          | .queue => .queue } ∧
      (∀ j, j ≠ i → t.slot j = s.slot j ∧ t.queue j = s.queue j) ∧
      (r.part = .queue → t.queue i = (s.queue i).map fun a => { a with reserve := 0 }) ∧
      (r.part ≠ .queue → t.queue i = s.queue i) ∧
      t.waits = s.waits.filter (fun w => !(w.list == .object i || (w.list == .pool && w.target.slot == i))) ∧
      t.alerts = (if s.alerts.length < 8 then s.alerts else s.alerts.drop 1) ++
        [⟨.quarantine ⟨i, (s.slot i).stamp⟩, s.timebase⟩] ∧
      t.free = s.free ∧ s.sameOutside t) ∧
  (∀ (s : State) (q : Sender) (r : Request) (h : Handle) (o : ObjectRecord), requestHandle r = some h → s.serves q r →
    s.resolve h = some o → o.check = .fails → o.quarantined = false →
    ∀ u, u = ((s.takeRequest q.port).quarantine h.slot o).complete q r.code ⟨.fault, Flags.clear, .none⟩ →
      (¬ s.promisesEntries h.slot o → exec (requestCommand q r) s = .next u) ∧
      (s.promisesEntries h.slot o → exec (requestCommand q r) s = .next (s.endsJob u.poolService))) ∧
  ∀ (s : State) (q : Sender) (label : Label) (before after : List (Label × SlotNo)) (i : SlotNo) (o : ObjectRecord),
    s.serves q (.find label) → label ≠ [] → (∀ b ∈ label, 0x21 ≤ b.toNat ∧ b.toNat ≤ 0x7E) →
    s.labelMap = before ++ (label, i) :: after → (∀ e ∈ before, e.1 ≠ label) → s.object i = some o →
    o.check = .fails → o.quarantined = false →
    ∀ u, u = ((s.takeRequest q.port).quarantine i o).replied q 0x13#8 ⟨.fault, Flags.clear, .none⟩ →
      (¬ s.promisesEntries i o → exec (.find q label) s = .next u) ∧
      (s.promisesEntries i o → exec (.find q label) s = .next (s.endsJob u.poolService))

/-- A CREATE that passes places the object in the slot asked for or the lowest empty one, with its label, access set,
creator, kind part and, for a queue, accounting, and replies its handle; one that does not is refused by the first step
of R11 that fails. Nothing else changes (R8, R11, R12, R22, R89). -/
def Obligations.CreatePlacesObjectOrIsRefused : Prop :=
  (∀ (s : State) (q : Sender) (slot : SlotChoice) (access : Byte) (isScoped : Bool) (kind : KindParams) (label : Label)
    (i : SlotNo), s.serves q (.create slot access isScoped kind label) → (s.rightsOf q.port).create = true →
    createFieldsInRange kind label = true → s.usesSlot slot i → (label = [] ∨ ∀ e ∈ s.labelMap, e.1 ≠ label) →
    s.outstanding + reserveAsked kind ≤ s.free →
    exec (.create q slot access isScoped kind label) s = .next (({ s.takeRequest q.port with
        slots := s.slots.set i.val ⟨(s.slot i).stamp, some
          { label := if label = [] then none else some label
            access := access ||| (1#8 <<< q.port.val)
            creator := ⟨q.port, (s.port q.port).session.number⟩
            isScoped := isScoped
            quarantined := false
            check := .agrees
            part := match kind with
              | .cell initial order => .cell initial order
              | .queue _ _ => .queue
              | .lock => .lock none 0 false }⟩ i.isLt
        queues := s.queues.set i.val (match kind with
          | .queue limit reserve => some ⟨[], limit.toNat, reserve.toNat⟩
          | .cell _ _ => none
          | .lock => none) i.isLt
        labelMap := if label = [] then s.labelMap else s.labelMap ++ [(label, i)] } : State).replied q 0x10#8
          ⟨.ok, Flags.clear, .handle ⟨i, (s.slot i).stamp⟩⟩)) ∧
  ∀ (s : State) (q : Sender) (slot : SlotChoice) (access : Byte) (isScoped : Bool) (kind : KindParams) (label : Label)
    (status : Status), s.serves q (.create slot access isScoped kind label) →
    ((s.rightsOf q.port).create = false ∧ status = .noRight ∨
      (s.rightsOf q.port).create = true ∧
        (createFieldsInRange kind label = false ∧ status = .range ∨
          createFieldsInRange kind label = true ∧
            ((∃ n, slot = .slot n ∧ s.object n ≠ none) ∧ status = .slotTaken ∨
              slot = .any ∧ (∀ n : SlotNo, s.object n ≠ none) ∧ status = .storeFull ∨
              ∃ i, s.usesSlot slot i ∧
                (label ≠ [] ∧ (∃ e ∈ s.labelMap, e.1 = label) ∧ status = .labelTaken ∨
                  (label = [] ∨ ∀ e ∈ s.labelMap, e.1 ≠ label) ∧ s.free < s.outstanding + reserveAsked kind ∧
                    status = .noSpace)))) →
    exec (.create q slot access isScoped kind label) s =
      .next (s.refuses q (.create slot access isScoped kind label) status)

/-- A DELETE that passes empties the slot, advances its stamp, frees the label, the entries and the reserve, and removes
every waiter of the object; its own reply counts them. With nothing waiting on the object, and no entry or reserve term
of it in the pool, nothing else happens (R6, R9, R13, R14). The whole of it: the object's own waiters and then its pool
puts dismissed with DELETED in list order, the free count risen by the depth of the queue, every other slot as it was,
the DELETE replied, and then pool service when entries or a reserve term came back (R13, R14, R173). -/
def Obligations.DeleteEmptiesSlot : Prop :=
  ∀ (s : State) (q : Sender) (h : Handle) (o : ObjectRecord), s.serves q (.delete h) → s.resolve h = some o →
    (o.check = .agrees ∨ o.quarantined = true) → accessHas o.access q.port = true →
    (s.rightsOf q.port).delete = true →
    ∀ stamp : Byte, stamp = (if h.stamp = 0xFF#8 then 0x01#8 else h.stamp + 1#8) →
    (∃ t, exec (.delete q h) s = .next t ∧ t.slot h.slot = ⟨stamp, none⟩ ∧ t.queue h.slot = none ∧
      (∀ e ∈ t.labelMap, e.2 ≠ h.slot) ∧ (∀ e ∈ s.labelMap, e.2 ≠ h.slot → e ∈ t.labelMap) ∧
      (∀ w ∈ t.waits, w.list ≠ .object h.slot ∧ ¬ (w.list = .pool ∧ w.target.slot = h.slot)) ∧
      (∀ j, j ≠ h.slot → (t.slot j).stamp = (s.slot j).stamp) ∧
      ∃ f ∈ (t.port q.port).queue, f.tag = some q.tag ∧ f.reply.code = 0x11#8 ∧ f.reply.gen = q.gen ∧
        f.reply.status = .ok ∧ f.reply.flags = Flags.clear ∧
        f.reply.data = .deletedWaiters ((s.waitList (.object h.slot)).length + (s.poolPuts h.slot).length)) ∧
    (s.waitList (.object h.slot) = [] → s.poolPuts h.slot = [] →
      (∀ a, s.queue h.slot = some a → a.chain = [] ∧ a.reserve = 0) →
      exec (.delete q h) s = .next (({ s.takeRequest q.port with
        slots := s.slots.set h.slot.val ⟨stamp, none⟩ h.slot.isLt
        queues := s.queues.set h.slot.val none h.slot.isLt
        labelMap := s.labelMap.filter (fun e => e.2 != h.slot) } : State).replied q 0x11#8
          ⟨.ok, Flags.clear, .deletedWaiters 0⟩)) ∧
    ∀ v, v = ((s.takeRequest q.port).deleted h.slot).replied q 0x11#8
        ⟨.ok, Flags.clear, .deletedWaiters ((s.waitList (.object h.slot)).length + (s.poolPuts h.slot).length)⟩ →
      v.free = s.free + depthOf (s.queue h.slot) ∧ v.slot h.slot = ⟨stamp, none⟩ ∧
      (∀ j, j ≠ h.slot → v.slot j = s.slot j ∧ v.queue j = s.queue j) ∧
      (¬ s.givesBackEntries h.slot → exec (.delete q h) s = .next v) ∧
      (s.givesBackEntries h.slot → exec (.delete q h) s = .next (s.endsJob v.poolService))

/-- DESCRIBE reports the object as held, a quarantined one too; FIND returns the handle of the object its label leads to
when the port is in its access set, and NO_OBJECT otherwise; SET_ACCESS replaces the access set, the creator's port
added, and replies the set. Nothing else changes (R9, R15, R16, R17). -/
def Obligations.DescribeFindAndSetAccess : Prop :=
  (∀ (s : State) (q : Sender) (h : Handle) (o : ObjectRecord), s.serves q (.describe h) → s.resolve h = some o →
    (o.check = .agrees ∨ o.quarantined = true) → accessHas o.access q.port = true →
    ∀ data, ((∃ value order, o.part = .cell value order ∧ data = .cell value order) ∨
        (∃ a, o.part = .queue ∧ s.queue h.slot = some a ∧ data = .queue a.chain.length a.limit a.reserve) ∨
        (∃ holder count damaged, o.part = .lock holder count damaged ∧ data = .lock holder count damaged)) →
      exec (.describe q h) s = .next ((s.takeRequest q.port).replied q 0x12#8 ⟨.ok, Flags.clear,
        .describe data o.access o.creator o.isScoped o.quarantined (s.waitList (.object h.slot)).length
          (s.poolPuts h.slot).length o.label⟩)) ∧
  (∀ (s : State) (q : Sender) (label : Label), s.serves q (.find label) →
    ((∃ b ∈ label, b.toNat < 0x21 ∨ 0x7E < b.toNat) →
      exec (.find q label) s = .next (s.refuses q (.find label) .range)) ∧
    ((∀ b ∈ label, 0x21 ≤ b.toNat ∧ b.toNat ≤ 0x7E) →
      ((label = [] ∨ ∀ e ∈ s.labelMap, e.1 ≠ label) →
        exec (.find q label) s = .next (s.refuses q (.find label) .noObject)) ∧
      ∀ before i after o, label ≠ [] → s.labelMap = before ++ (label, i) :: after → (∀ e ∈ before, e.1 ≠ label) →
        s.object i = some o → (o.check = .agrees ∨ o.quarantined = true) →
        (accessHas o.access q.port = true → exec (.find q label) s = .next
          ((s.takeRequest q.port).replied q 0x13#8 ⟨.ok, Flags.clear, .handle ⟨i, (s.slot i).stamp⟩⟩)) ∧
        (accessHas o.access q.port = false →
          exec (.find q label) s = .next (s.refuses q (.find label) .noObject)))) ∧
  ∀ (s : State) (q : Sender) (h : Handle) (access : Byte) (o : ObjectRecord), s.serves q (.setAccess h access) →
    s.resolve h = some o → o.check = .agrees → o.quarantined = false →
    (accessHas o.access q.port = true ∨ (s.rightsOf q.port).admin = true) →
    (o.creator.port = q.port ∨ (s.rightsOf q.port).admin = true) →
    exec (.setAccess q h access) s = .next
      (((s.takeRequest q.port).holds h.slot { o with access := access ||| (1#8 <<< o.creator.port.val) }).replied q
        0x14#8 ⟨.ok, Flags.clear, .access (access ||| (1#8 <<< o.creator.port.val))⟩)

/-! ### Cells -/

/-- READ and EXCHANGE carried out when taken: value before and result, N and Z on the result, V and C 0; READ leaves the
cell as it stands (R25, R28, R29, R40). -/
def Obligations.ReadAndExchangeCells : Prop :=
  ∀ (s : State) (q : Sender) (h : Handle) (g : Guard) (w : Half) (r : ObjectRecord) (v : Word) (order : Order),
    s.usable q h r → r.part = .cell v order → guardHolds g v = true →
    (s.serves q (.cell h .read g w) → exec (.read q h g w) s =
      .next ((s.takeRequest q.port).replied q 0x20#8 ⟨.ok, ⟨v.msb, v == 0#32, false, false, false, false⟩, .cell v v⟩)) ∧
    ∀ x, s.serves q (.cell h (.exchange x) g w) → exec (.exchange q h g w x) s =
      .next (s.cellCarriedOut q h r order v x x x.msb (x == 0#32) false false)

/-- ADD carried out when taken: the sum modulo 2^32, N and Z on it, V on signed overflow, C on an unsigned total above
4,294,967,295; with a negative addend C is the inverse of a borrow; ADD of 0 leaves the value and V = C = 0 (R25, R30,
R40). -/
def Obligations.AddSetsSumAndFlags : Prop :=
  (∀ (s : State) (q : Sender) (h : Handle) (g : Guard) (w : Half) (r : ObjectRecord) (v a : Word) (order : Order),
    s.usable q h r → r.part = .cell v order → guardHolds g v = true → s.serves q (.cell h (.add a) g w) →
    exec (.add q h g w a) s =
      .next (s.cellCarriedOut q h r order v (v + a) (v + a) (v + a).msb (v + a == 0#32)
        (v.msb == a.msb && (v + a).msb != v.msb) (decide (4294967295 < v.toNat + a.toNat)))) ∧
  (∀ v k : Word, k ≠ 0#32 → (4294967295 < v.toNat + (-k).toNat ↔ k.toNat ≤ v.toNat)) ∧
  ∀ v : Word, v + 0#32 = v ∧ (v.msb == (0#32 : Word).msb && (v + 0#32).msb != v.msb) = false ∧
    ¬ 4294967295 < v.toNat + (0#32 : Word).toNat

/-- SETMASK and CLEARMASK carried out when taken: the mask's bits set or cleared and the others left, Z when none of
the mask's bits was set before, N on the new value, V and C 0 (R25, R31, R32, R40). -/
def Obligations.MasksSetAndClearBits : Prop :=
  ∀ (s : State) (q : Sender) (h : Handle) (g : Guard) (w : Half) (r : ObjectRecord) (v m x : Word) (order : Order),
    s.usable q h r → r.part = .cell v order → guardHolds g v = true →
    (s.serves q (.cell h (.setmask m) g w) → (∀ i < 32, x.getLsbD i = (v.getLsbD i || m.getLsbD i)) →
      exec (.setmask q h g w m) s =
        .next (s.cellCarriedOut q h r order v x x x.msb (v &&& m == 0#32) false false)) ∧
    (s.serves q (.cell h (.clearmask m) g w) → (∀ i < 32, x.getLsbD i = (v.getLsbD i && !m.getLsbD i)) →
      exec (.clearmask q h g w m) s =
        .next (s.cellCarriedOut q h r order v x x x.msb (v &&& m == 0#32) false false))

/-- COMPARESWAP carried out when taken: writes when the value is the expected one; Z tells success, N and C whether the
value was below, as signed and as unsigned, V 0 (R25, R33, R40). -/
def Obligations.CompareswapWritesOnMatch : Prop :=
  ∀ (s : State) (q : Sender) (h : Handle) (g : Guard) (w : Half) (r : ObjectRecord) (v e n : Word) (order : Order),
    s.usable q h r → r.part = .cell v order → guardHolds g v = true → s.serves q (.cell h (.compareswap e n) g w) →
    (v = e → exec (.compareswap q h g w e n) s =
      .next (s.cellCarriedOut q h r order v n n false true false false)) ∧
    (v ≠ e → exec (.compareswap q h g w e n) s =
      .next (s.cellCarriedOut q h r order v v v (decide (v.toInt < e.toInt)) false false (decide (v.toNat < e.toNat))))

/-- EXTRACT and INSERT carried out when taken, bit by bit: EXTRACT returns the field, extended by its top bit when
signed; INSERT replaces the field and V tells that the operand did not fit; N and Z on the result, the other flags 0
(R24, R25, R34, R35, R36, R40). -/
def Obligations.ExtractAndInsertFields : Prop :=
  ∀ (s : State) (q : Sender) (h : Handle) (g : Guard) (w : Half) (r : ObjectRecord) (v x : Word) (order : Order)
    (pos size : Byte), s.usable q h r → r.part = .cell v order → guardHolds g v = true →
    pos.toNat ≤ 31 → pos.toNat + size.toNat ≤ 32 →
    (∀ signed, s.serves q (.cell h (.extract pos size signed) g w) →
      (∀ i < 32, x.getLsbD i =
        if i < size.toNat then v.getLsbD (pos.toNat + i)
        else signed && decide (0 < size.toNat) && v.getLsbD (pos.toNat + size.toNat - 1)) →
      exec (.extract q h g w pos size signed) s = .next (s.cellCarriedOut q h r order v v x x.msb (x == 0#32) false false)) ∧
    ∀ field, s.serves q (.cell h (.insert pos size field) g w) →
      (∀ i < 32, x.getLsbD i =
        if pos.toNat ≤ i ∧ i < pos.toNat + size.toNat then field.getLsbD (i - pos.toNat) else v.getLsbD i) →
      exec (.insert q h g w pos size field) s = .next (s.cellCarriedOut q h r order v x x x.msb (x == 0#32)
        (decide (2 ^ size.toNat ≤ field.toNat)) false)

/-- The twelve guard relations (R42). -/
def Obligations.GuardRelations : Prop :=
  ∀ v x : Word,
    guardHolds ⟨.none, x⟩ v = true ∧ (guardHolds ⟨.eq, x⟩ v = true ↔ v = x) ∧ (guardHolds ⟨.ne, x⟩ v = true ↔ v ≠ x) ∧
    (guardHolds ⟨.lt, x⟩ v = true ↔ v.toInt < x.toInt) ∧ (guardHolds ⟨.le, x⟩ v = true ↔ v.toInt ≤ x.toInt) ∧
    (guardHolds ⟨.gt, x⟩ v = true ↔ x.toInt < v.toInt) ∧ (guardHolds ⟨.ge, x⟩ v = true ↔ x.toInt ≤ v.toInt) ∧
    (guardHolds ⟨.ltu, x⟩ v = true ↔ v.toNat < x.toNat) ∧ (guardHolds ⟨.geu, x⟩ v = true ↔ x.toNat ≤ v.toNat) ∧
    (guardHolds ⟨.allset, x⟩ v = true ↔ ∀ i < 32, x.getLsbD i = true → v.getLsbD i = true) ∧
    (guardHolds ⟨.anyset, x⟩ v = true ↔ ∃ i < 32, x.getLsbD i = true ∧ v.getLsbD i = true) ∧
    (guardHolds ⟨.allclear, x⟩ v = true ↔ ∀ i < 32, x.getLsbD i = true → v.getLsbD i = false)

/-- A cell request of any operation whose guard does not hold: replied GUARD_FALSE with the value when its wait limit is
0, else placed on the cell's list; the cell stays as it stands (R25, R26, R44, R45, R47). -/
def Obligations.FalseGuardRepliesOrWaits : Prop :=
  ∀ (s : State) (q : Sender) (h : Handle) (op : CellOp) (g : Guard) (w : Half) (r : ObjectRecord) (v : Word)
    (order : Order), s.serves q (.cell h op g w) → s.usable q h r → r.part = .cell v order →
    s.inRange (.cell h op g w) = true → guardHolds g v = false →
    (w = 0#16 → exec (cellCommand q h g w op) s = .next ((s.takeRequest q.port).replied q 0x20#8
      ⟨.guardFalse, ⟨v.msb, v == 0#32, false, false, false, false⟩, .cell v v⟩)) ∧
    (w ≠ 0#16 → ((s.port q.port).tag q.tag).state = .pending q.gen → exec (cellCommand q h g w op) s =
      .next ((s.takeRequest q.port).waiting q (.cell op g) h w (.object h.slot)))

/-- SET_ORDER writes the policy, replies it with the value, and then scans the cell's list (R39, R40). -/
def Obligations.SetOrderWritesPolicyAndScans : Prop :=
  ∀ (s : State) (q : Sender) (h : Handle) (order old : Order) (r : ObjectRecord) (v : Word),
    s.serves q (.setOrder h order) → s.usable q h r → r.part = .cell v old →
    exec (.setOrder q h order) s = .next (((((s.takeRequest q.port).holds h.slot
      { r with part := .cell v order }).replied q 0x21#8 ⟨.ok, Flags.clear, .order order v⟩)).scan h.slot)

/-- A scan of a cell leaves no satisfiable waiter: none on a PASSING cell, none at the head of a STRICT one (R49, R50,
R52). It changes no other slot, no accounting and no other list, and with nobody waiting it changes nothing. -/
def Obligations.ScanLeavesNoSatisfiableWaiter : Prop :=
  ∀ (s : State) (i : SlotNo) (t : State), t = s.scan i →
    (∀ r v, t.object i = some r → r.part = .cell v .passing →
      ∀ w ∈ t.waitList (.object i), ∀ op g, w.request = .cell op g → guardHolds g v = false) ∧
    (∀ r v w, t.object i = some r → r.part = .cell v .strict → (t.waitList (.object i)).head? = some w →
      ∀ op g, w.request = .cell op g → guardHolds g v = false) ∧
    (∀ j, j ≠ i → t.slot j = s.slot j) ∧ (t.slot i).stamp = (s.slot i).stamp ∧ t.queues = s.queues ∧
    t.free = s.free ∧ t.alerts = s.alerts ∧ s.sameOutside t ∧
    (∀ w, w.list ≠ .object i → (w ∈ t.waits ↔ w ∈ s.waits)) ∧ (s.waitList (.object i) = [] → t = s)

/-- A scan of a STRICT cell takes its wait list from the head and stops at the first waiter whose guard does not hold
(R49); a scan of a PASSING cell passes over its list from head to tail, each waiter once, and makes another pass of the
list as it then stands until one serves nobody (R50). A waiter served: its action runs against the value as it stands, it
leaves the list, its deadline is withdrawn, and it is replied OK with W set and its own flags (R37, R49, R51). -/
def Obligations.ScanServesAWaiter : Prop :=
  (∀ (s : State) (i : SlotNo) (r : ObjectRecord) (v : Word), s.object i = some r →
    (r.part = .cell v .strict → s.scan i = scanStrict i (s.waitList (.object i)) s) ∧
    (r.part = .cell v .passing →
      ∀ t served, (t, served) = (s.waitList (.object i)).foldl (scanPassRecord i) (s, false) →
        s.scan i = if served then t.scan i else t)) ∧
  (∀ (s : State) (i : SlotNo), scanStrict i [] s = s) ∧
  ∀ (s : State) (i : SlotNo) (r : ObjectRecord) (v : Word) (order : Order) (w : WaitRecord) (op : CellOp) (g : Guard)
    (ws : List WaitRecord) (served : Bool), s.object i = some r → r.part = .cell v order → w.list = .object i →
    w.request = .cell op g →
    (guardHolds g v = true →
      scanStrict i (w :: ws) s = scanStrict i ws
        (((s.holds i { r with part := .cell (cellAct op v).after order, check := .agrees }).without w).complete w.sender
          .cellOp ⟨.ok, { (cellAct op v).flags with w := true }, .cell v (cellAct op v).result⟩) ∧
      scanPassRecord i (s, served) w =
        (((s.holds i { r with part := .cell (cellAct op v).after order, check := .agrees }).without w).complete w.sender
          .cellOp ⟨.ok, { (cellAct op v).flags with w := true }, .cell v (cellAct op v).result⟩, true)) ∧
    (guardHolds g v = false → scanStrict i (w :: ws) s = s ∧ scanPassRecord i (s, served) w = (s, served))

/-! ### Queues -/

/-- A PUT by the first case of R71 that applies: handed to the oldest taker; FULL or a place on the queue's own list at
the limit; NO_SPACE or a place on the pool wait list when not grantable; else an entry linked at its end (R69, R71 to
R74, R173). A depth above the limit, which R73 rules out, is treated as at the limit (the model's choice, log 21). -/
def Obligations.PutByCases : Prop :=
  ∀ (s : State) (q : Sender) (h : Handle) (side : QueueEnd) (value : Word) (wait : Half) (r : ObjectRecord)
    (a : QueueAccount), s.serves q (.put h side value wait) → s.usable q h r → r.part = .queue →
    s.queue h.slot = some a →
    (∀ before w after e, s.waitList (.object h.slot) = before ++ w :: after →
      (∀ x ∈ before, ∀ e', x.request ≠ .take e') → w.request = .take e →
      exec (.put q h side value wait) s = .next ((((s.takeRequest q.port).without w).replied q 0x30#8
        ⟨.ok, Flags.clear, .depth 0⟩).complete w.sender .take ⟨.ok, Flags.waited, .entry value q.port 0⟩)) ∧
    ((∀ x ∈ s.waitList (.object h.slot), ∀ e, x.request ≠ .take e) →
      (a.limit ≤ a.chain.length →
        (wait = 0#16 → exec (.put q h side value wait) s = .next ((s.takeRequest q.port).replied q 0x30#8
          ⟨.full, Flags.clear, .depth a.chain.length⟩)) ∧
        (wait ≠ 0#16 → ((s.port q.port).tag q.tag).state = .pending q.gen → exec (.put q h side value wait) s =
          .next ((s.takeRequest q.port).waiting q (.put value side) h wait (.object h.slot)))) ∧
      (a.chain.length < a.limit → a.reserve ≤ a.chain.length → s.free ≤ s.outstanding →
        (wait = 0#16 → exec (.put q h side value wait) s = .next ((s.takeRequest q.port).replied q 0x30#8
          ⟨.noSpace, Flags.clear, .depth a.chain.length⟩)) ∧
        (wait ≠ 0#16 → ((s.port q.port).tag q.tag).state = .pending q.gen → exec (.put q h side value wait) s =
          .next ((s.takeRequest q.port).waiting q (.put value side) h wait .pool))) ∧
      (a.chain.length < a.limit → (a.chain.length < a.reserve ∨ s.outstanding < s.free) →
        ∀ chain, chain = (if side = .head then ⟨value, q.port⟩ :: a.chain else a.chain ++ [⟨value, q.port⟩]) →
        exec (.put q h side value wait) s = .next (s.endsJob (((s.takeRequest q.port).poolBecomes h.slot
          { a with chain := chain } (s.free - 1)).replied q 0x30#8
            ⟨.ok, Flags.clear, .depth (a.chain.length + 1)⟩))))

/-- A TAKE: the entry at its end, back to the pool, and after its reply the queue's own putters and pool service; on an
empty queue the oldest put for it on the pool wait list; else EMPTY or a place on the queue's list (R75, R76, R77,
R173). -/
def Obligations.TakeByCases : Prop :=
  ∀ (s : State) (q : Sender) (h : Handle) (side : QueueEnd) (wait : Half) (r : ObjectRecord) (a : QueueAccount),
    s.serves q (.take h side wait) → s.usable q h r → r.part = .queue → s.queue h.slot = some a →
    (∀ e rest, (side = .head ∧ a.chain = e :: rest ∨ side = .tail ∧ a.chain = rest ++ [e]) →
      exec (.take q h side wait) s = .next (s.endsJob (((((s.takeRequest q.port).poolBecomes h.slot
        { a with chain := rest } (s.free + 1)).replied q 0x31#8
          ⟨.ok, Flags.clear, .entry e.value e.source rest.length⟩).serveOwnPutters h.slot).poolService))) ∧
    (a.chain = [] →
      (∀ w ws value e, s.poolPuts h.slot = w :: ws → w.request = .put value e → exec (.take q h side wait) s =
        .next ((((s.takeRequest q.port).without w).replied q 0x31#8
          ⟨.ok, Flags.clear, .entry value w.sender.port 0⟩).complete w.sender .put ⟨.ok, Flags.waited, .depth 0⟩)) ∧
      (s.poolPuts h.slot = [] →
        (wait = 0#16 → exec (.take q h side wait) s =
          .next ((s.takeRequest q.port).replied q 0x31#8 ⟨.empty, Flags.clear, .depth 0⟩)) ∧
        (wait ≠ 0#16 → ((s.port q.port).tag q.tag).state = .pending q.gen → exec (.take q h side wait) s =
          .next ((s.takeRequest q.port).waiting q (.take side) h wait (.object h.slot)))))

/-- PEEK reports the entry at an index below the depth and changes nothing else; FLUSH empties the chain into the pool
and then serves the queue's own putters and the pool, or, on an empty queue, changes nothing else (R80, R81, R173). -/
def Obligations.PeekAndFlushQueues : Prop :=
  ∀ (s : State) (q : Sender) (h : Handle) (r : ObjectRecord) (a : QueueAccount), s.usable q h r → r.part = .queue →
    s.queue h.slot = some a →
    (∀ (index : Half) e, s.serves q (.peek h index) → a.chain[index.toNat]? = some e → exec (.peek q h index) s =
      .next ((s.takeRequest q.port).replied q 0x32#8 ⟨.ok, Flags.clear, .entry e.value e.source a.chain.length⟩)) ∧
    (s.serves q (.flush h) →
      (a.chain = [] → exec (.flush q h) s =
        .next ((s.takeRequest q.port).replied q 0x33#8 ⟨.ok, Flags.clear, .flushed 0 0⟩)) ∧
      (a.chain ≠ [] → exec (.flush q h) s = .next (s.endsJob (((((s.takeRequest q.port).poolBecomes h.slot
        { a with chain := [] } (s.free + a.chain.length)).replied q 0x33#8
          ⟨.ok, Flags.clear, .flushed a.chain.length 0⟩).serveOwnPutters h.slot).poolService))))

/-- SET_QUEUE_LIMITS with fields in range: NO_SPACE when the outstanding reserve as it would stand exceeds the free
count; else the limit and reserve are written and replied, the queue's own putters are served when the limit rose, and
pool service runs in every case (R82, R83, R173). -/
def Obligations.SetQueueLimitsWritesOrRefuses : Prop :=
  ∀ (s : State) (q : Sender) (h : Handle) (limit reserve : Half) (r : ObjectRecord) (a : QueueAccount),
    s.serves q (.setQueueLimits h limit reserve) → s.usable q h r → r.part = .queue → s.queue h.slot = some a →
    1 ≤ limit.toNat → limit.toNat ≤ 2048 → a.chain.length ≤ limit.toNat → reserve.toNat ≤ limit.toNat →
    ∀ u, u = (s.takeRequest q.port).poolBecomes h.slot { a with limit := limit.toNat, reserve := reserve.toNat } s.free →
    (s.free < u.outstanding → exec (.setQueueLimits q h limit reserve) s =
      .next (s.refuses q (.setQueueLimits h limit reserve) .noSpace)) ∧
    (u.outstanding ≤ s.free →
      ∀ v, v = u.replied q 0x34#8 ⟨.ok, Flags.clear, .limits limit.toNat reserve.toNat a.chain.length⟩ →
      (a.limit < limit.toNat → exec (.setQueueLimits q h limit reserve) s =
        .next (s.endsJob (v.serveOwnPutters h.slot).poolService)) ∧
      (limit.toNat ≤ a.limit → exec (.setQueueLimits q h limit reserve) s = .next (s.endsJob v.poolService)))

/-- The service of a queue's own putters walks the queue's wait list from head to tail (R79). A putter of that list, below
the limit, is granted an entry at its own end and replied OK with W set, or moves to the tail of the pool wait list; at
the limit it stays (R48, R73, R79). A put on the pool wait list moves to its queue's list at the limit, is granted when
grantable, and stays otherwise (R86). That a depth above the limit, which R73 rules out, counts as at the limit is the
model's choice (log 21). -/
def Obligations.WaitingPutsAreServed : Prop :=
  (∀ (s : State) (i : SlotNo), s.serveOwnPutters i = (s.waitList (.object i)).foldl (serveOwnPutter i) s) ∧
  ∀ (s : State) (i : SlotNo) (w : WaitRecord) (a : QueueAccount) (r : ObjectRecord) (value : Word) (side : QueueEnd)
    (done : Bool),
    s.queue i = some a → s.object i = some r → r.check = .agrees → w.request = .put value side → w.target.slot = i →
    ∀ granted, granted = ((s.without w).poolBecomes i { a with
        chain := if side = .head then ⟨value, w.sender.port⟩ :: a.chain else a.chain ++ [⟨value, w.sender.port⟩] }
        (s.free - 1)).complete w.sender .put ⟨.ok, Flags.waited, .depth (a.chain.length + 1)⟩ →
    (w.list = .object i →
      (a.limit ≤ a.chain.length → serveOwnPutter i s w = s) ∧
      (a.chain.length < a.limit → (a.chain.length < a.reserve ∨ s.outstanding < s.free) →
        serveOwnPutter i s w = granted) ∧
      (a.chain.length < a.limit → a.reserve ≤ a.chain.length → s.free ≤ s.outstanding →
        serveOwnPutter i s w = { s with waits := s.waits.erase w ++ [{ w with list := .pool }] })) ∧
    (w.list = .pool →
      (a.limit ≤ a.chain.length → poolPassRecord (s, done) w =
        ({ s with waits := s.waits.erase w ++ [{ w with list := .object i }] }, true)) ∧
      (a.chain.length < a.limit → (a.chain.length < a.reserve ∨ s.outstanding < s.free) →
        poolPassRecord (s, done) w = (granted, true)) ∧
      (a.chain.length < a.limit → a.reserve ≤ a.chain.length → s.free ≤ s.outstanding →
        poolPassRecord (s, done) w = (s, done)))

/-- Pool service walks the pool wait list from head to tail, each record once, and makes another pass of the list as it
then stands until one moves and places nothing (R86). It leaves no put on the pool wait list that is grantable, and none
whose queue is at its limit (R86, R87); with an empty pool wait list it changes nothing. -/
def Obligations.PoolServiceLeavesNoGrantablePut : Prop :=
  (∀ (s t : State) (done : Bool), (t, done) = (s.waitList .pool).foldl poolPassRecord (s, false) →
    s.poolService = if done then t.poolService else t) ∧
  ∀ (s t : State), t = s.poolService →
    (∀ w ∈ t.waitList .pool, ∀ value side a, w.request = .put value side → t.queue w.target.slot = some a →
      a.chain.length < a.limit ∧ a.reserve ≤ a.chain.length ∧ t.free ≤ t.outstanding) ∧
    (s.waitList .pool = [] → t = s)

/-! ### Locks -/

/-- An ACQUIRE at step 8: a free lock is taken with count 1; the holding session re-enters, up to 255; against another
holder it is replied HELD or waits (R91 to R94). -/
def Obligations.AcquireByCases : Prop :=
  ∀ (s : State) (q : Sender) (h : Handle) (wait : Half) (r : ObjectRecord) (holder : Option SessionId) (count : Nat)
    (damaged : Bool), s.serves q (.acquire h wait) → s.usable q h r → r.part = .lock holder count damaged →
    ∀ me : SessionId, me = ⟨q.port, (s.port q.port).session.number⟩ →
    (holder = none → exec (.acquire q h wait) s =
      .next (((s.takeRequest q.port).lockBecomes h.slot r (some me) 1 damaged).replied q 0x40#8
        (lockReply .ok damaged false (some q.port) 1))) ∧
    (holder = some me → count < 255 → exec (.acquire q h wait) s =
      .next (((s.takeRequest q.port).lockBecomes h.slot r (some me) (count + 1) damaged).replied q 0x40#8
        (lockReply .ok damaged false (some q.port) (count + 1)))) ∧
    (holder = some me → 255 ≤ count → exec (.acquire q h wait) s =
      .next ((s.takeRequest q.port).replied q 0x40#8 (lockReply .limit damaged false (some q.port) count))) ∧
    ∀ other, holder = some other → other ≠ me →
      (wait = 0#16 → exec (.acquire q h wait) s =
        .next ((s.takeRequest q.port).replied q 0x40#8 (lockReply .held damaged false (some other.port) count))) ∧
      (wait ≠ 0#16 → ((s.port q.port).tag q.tag).state = .pending q.gen → exec (.acquire q h wait) s =
        .next ((s.takeRequest q.port).waiting q .acquire h wait (.object h.slot)))

/-- A RELEASE by the holding session: the count falls; at the last hold the lock becomes free, or is handed to the oldest
waiter, the RELEASE replied first, the new holder next, and then the other waiters of its port as re-entries. From any
other session it is NOT_OWNER. RESTORE by the holding session clears the damaged flag (R91, R95 to R98). -/
def Obligations.ReleaseAndRestoreLocks : Prop :=
  ∀ (s : State) (q : Sender) (h : Handle) (r : ObjectRecord) (holder : Option SessionId) (count : Nat) (damaged : Bool),
    s.usable q h r → r.part = .lock holder count damaged →
    ∀ me : SessionId, me = ⟨q.port, (s.port q.port).session.number⟩ →
    (s.serves q (.release h) →
      (holder ≠ some me → exec (.release q h) s = .next ((s.takeRequest q.port).replied q 0x41#8
        (lockReply .notOwner damaged false (holder.map SessionId.port) count))) ∧
      (holder = some me → 1 < count → exec (.release q h) s =
        .next (((s.takeRequest q.port).lockBecomes h.slot r holder (count - 1) damaged).replied q 0x41#8
          (lockReply .ok damaged false (some q.port) (count - 1)))) ∧
      (holder = some me → count ≤ 1 →
        (s.waitList (.object h.slot) = [] → exec (.release q h) s =
          .next (((s.takeRequest q.port).lockBecomes h.slot r none 0 damaged).replied q 0x41#8
            (lockReply .ok damaged false none 0))) ∧
        ∀ w ws, s.waitList (.object h.slot) = w :: ws →
          ∀ u, u = ((((s.takeRequest q.port).without w).lockBecomes h.slot r
              (some ⟨w.sender.port, (s.port w.sender.port).session.number⟩) 1 damaged).replied q 0x41#8
                (lockReply .ok damaged false (some w.sender.port) 0)).complete w.sender .acquire
                  (lockReply .ok damaged true (some w.sender.port) 1) →
            exec (.release q h) s =
              .next ((ws.filter (fun v => v.sender.port == w.sender.port)).foldl (serveReentry h.slot) u))) ∧
    (s.serves q (.restore h) →
      (holder ≠ some me → exec (.restore q h) s = .next ((s.takeRequest q.port).replied q 0x42#8
        (lockReply .notOwner damaged false (holder.map SessionId.port) count))) ∧
      (holder = some me → exec (.restore q h) s =
        .next (((s.takeRequest q.port).lockBecomes h.slot r holder count false).replied q 0x42#8
          (lockReply .ok false false (some q.port) count)))) ∧
    ∀ w, w.list = .object h.slot → serveReentry h.slot s w =
      ((s.without w).lockBecomes h.slot r holder (count + 1) damaged).complete w.sender .acquire
        (lockReply .ok damaged true (holder.map SessionId.port) (count + 1))

/-! ### CANCEL and the administrative requests -/

/-- CANCEL: without a wait record on its target tag NOT_WAITING; with one whose object's record passes its check,
CANCELLED to the waiter, OK to the CANCEL, and then a scan of a STRICT cell that lost its head; when the record fails,
quarantine takes the waiter and the CANCEL is NOT_WAITING, with pool service after it for a queue that had a reserve term
(R20, R62, R63, R173). -/
def Obligations.CancelRemovesWaiter : Prop :=
  ∀ (s : State) (q : Sender) (target : Tag), s.serves q (.cancel target) →
    (s.waiterOf q.port target = none → exec (.cancel q target) s = .next (s.refuses q (.cancel target) .notWaiting)) ∧
    ∀ w r, s.waiterOf q.port target = some w → s.object w.target.slot = some r →
      (r.check = .agrees → (w.list = .object w.target.slot ∨ w.list = .pool) →
        ∀ u, u = (((s.takeRequest q.port).without w).replied w.sender w.request.code.byte
            ⟨.cancelled, Flags.waited, .none⟩).replied q 0x48#8 ⟨.ok, Flags.clear, .none⟩ →
          (∀ i, s.isStrictHead w i → exec (.cancel q target) s = .next (u.scan i)) ∧
          ((∀ i, ¬ s.isStrictHead w i) → exec (.cancel q target) s = .next u)) ∧
      (r.check = .fails → r.quarantined = false →
        ∀ u, u = ((s.takeRequest q.port).quarantine w.target.slot r).replied q 0x48#8
            ⟨.notWaiting, Flags.clear, .none⟩ →
          (¬ s.promisesEntries w.target.slot r → exec (.cancel q target) s = .next u) ∧
          (s.promisesEntries w.target.slot r → exec (.cancel q target) s = .next (s.endsJob u.poolService)))

/-- An administrative request is refused NO_RIGHT from a port without ADMIN, and RANGE for a port number above 7, a mark
above 2048, or a FORCE_CLOSE of the own port or of a session that is not OPEN; it then does nothing else (R163, R165,
R172). -/
def Obligations.AdministrativeRefusals : Prop :=
  ∀ (s : State) (q : Sender),
    (∀ r, s.serves q r → (s.rightsOf q.port).admin = false →
      ((∃ target rights, r = .setRights target rights) ∨ (∃ target, r = .forceClose target) ∨ r = .storeClear ∨
        r = .readAlerts ∨ (∃ target clear, r = .stats target clear) ∨ (∃ mark, r = .setPoolMark mark) ∨
        r = .partReset) →
      exec (requestCommand q r) s = .next (s.refuses q r .noRight)) ∧
    (∀ r (target : Byte), s.administers q r → 8 ≤ target.toNat →
      ((∃ rights, r = .setRights target rights) ∨ r = .forceClose target ∨ (∃ clear, r = .stats target clear)) →
      exec (requestCommand q r) s = .next (s.refuses q r .range)) ∧
    (∀ (target : Byte) (p : Port), s.administers q (.forceClose target) → target.toNat = p.val →
      (p = q.port ∨ (s.port p).session.state ≠ .opened) →
      exec (.forceClose q target) s = .next (s.refuses q (.forceClose target) .range)) ∧
    ∀ mark : Half, s.administers q (.setPoolMark mark) → 2048 < mark.toNat →
      exec (.setPoolMark q mark) s = .next (s.refuses q (.setPoolMark mark) .range)

/-- SET_RIGHTS replaces the target's rights and brings every indication up to date before its reply, unless it would take
ADMIN from its last holder; FORCE_CLOSE ends the target's OPEN session, where no PART_RESET reply stands unsent
at the target, with cause FORCED and replies its number (R122, R136, R164, R165). -/
def Obligations.SetRightsAndForceClose : Prop :=
  ∀ (s : State) (q : Sender) (target : Byte) (p : Port), target.toNat = p.val →
    (∀ rights, s.administers q (.setRights target rights) →
      ((s.rightsOf p).admin = true → (∀ x, x ≠ p → (s.rightsOf x).admin = false) → rights.admin = false →
        exec (.setRights q target rights) s = .next (s.refuses q (.setRights target rights) .lastAdmin)) ∧
      (((s.rightsOf p).admin = false ∨ (∃ x, x ≠ p ∧ (s.rightsOf x).admin = true) ∨ rights.admin = true) →
        exec (.setRights q target rights) s = .next (({ s.takeRequest q.port with
          rights := s.rights.set p.val rights p.isLt
          indications := indicationsFor (s.rights.set p.val rights p.isLt) s.alerts } : State).replied q 0x50#8
            ⟨.ok, Flags.clear, .rights p rights⟩))) ∧
    (s.administers q (.forceClose target) → p ≠ q.port → (s.port p).session.state = .opened →
      (∀ f ∈ (s.port p).unsent, f.purpose ≠ .partResetReply) →
      exec (.forceClose q target) s = .next (((s.takeRequest q.port).setPort p
        ((s.port p).endAbruptly .forced)).replied q 0x51#8
          ⟨.ok, Flags.clear, .forced p (s.port p).session.number⟩))

/-- A STORE_CLEAR empties every slot, advancing the stamps of those that were occupied, removes every waiter of an
object, and replies the number of objects and of waiters; where the laws of the table and of the pool held, the label
map is empty, no accounting is left and all 2048 entries are free (R166, R167, R168). That the number of waiters counts
those that quarantine removed too is the model's reading (log 22). The whole of it: the slots in ascending order, each
object that fails its check quarantined first, its waiters dismissed with DELETED in list order as it is deleted, pool
service, and the reply last (R13, R166, R168). -/
def Obligations.StoreClearEmptiesStore : Prop :=
  ∀ (s : State) (q : Sender), s.administers q .storeClear →
    ∃ t, exec (.storeClear q) s = .next t ∧
      (∀ i : SlotNo, t.slot i = if s.object i = none then s.slot i
        else ⟨if (s.slot i).stamp = 0xFF#8 then 0x01#8 else (s.slot i).stamp + 1#8, none⟩) ∧
      (∀ w ∈ t.waits, ∀ i : SlotNo, s.object i ≠ none →
        w.list ≠ .object i ∧ ¬ (w.list = .pool ∧ w.target.slot = i)) ∧
      (s.tableLaw → t.labelMap = []) ∧
      (s.poolLaw → t.free = 2048 ∧ ∀ i : SlotNo, t.queue i = none) ∧
      t.rights = s.rights ∧ t.poolMark = s.poolMark ∧ t.timebase = s.timebase ∧
      (∀ p : Port, (t.port p).session = (s.port p).session ∧ (t.port p).stats = (s.port p).stats) ∧
      ∃ before f, (t.port q.port).queue = before ++ [f] ∧ f.tag = some q.tag ∧ f.reply.code = 0x52#8 ∧
        f.reply.gen = q.gen ∧ f.reply.status = .ok ∧ f.reply.flags = Flags.clear ∧
        f.reply.data = .cleared ((allSlots.filter (fun i => (s.object i).isSome)).length)
          ((s.waits.filter s.waitsOnObject).length) ∧
        t = s.endsJob ((((List.finRange 256).foldl State.clearedSlot (s.takeRequest q.port)).poolService).replied q 0x52#8
          ⟨.ok, Flags.clear, f.reply.data⟩)

/-- READ_ALERTS takes up to four alerts from the head and clears the dropped count; STATS reports a port's statistics and
session and clears the statistics when asked; SET_POOL_MARK writes the mark and reports the free count; PART_RESET
replies OK and leaves reset pending. Nothing else changes (R122, R159, R171, R172, R174, R175). -/
def Obligations.AlertsStatisticsMarkAndReset : Prop :=
  ∀ (s : State) (q : Sender),
    (s.administers q .readAlerts → exec (.readAlerts q) s = .next (({ s.takeRequest q.port with
      alerts := s.alerts.drop 4
      dropped := 0
      indications := indicationsFor s.rights (s.alerts.drop 4) } : State).replied q 0x53#8
        ⟨.ok, Flags.clear, .alerts (s.alerts.take 4) (s.alerts.length - 4) s.dropped⟩)) ∧
    (∀ (target : Byte) (p : Port), target.toNat = p.val →
      ∀ data, data = .statistics p (s.port p).stats (s.port p).session.state (s.port p).session.number
          (s.port p).session.silence (s.port p).session.cause (s.port p).session.label →
      (s.administers q (.stats target false) → exec (.stats q target false) s =
        .next ((s.takeRequest q.port).replied q 0x54#8 ⟨.ok, Flags.clear, data⟩)) ∧
      (s.administers q (.stats target true) → exec (.stats q target true) s =
        .next (((s.takeRequest q.port).counts p fun _ => ⟨0, 0, 0, 0, 0, 0, 0, 0, 0, 0, 0⟩).replied q 0x54#8
          ⟨.ok, Flags.clear, data⟩))) ∧
    (∀ mark : Half, s.administers q (.setPoolMark mark) → mark.toNat ≤ 2048 → exec (.setPoolMark q mark) s =
      .next (({ s.takeRequest q.port with poolMark := mark.toNat } : State).replied q 0x55#8
        ⟨.ok, Flags.clear, .mark mark.toNat s.free⟩)) ∧
    (s.administers q .partReset → exec (.partReset q) s =
      .next (({ s.takeRequest q.port with resetPending := true } : State).repliedFor .partResetReply q 0x56#8
        ⟨.ok, Flags.clear, .none⟩))

/-! ### The teardown job -/

/-- The teardown job of a session with no waiter, no request taken off, no lock and no scoped object: after a CLOSE its
reply with three counts of 0, the port still CLOSING; after any other end its alert, and the port CLOSED with every tag
IDLE and every cache empty; nothing else (R138 to R144). -/
def Obligations.TeardownOfIdleSession : Prop :=
  ∀ (s : State) (p : Port) (j : TeardownJob), s.resetn = .mark → s.nextJob = some (.teardown p j) → j.taken = [] →
    (∀ w ∈ s.waits, w.sender.port ≠ p) →
    (∀ i r, s.object i = some r → (r.isScoped = true → r.creator ≠ ⟨p, j.number⟩) ∧
      ∀ count damaged, r.part ≠ .lock (some ⟨p, j.number⟩) count damaged) →
    (∀ t g, j.closing = some (t, g) → j.cause = .closed → (s.port p).session.state = .closing →
      (s.port p).session.cause = .closed →
      exec (.teardown p) s = .next ((s.takeTeardown p).repliedFor .closeReply ⟨p, t, g⟩ 0x04#8
        ⟨.ok, Flags.clear, .closed 0 0 0⟩)) ∧
    (j.closing = none → ∀ kind, (j.cause = .lapsed ∧ kind = .lapsed ⟨p, j.number⟩ ∨
        j.cause = .broken ∧ kind = .broken ⟨p, j.number⟩ ∨ j.cause = .forced ∧ kind = .forced ⟨p, j.number⟩) →
      exec (.teardown p) s = .next (((s.takeTeardown p).appendAlert kind).setPort p
        { s.port p with
          teardown := none
          session := { (s.port p).session with state := .closed }
          tags := Vector.replicate 4 ⟨.idle, none⟩ }))

/-- The teardown job of any session: its six stages in order, and what each does. Stage 1 takes the tags in ascending
order: a waiter is removed, replied CANCELLED with W after a CLOSE and not replied after any other end; a request taken
off the pending list is replied CANCELLED with W clear; an object whose record fails is quarantined; then every STRICT cell
whose head was removed is scanned, in ascending slot order. Stage 2 abandons the session's locks in ascending slot order:
free and damaged, or handed to the oldest waiter with W and D and count 1, its port's other waiters as re-entries. Stage 3
deletes the scoped objects, each with the pool service of its own, stage 4 runs pool service once more, stage 5 appends
the alert, and stage 6 replies the CLOSE with its three counts or closes the port. Where every tag's state says what
carries its request, no wait record of the port is left; where every record agrees as well, each lock of the session ends
free or with its oldest waiter of another port, and the counts are the requests cancelled, the locks held and the objects
scoped (R100, R138 to R145). -/
def Obligations.TeardownCleansUp : Prop :=
  (∀ (s : State) (p : Port) (j : TeardownJob), s.resetn = .mark → s.nextJob = some (.teardown p j) →
    exec (.teardown p) s = .next (s.endsJob (stageSix p j (stageFive ⟨p, j.number⟩ j.cause (stageFour
      (stageThree ⟨p, j.number⟩ (stageTwo ⟨p, j.number⟩ (stageOne p j ⟨s.takeTeardown p, 0, 0, 0, [], false⟩)))))))) ∧
  (∀ (p : Port) (j : TeardownJob) (x : TeardownRun),
    (∀ (t : Tag) w r, x.state.waiterOf p t = some w → x.state.object w.target.slot = some r →
      (r.check = .agrees → (w.list = .object w.target.slot ∨ w.list = .pool) →
        ∀ heads, ((∃ i, x.state.isStrictHead w i ∧ heads = i :: x.heads) ∨
            (∀ i, ¬ x.state.isStrictHead w i) ∧ heads = x.heads) →
          (j.cause = .closed → stageOneTag p j x t = { x with
            state := (x.state.without w).complete w.sender w.request.code ⟨.cancelled, Flags.waited, .none⟩
            cancelled := x.cancelled + 1, heads := heads }) ∧
          (j.cause ≠ .closed → stageOneTag p j x t = { x with state := x.state.without w, heads := heads })) ∧
      (r.check = .fails → r.quarantined = false →
        ∀ due, (due = true ↔ x.due = true ∨ x.state.promisesEntries w.target.slot r) →
          stageOneTag p j x t = { x with state := x.state.quarantine w.target.slot r, due := due })) ∧
    (∀ t : Tag, x.state.waiterOf p t = none →
      (∀ before r after, j.taken = before ++ r :: after → r.tag = t → (∀ e ∈ before, e.tag ≠ t) →
        stageOneTag p j x t = { x with
          state := x.state.complete ⟨p, t, r.gen⟩ r.request.code ⟨.cancelled, Flags.clear, .none⟩
          cancelled := x.cancelled + 1 }) ∧
      ((∀ r ∈ j.taken, r.tag ≠ t) → stageOneTag p j x t = x)) ∧
    ∀ y, y = stageOneTag p j (stageOneTag p j (stageOneTag p j (stageOneTag p j x 0) 1) 2) 3 →
      stageOne p j x = { y with
        state := ((List.finRange 256).filter (fun i => y.heads.contains i)).foldl State.scan y.state }) ∧
  (∀ (ending : SessionId) (x : TeardownRun),
    (∀ i r count damaged, x.state.object i = some r → r.part = .lock (some ending) count damaged →
      r.quarantined = false →
      (r.check = .fails → stageTwoSlot ending x i = { x with state := x.state.quarantine i r }) ∧
      (r.check = .agrees →
        (x.state.waitList (.object i) = [] → stageTwoSlot ending x i = { x with
          state := x.state.lockBecomes i r none 0 true, locks := x.locks + 1 }) ∧
        ∀ w ws, x.state.waitList (.object i) = w :: ws →
          ∀ u, u = ((x.state.without w).lockBecomes i r
              (some ⟨w.sender.port, (x.state.port w.sender.port).session.number⟩) 1 true).complete w.sender .acquire
                (lockReply .ok true true (some w.sender.port) 1) →
            stageTwoSlot ending x i = { x with
              state := (ws.filter (fun v => v.sender.port == w.sender.port)).foldl (serveReentry i) u
              locks := x.locks + 1 })) ∧
    (∀ i, (∀ r count damaged, x.state.object i = some r → r.part = .lock (some ending) count damaged →
      r.quarantined = true) → stageTwoSlot ending x i = x) ∧
    stageTwo ending x = (List.finRange 256).foldl (stageTwoSlot ending) x) ∧
  (∀ (ending : SessionId) (x : TeardownRun),
    (∀ i r, x.state.object i = some r → r.isScoped = true → r.creator = ending →
      ∀ u due, u = (if r.check = .fails ∧ r.quarantined = false then x.state.quarantine i r else x.state) →
        (due = true ↔ x.due = true ∨ u.givesBackEntries i ∨
          r.check = .fails ∧ r.quarantined = false ∧ x.state.promisesEntries i r) →
        (¬ u.givesBackEntries i →
          stageThreeSlot ending x i = { x with state := u.deleted i, deleted := x.deleted + 1, due := due }) ∧
        (u.givesBackEntries i → stageThreeSlot ending x i = { x with
          state := (u.deleted i).poolService, deleted := x.deleted + 1, due := due })) ∧
    (∀ i, (∀ r, x.state.object i = some r → r.isScoped = true → r.creator ≠ ending) → stageThreeSlot ending x i = x) ∧
    stageThree ending x = (List.finRange 256).foldl (stageThreeSlot ending) x ∧
    (x.due = true → stageFour x = { x with state := x.state.poolService }) ∧ (x.due = false → stageFour x = x) ∧
    stageFive ending .lapsed x = { x with state := x.state.appendAlert (.lapsed ending) } ∧
    stageFive ending .broken x = { x with state := x.state.appendAlert (.broken ending) } ∧
    stageFive ending .forced x = { x with state := x.state.appendAlert (.forced ending) } ∧
    stageFive ending .closed x = x) ∧
  ∀ (s : State) (p : Port) (j : TeardownJob), s.resetn = .mark → s.nextJob = some (.teardown p j) →
    ∃ t, exec (.teardown p) s = .next t ∧ (t.port p).teardown = none ∧
      (s.waitLaw → ∀ w ∈ t.waits, w.sender.port ≠ p) ∧
      (∀ i r, t.object i = some r → r.isScoped = true → r.creator ≠ ⟨p, j.number⟩) ∧
      (∀ i r held damaged, s.object i = some r → r.check = .agrees → r.quarantined = false →
        r.part = .lock (some ⟨p, j.number⟩) held damaged → ¬ (r.isScoped = true ∧ r.creator = ⟨p, j.number⟩) →
        ((∀ w ∈ s.waits, w.sender.port ≠ p) → s.waitList (.object i) = [] →
          t.object i = some { r with part := .lock none 0 true }) ∧
        (s.waitLaw → (∀ k o, s.object k = some o → o.check = .agrees) →
          ((s.waitList (.object i)).filter (fun w => w.sender.port != p) = [] →
            t.object i = some { r with part := .lock none 0 true }) ∧
          ∀ w ws, (s.waitList (.object i)).filter (fun w => w.sender.port != p) = w :: ws →
            ∀ count, count = 1 + (ws.filter (fun v => v.sender.port == w.sender.port)).length →
              t.object i = some { r with
                part := .lock (some ⟨w.sender.port, (s.port w.sender.port).session.number⟩) count true })) ∧
      (j.closing = none → (t.port p).session = { (s.port p).session with state := .closed } ∧
        (∀ k : Tag, (t.port p).tag k = ⟨.idle, none⟩) ∧ (s.waitLaw → (t.port p).queue = (s.port p).queue) ∧
        (j.cause = .lapsed → ⟨.lapsed ⟨p, j.number⟩, s.timebase⟩ ∈ t.alerts) ∧
        (j.cause = .broken → ⟨.broken ⟨p, j.number⟩, s.timebase⟩ ∈ t.alerts) ∧
        (j.cause = .forced → ⟨.forced ⟨p, j.number⟩, s.timebase⟩ ∈ t.alerts)) ∧
      (∀ k g, j.closing = some (k, g) → (s.port p).session.state = .closing → (s.port p).session.cause = .closed →
        (t.port p).session = (s.port p).session ∧
        ∃ before f cancelled locks deleted, (t.port p).queue = before ++ [f] ∧ f.tag = some k ∧
          f.purpose = .closeReply ∧ f.reply.code = 0x04#8 ∧ f.reply.gen = g ∧ f.reply.status = .ok ∧
          f.reply.flags = Flags.clear ∧ f.reply.data = .closed cancelled locks deleted ∧
          deleted = (allSlots.filter (fun i => (s.object i).any fun r =>
            r.isScoped && r.creator == ⟨p, j.number⟩)).length ∧
          (s.waitLaw → (∀ k o, s.object k = some o → o.check = .agrees) →
            cancelled = (s.waits.filter (fun w => w.sender.port == p)).length + j.taken.length ∧
            locks = (allSlots.filter (fun i => (s.object i).any fun r =>
              !r.quarantined && r.part.heldBy ⟨p, j.number⟩)).length))

/-! ### Frames -/

/-- The commands of one port unit and its link change nothing but that port. -/
def Obligations.PortCommandsChangeOnePort : Prop :=
  ∀ (c : Instr) (p : Port) (s t : State), onePortCommand c = some p → exec c s = .next t →
    t = s.setPort p (t.port p)

/-- A request on a cell or a lock whose record passes its check, or is quarantined already, changes no other slot, no
label, no accounting, no entry, no alert, no right and no wait record of another list; of the ports it changes tags,
pending lists and transmit queues only. -/
def Obligations.CellAndLockRequestsFrame : Prop :=
  ∀ (s t : State) (q : Sender) (r : Request) (h : Handle), onCellOrLock r = true → requestHandle r = some h →
    (∀ o, s.resolve h = some o → o.check = .agrees ∨ o.quarantined = true) →
    exec (requestCommand q r) s = .next t →
    s.sameOutside t ∧ t.queues = s.queues ∧ t.free = s.free ∧ t.alerts = s.alerts ∧ t.dropped = s.dropped ∧
    t.indications = s.indications ∧ (∀ i, i ≠ h.slot → t.slot i = s.slot i) ∧
    (t.slot h.slot).stamp = (s.slot h.slot).stamp ∧
    (∀ w, w.list ≠ .object h.slot → (w ∈ t.waits ↔ w ∈ s.waits)) ∧
    (∀ p, p ≠ q.port → (t.port p).requests = (s.port p).requests)

/-- A request on a queue, where every record agrees with its check, changes no object record, no stamp, no label and no
right; of the ports it changes tags, pending lists and transmit queues only; it changes the accounting of other queues
only by waiting puts it serves, so with an empty pool wait list not at all. -/
def Obligations.QueueRequestsFrame : Prop :=
  ∀ (s t : State) (q : Sender) (r : Request) (h : Handle), onQueue r = true → requestHandle r = some h →
    (∀ i o, s.object i = some o → o.check = .agrees) → exec (requestCommand q r) s = .next t →
    s.sameOutside t ∧ t.slots = s.slots ∧ (∀ p, p ≠ q.port → (t.port p).requests = (s.port p).requests) ∧
    (s.waitList .pool = [] → (∀ w ∈ s.waitList (.object h.slot), w.target.slot = h.slot) →
      ∀ i, i ≠ h.slot → t.queue i = s.queue i)

/-! ### Invariants -/

/-- The laws of the entry pool hold at every moment: every command keeps entry conservation, the law of reserves, the
limits, and accounting exactly where a queue's record stands (R66, R67, R68, R73). -/
def Obligations.PoolLawIsKept : Prop :=
  ∀ (s t : State), s.poolLaw → step s = .next t → t.poolLaw

/-- The laws of a port hold at every moment (R118, R128, R131, R132, R134, R138, R144, R145). -/
def Obligations.PortLawIsKept : Prop :=
  ∀ (s t : State), (∀ p, (s.port p).portLaw) → step s = .next t → ∀ p, (t.port p).portLaw

/-- The laws of the object table and the label map hold at every moment (R4, R6, R7, R8), and so does the law that a lock
has a holder exactly when its count is above 0 (R104). -/
def Obligations.ObjectLawsAreKept : Prop :=
  ∀ (s t : State), step s = .next t → (s.tableLaw → t.tableLaw) ∧ (s.lockLaw → t.lockLaw)

/-- At least one port holds ADMIN, the alert list holds at most 8, the dropped count at most 255, and the indications
are as R122 gives them, at every moment (R122, R164, R169). -/
def Obligations.AdminLawIsKept : Prop :=
  ∀ (s t : State), s.adminLaw → step s = .next t → t.adminLaw

/-- The law of wait records and tags holds at every moment: each tag's state says what carries its request, and that
alone carries it; a tag is WAITING exactly when one wait record carries its port and tag, and a wait record stands on the
list of the object it names or on the pool wait list (R46, R106, R115, R118). -/
def Obligations.WaitLawIsKept : Prop :=
  ∀ (s t : State), s.waitLaw → step s = .next t → t.waitLaw
end

