-- ==== Sys2Proof/Laws/State.lean ====
section
/-! SUPPORT. One lemma for each field and each update of the state, and what reading a member of a table gives after
one member was written. -/

namespace Sys2Proof.Machine

/-! ### setPort -/

@[simp] theorem State.setPort_pending (s : State) (p : Port) (x : PortState) : (s.setPort p x).pending = s.pending := rfl

@[simp] theorem State.setPort_resetn (s : State) (p : Port) (x : PortState) : (s.setPort p x).resetn = s.resetn := rfl

@[simp] theorem State.setPort_straps (s : State) (p : Port) (x : PortState) : (s.setPort p x).straps = s.straps := rfl

@[simp] theorem State.setPort_lineRate (s : State) (p : Port) (x : PortState) : (s.setPort p x).lineRate = s.lineRate := rfl

@[simp] theorem State.setPort_searchStart (s : State) (p : Port) (x : PortState) : (s.setPort p x).searchStart = s.searchStart := rfl

@[simp] theorem State.setPort_resetPending (s : State) (p : Port) (x : PortState) : (s.setPort p x).resetPending = s.resetPending := rfl

@[simp] theorem State.setPort_slots (s : State) (p : Port) (x : PortState) : (s.setPort p x).slots = s.slots := rfl

@[simp] theorem State.setPort_labelMap (s : State) (p : Port) (x : PortState) : (s.setPort p x).labelMap = s.labelMap := rfl

@[simp] theorem State.setPort_waits (s : State) (p : Port) (x : PortState) : (s.setPort p x).waits = s.waits := rfl

@[simp] theorem State.setPort_queues (s : State) (p : Port) (x : PortState) : (s.setPort p x).queues = s.queues := rfl

@[simp] theorem State.setPort_free (s : State) (p : Port) (x : PortState) : (s.setPort p x).free = s.free := rfl

@[simp] theorem State.setPort_rights (s : State) (p : Port) (x : PortState) : (s.setPort p x).rights = s.rights := rfl

@[simp] theorem State.setPort_alerts (s : State) (p : Port) (x : PortState) : (s.setPort p x).alerts = s.alerts := rfl

@[simp] theorem State.setPort_dropped (s : State) (p : Port) (x : PortState) : (s.setPort p x).dropped = s.dropped := rfl

@[simp] theorem State.setPort_indications (s : State) (p : Port) (x : PortState) : (s.setPort p x).indications = s.indications := rfl

@[simp] theorem State.setPort_poolMark (s : State) (p : Port) (x : PortState) : (s.setPort p x).poolMark = s.poolMark := rfl

@[simp] theorem State.setPort_timebase (s : State) (p : Port) (x : PortState) : (s.setPort p x).timebase = s.timebase := rfl

@[simp] theorem State.setPort_deadlines (s : State) (p : Port) (x : PortState) : (s.setPort p x).deadlines = s.deadlines := rfl

@[simp] theorem State.setPort_expiry (s : State) (p : Port) (x : PortState) : (s.setPort p x).expiry = s.expiry := rfl

/-! ### setSlot -/

@[simp] theorem State.setSlot_pending (s : State) (i : SlotNo) (x : Slot) : (s.setSlot i x).pending = s.pending := rfl

@[simp] theorem State.setSlot_resetn (s : State) (i : SlotNo) (x : Slot) : (s.setSlot i x).resetn = s.resetn := rfl

@[simp] theorem State.setSlot_straps (s : State) (i : SlotNo) (x : Slot) : (s.setSlot i x).straps = s.straps := rfl

@[simp] theorem State.setSlot_lineRate (s : State) (i : SlotNo) (x : Slot) : (s.setSlot i x).lineRate = s.lineRate := rfl

@[simp] theorem State.setSlot_ports (s : State) (i : SlotNo) (x : Slot) : (s.setSlot i x).ports = s.ports := rfl

@[simp] theorem State.setSlot_searchStart (s : State) (i : SlotNo) (x : Slot) : (s.setSlot i x).searchStart = s.searchStart := rfl

@[simp] theorem State.setSlot_resetPending (s : State) (i : SlotNo) (x : Slot) : (s.setSlot i x).resetPending = s.resetPending := rfl

@[simp] theorem State.setSlot_labelMap (s : State) (i : SlotNo) (x : Slot) : (s.setSlot i x).labelMap = s.labelMap := rfl

@[simp] theorem State.setSlot_waits (s : State) (i : SlotNo) (x : Slot) : (s.setSlot i x).waits = s.waits := rfl

@[simp] theorem State.setSlot_queues (s : State) (i : SlotNo) (x : Slot) : (s.setSlot i x).queues = s.queues := rfl

@[simp] theorem State.setSlot_free (s : State) (i : SlotNo) (x : Slot) : (s.setSlot i x).free = s.free := rfl

@[simp] theorem State.setSlot_rights (s : State) (i : SlotNo) (x : Slot) : (s.setSlot i x).rights = s.rights := rfl

@[simp] theorem State.setSlot_alerts (s : State) (i : SlotNo) (x : Slot) : (s.setSlot i x).alerts = s.alerts := rfl

@[simp] theorem State.setSlot_dropped (s : State) (i : SlotNo) (x : Slot) : (s.setSlot i x).dropped = s.dropped := rfl

@[simp] theorem State.setSlot_indications (s : State) (i : SlotNo) (x : Slot) : (s.setSlot i x).indications = s.indications := rfl

@[simp] theorem State.setSlot_poolMark (s : State) (i : SlotNo) (x : Slot) : (s.setSlot i x).poolMark = s.poolMark := rfl

@[simp] theorem State.setSlot_timebase (s : State) (i : SlotNo) (x : Slot) : (s.setSlot i x).timebase = s.timebase := rfl

@[simp] theorem State.setSlot_deadlines (s : State) (i : SlotNo) (x : Slot) : (s.setSlot i x).deadlines = s.deadlines := rfl

@[simp] theorem State.setSlot_expiry (s : State) (i : SlotNo) (x : Slot) : (s.setSlot i x).expiry = s.expiry := rfl

/-! ### setQueue -/

@[simp] theorem State.setQueue_pending (s : State) (i : SlotNo) (x : Option QueueAccount) : (s.setQueue i x).pending = s.pending := rfl

@[simp] theorem State.setQueue_resetn (s : State) (i : SlotNo) (x : Option QueueAccount) : (s.setQueue i x).resetn = s.resetn := rfl

@[simp] theorem State.setQueue_straps (s : State) (i : SlotNo) (x : Option QueueAccount) : (s.setQueue i x).straps = s.straps := rfl

@[simp] theorem State.setQueue_lineRate (s : State) (i : SlotNo) (x : Option QueueAccount) : (s.setQueue i x).lineRate = s.lineRate := rfl

@[simp] theorem State.setQueue_ports (s : State) (i : SlotNo) (x : Option QueueAccount) : (s.setQueue i x).ports = s.ports := rfl

@[simp] theorem State.setQueue_searchStart (s : State) (i : SlotNo) (x : Option QueueAccount) : (s.setQueue i x).searchStart = s.searchStart := rfl

@[simp] theorem State.setQueue_resetPending (s : State) (i : SlotNo) (x : Option QueueAccount) : (s.setQueue i x).resetPending = s.resetPending := rfl

@[simp] theorem State.setQueue_slots (s : State) (i : SlotNo) (x : Option QueueAccount) : (s.setQueue i x).slots = s.slots := rfl

@[simp] theorem State.setQueue_labelMap (s : State) (i : SlotNo) (x : Option QueueAccount) : (s.setQueue i x).labelMap = s.labelMap := rfl

@[simp] theorem State.setQueue_waits (s : State) (i : SlotNo) (x : Option QueueAccount) : (s.setQueue i x).waits = s.waits := rfl

@[simp] theorem State.setQueue_free (s : State) (i : SlotNo) (x : Option QueueAccount) : (s.setQueue i x).free = s.free := rfl

@[simp] theorem State.setQueue_rights (s : State) (i : SlotNo) (x : Option QueueAccount) : (s.setQueue i x).rights = s.rights := rfl

@[simp] theorem State.setQueue_alerts (s : State) (i : SlotNo) (x : Option QueueAccount) : (s.setQueue i x).alerts = s.alerts := rfl

@[simp] theorem State.setQueue_dropped (s : State) (i : SlotNo) (x : Option QueueAccount) : (s.setQueue i x).dropped = s.dropped := rfl

@[simp] theorem State.setQueue_indications (s : State) (i : SlotNo) (x : Option QueueAccount) : (s.setQueue i x).indications = s.indications := rfl

@[simp] theorem State.setQueue_poolMark (s : State) (i : SlotNo) (x : Option QueueAccount) : (s.setQueue i x).poolMark = s.poolMark := rfl

@[simp] theorem State.setQueue_timebase (s : State) (i : SlotNo) (x : Option QueueAccount) : (s.setQueue i x).timebase = s.timebase := rfl

@[simp] theorem State.setQueue_deadlines (s : State) (i : SlotNo) (x : Option QueueAccount) : (s.setQueue i x).deadlines = s.deadlines := rfl

@[simp] theorem State.setQueue_expiry (s : State) (i : SlotNo) (x : Option QueueAccount) : (s.setQueue i x).expiry = s.expiry := rfl

/-! ### setAlerts -/

@[simp] theorem State.setAlerts_pending (s : State) (l : List Alert) (n : Nat) : (s.setAlerts l n).pending = s.pending := rfl

@[simp] theorem State.setAlerts_resetn (s : State) (l : List Alert) (n : Nat) : (s.setAlerts l n).resetn = s.resetn := rfl

@[simp] theorem State.setAlerts_straps (s : State) (l : List Alert) (n : Nat) : (s.setAlerts l n).straps = s.straps := rfl

@[simp] theorem State.setAlerts_lineRate (s : State) (l : List Alert) (n : Nat) : (s.setAlerts l n).lineRate = s.lineRate := rfl

@[simp] theorem State.setAlerts_ports (s : State) (l : List Alert) (n : Nat) : (s.setAlerts l n).ports = s.ports := rfl

@[simp] theorem State.setAlerts_searchStart (s : State) (l : List Alert) (n : Nat) : (s.setAlerts l n).searchStart = s.searchStart := rfl

@[simp] theorem State.setAlerts_resetPending (s : State) (l : List Alert) (n : Nat) : (s.setAlerts l n).resetPending = s.resetPending := rfl

@[simp] theorem State.setAlerts_slots (s : State) (l : List Alert) (n : Nat) : (s.setAlerts l n).slots = s.slots := rfl

@[simp] theorem State.setAlerts_labelMap (s : State) (l : List Alert) (n : Nat) : (s.setAlerts l n).labelMap = s.labelMap := rfl

@[simp] theorem State.setAlerts_waits (s : State) (l : List Alert) (n : Nat) : (s.setAlerts l n).waits = s.waits := rfl

@[simp] theorem State.setAlerts_queues (s : State) (l : List Alert) (n : Nat) : (s.setAlerts l n).queues = s.queues := rfl

@[simp] theorem State.setAlerts_free (s : State) (l : List Alert) (n : Nat) : (s.setAlerts l n).free = s.free := rfl

@[simp] theorem State.setAlerts_rights (s : State) (l : List Alert) (n : Nat) : (s.setAlerts l n).rights = s.rights := rfl

@[simp] theorem State.setAlerts_poolMark (s : State) (l : List Alert) (n : Nat) : (s.setAlerts l n).poolMark = s.poolMark := rfl

@[simp] theorem State.setAlerts_timebase (s : State) (l : List Alert) (n : Nat) : (s.setAlerts l n).timebase = s.timebase := rfl

@[simp] theorem State.setAlerts_deadlines (s : State) (l : List Alert) (n : Nat) : (s.setAlerts l n).deadlines = s.deadlines := rfl

@[simp] theorem State.setAlerts_expiry (s : State) (l : List Alert) (n : Nat) : (s.setAlerts l n).expiry = s.expiry := rfl

/-! ### setRights -/

@[simp] theorem State.setRights_pending (s : State) (p : Port) (r : Rights) : (s.setRights p r).pending = s.pending := rfl

@[simp] theorem State.setRights_resetn (s : State) (p : Port) (r : Rights) : (s.setRights p r).resetn = s.resetn := rfl

@[simp] theorem State.setRights_straps (s : State) (p : Port) (r : Rights) : (s.setRights p r).straps = s.straps := rfl

@[simp] theorem State.setRights_lineRate (s : State) (p : Port) (r : Rights) : (s.setRights p r).lineRate = s.lineRate := rfl

@[simp] theorem State.setRights_ports (s : State) (p : Port) (r : Rights) : (s.setRights p r).ports = s.ports := rfl

@[simp] theorem State.setRights_searchStart (s : State) (p : Port) (r : Rights) : (s.setRights p r).searchStart = s.searchStart := rfl

@[simp] theorem State.setRights_resetPending (s : State) (p : Port) (r : Rights) : (s.setRights p r).resetPending = s.resetPending := rfl

@[simp] theorem State.setRights_slots (s : State) (p : Port) (r : Rights) : (s.setRights p r).slots = s.slots := rfl

@[simp] theorem State.setRights_labelMap (s : State) (p : Port) (r : Rights) : (s.setRights p r).labelMap = s.labelMap := rfl

@[simp] theorem State.setRights_waits (s : State) (p : Port) (r : Rights) : (s.setRights p r).waits = s.waits := rfl

@[simp] theorem State.setRights_queues (s : State) (p : Port) (r : Rights) : (s.setRights p r).queues = s.queues := rfl

@[simp] theorem State.setRights_free (s : State) (p : Port) (r : Rights) : (s.setRights p r).free = s.free := rfl

@[simp] theorem State.setRights_alerts (s : State) (p : Port) (r : Rights) : (s.setRights p r).alerts = s.alerts := rfl

@[simp] theorem State.setRights_dropped (s : State) (p : Port) (r : Rights) : (s.setRights p r).dropped = s.dropped := rfl

@[simp] theorem State.setRights_poolMark (s : State) (p : Port) (r : Rights) : (s.setRights p r).poolMark = s.poolMark := rfl

@[simp] theorem State.setRights_timebase (s : State) (p : Port) (r : Rights) : (s.setRights p r).timebase = s.timebase := rfl

@[simp] theorem State.setRights_deadlines (s : State) (p : Port) (r : Rights) : (s.setRights p r).deadlines = s.deadlines := rfl

@[simp] theorem State.setRights_expiry (s : State) (p : Port) (r : Rights) : (s.setRights p r).expiry = s.expiry := rfl

/-! ### writeRecord -/

@[simp] theorem State.writeRecord_pending (s : State) (i : SlotNo) (r : ObjectRecord) : (s.writeRecord i r).pending = s.pending := rfl

@[simp] theorem State.writeRecord_resetn (s : State) (i : SlotNo) (r : ObjectRecord) : (s.writeRecord i r).resetn = s.resetn := rfl

@[simp] theorem State.writeRecord_straps (s : State) (i : SlotNo) (r : ObjectRecord) : (s.writeRecord i r).straps = s.straps := rfl

@[simp] theorem State.writeRecord_lineRate (s : State) (i : SlotNo) (r : ObjectRecord) : (s.writeRecord i r).lineRate = s.lineRate := rfl

@[simp] theorem State.writeRecord_ports (s : State) (i : SlotNo) (r : ObjectRecord) : (s.writeRecord i r).ports = s.ports := rfl

@[simp] theorem State.writeRecord_searchStart (s : State) (i : SlotNo) (r : ObjectRecord) : (s.writeRecord i r).searchStart = s.searchStart := rfl

@[simp] theorem State.writeRecord_resetPending (s : State) (i : SlotNo) (r : ObjectRecord) : (s.writeRecord i r).resetPending = s.resetPending := rfl

@[simp] theorem State.writeRecord_labelMap (s : State) (i : SlotNo) (r : ObjectRecord) : (s.writeRecord i r).labelMap = s.labelMap := rfl

@[simp] theorem State.writeRecord_waits (s : State) (i : SlotNo) (r : ObjectRecord) : (s.writeRecord i r).waits = s.waits := rfl

@[simp] theorem State.writeRecord_queues (s : State) (i : SlotNo) (r : ObjectRecord) : (s.writeRecord i r).queues = s.queues := rfl

@[simp] theorem State.writeRecord_free (s : State) (i : SlotNo) (r : ObjectRecord) : (s.writeRecord i r).free = s.free := rfl

@[simp] theorem State.writeRecord_rights (s : State) (i : SlotNo) (r : ObjectRecord) : (s.writeRecord i r).rights = s.rights := rfl

@[simp] theorem State.writeRecord_alerts (s : State) (i : SlotNo) (r : ObjectRecord) : (s.writeRecord i r).alerts = s.alerts := rfl

@[simp] theorem State.writeRecord_dropped (s : State) (i : SlotNo) (r : ObjectRecord) : (s.writeRecord i r).dropped = s.dropped := rfl

@[simp] theorem State.writeRecord_indications (s : State) (i : SlotNo) (r : ObjectRecord) : (s.writeRecord i r).indications = s.indications := rfl

@[simp] theorem State.writeRecord_poolMark (s : State) (i : SlotNo) (r : ObjectRecord) : (s.writeRecord i r).poolMark = s.poolMark := rfl

@[simp] theorem State.writeRecord_timebase (s : State) (i : SlotNo) (r : ObjectRecord) : (s.writeRecord i r).timebase = s.timebase := rfl

@[simp] theorem State.writeRecord_deadlines (s : State) (i : SlotNo) (r : ObjectRecord) : (s.writeRecord i r).deadlines = s.deadlines := rfl

@[simp] theorem State.writeRecord_expiry (s : State) (i : SlotNo) (r : ObjectRecord) : (s.writeRecord i r).expiry = s.expiry := rfl

/-! ### takeRequest -/

@[simp] theorem State.takeRequest_pending (s : State) (p : Port) : (s.takeRequest p).pending = s.pending := rfl

@[simp] theorem State.takeRequest_resetn (s : State) (p : Port) : (s.takeRequest p).resetn = s.resetn := rfl

@[simp] theorem State.takeRequest_straps (s : State) (p : Port) : (s.takeRequest p).straps = s.straps := rfl

@[simp] theorem State.takeRequest_lineRate (s : State) (p : Port) : (s.takeRequest p).lineRate = s.lineRate := rfl

@[simp] theorem State.takeRequest_resetPending (s : State) (p : Port) : (s.takeRequest p).resetPending = s.resetPending := rfl

@[simp] theorem State.takeRequest_slots (s : State) (p : Port) : (s.takeRequest p).slots = s.slots := rfl

@[simp] theorem State.takeRequest_labelMap (s : State) (p : Port) : (s.takeRequest p).labelMap = s.labelMap := rfl

@[simp] theorem State.takeRequest_waits (s : State) (p : Port) : (s.takeRequest p).waits = s.waits := rfl

@[simp] theorem State.takeRequest_queues (s : State) (p : Port) : (s.takeRequest p).queues = s.queues := rfl

@[simp] theorem State.takeRequest_free (s : State) (p : Port) : (s.takeRequest p).free = s.free := rfl

@[simp] theorem State.takeRequest_rights (s : State) (p : Port) : (s.takeRequest p).rights = s.rights := rfl

@[simp] theorem State.takeRequest_alerts (s : State) (p : Port) : (s.takeRequest p).alerts = s.alerts := rfl

@[simp] theorem State.takeRequest_dropped (s : State) (p : Port) : (s.takeRequest p).dropped = s.dropped := rfl

@[simp] theorem State.takeRequest_indications (s : State) (p : Port) : (s.takeRequest p).indications = s.indications := rfl

@[simp] theorem State.takeRequest_poolMark (s : State) (p : Port) : (s.takeRequest p).poolMark = s.poolMark := rfl

@[simp] theorem State.takeRequest_timebase (s : State) (p : Port) : (s.takeRequest p).timebase = s.timebase := rfl

@[simp] theorem State.takeRequest_deadlines (s : State) (p : Port) : (s.takeRequest p).deadlines = s.deadlines := rfl

@[simp] theorem State.takeRequest_expiry (s : State) (p : Port) : (s.takeRequest p).expiry = s.expiry := rfl

/-! ### takeTeardown -/

@[simp] theorem State.takeTeardown_pending (s : State) (p : Port) : (s.takeTeardown p).pending = s.pending := rfl

@[simp] theorem State.takeTeardown_resetn (s : State) (p : Port) : (s.takeTeardown p).resetn = s.resetn := rfl

@[simp] theorem State.takeTeardown_straps (s : State) (p : Port) : (s.takeTeardown p).straps = s.straps := rfl

@[simp] theorem State.takeTeardown_lineRate (s : State) (p : Port) : (s.takeTeardown p).lineRate = s.lineRate := rfl

@[simp] theorem State.takeTeardown_resetPending (s : State) (p : Port) : (s.takeTeardown p).resetPending = s.resetPending := rfl

@[simp] theorem State.takeTeardown_slots (s : State) (p : Port) : (s.takeTeardown p).slots = s.slots := rfl

@[simp] theorem State.takeTeardown_labelMap (s : State) (p : Port) : (s.takeTeardown p).labelMap = s.labelMap := rfl

@[simp] theorem State.takeTeardown_waits (s : State) (p : Port) : (s.takeTeardown p).waits = s.waits := rfl

@[simp] theorem State.takeTeardown_queues (s : State) (p : Port) : (s.takeTeardown p).queues = s.queues := rfl

@[simp] theorem State.takeTeardown_free (s : State) (p : Port) : (s.takeTeardown p).free = s.free := rfl

@[simp] theorem State.takeTeardown_rights (s : State) (p : Port) : (s.takeTeardown p).rights = s.rights := rfl

@[simp] theorem State.takeTeardown_alerts (s : State) (p : Port) : (s.takeTeardown p).alerts = s.alerts := rfl

@[simp] theorem State.takeTeardown_dropped (s : State) (p : Port) : (s.takeTeardown p).dropped = s.dropped := rfl

@[simp] theorem State.takeTeardown_indications (s : State) (p : Port) : (s.takeTeardown p).indications = s.indications := rfl

@[simp] theorem State.takeTeardown_poolMark (s : State) (p : Port) : (s.takeTeardown p).poolMark = s.poolMark := rfl

@[simp] theorem State.takeTeardown_timebase (s : State) (p : Port) : (s.takeTeardown p).timebase = s.timebase := rfl

@[simp] theorem State.takeTeardown_deadlines (s : State) (p : Port) : (s.takeTeardown p).deadlines = s.deadlines := rfl

@[simp] theorem State.takeTeardown_expiry (s : State) (p : Port) : (s.takeTeardown p).expiry = s.expiry := rfl

/-! ### takeExpiry -/

@[simp] theorem State.takeExpiry_pending (s : State) : (s.takeExpiry).pending = s.pending := rfl

@[simp] theorem State.takeExpiry_resetn (s : State) : (s.takeExpiry).resetn = s.resetn := rfl

@[simp] theorem State.takeExpiry_straps (s : State) : (s.takeExpiry).straps = s.straps := rfl

@[simp] theorem State.takeExpiry_lineRate (s : State) : (s.takeExpiry).lineRate = s.lineRate := rfl

@[simp] theorem State.takeExpiry_ports (s : State) : (s.takeExpiry).ports = s.ports := rfl

@[simp] theorem State.takeExpiry_resetPending (s : State) : (s.takeExpiry).resetPending = s.resetPending := rfl

@[simp] theorem State.takeExpiry_slots (s : State) : (s.takeExpiry).slots = s.slots := rfl

@[simp] theorem State.takeExpiry_labelMap (s : State) : (s.takeExpiry).labelMap = s.labelMap := rfl

@[simp] theorem State.takeExpiry_waits (s : State) : (s.takeExpiry).waits = s.waits := rfl

@[simp] theorem State.takeExpiry_queues (s : State) : (s.takeExpiry).queues = s.queues := rfl

@[simp] theorem State.takeExpiry_free (s : State) : (s.takeExpiry).free = s.free := rfl

@[simp] theorem State.takeExpiry_rights (s : State) : (s.takeExpiry).rights = s.rights := rfl

@[simp] theorem State.takeExpiry_alerts (s : State) : (s.takeExpiry).alerts = s.alerts := rfl

@[simp] theorem State.takeExpiry_dropped (s : State) : (s.takeExpiry).dropped = s.dropped := rfl

@[simp] theorem State.takeExpiry_indications (s : State) : (s.takeExpiry).indications = s.indications := rfl

@[simp] theorem State.takeExpiry_poolMark (s : State) : (s.takeExpiry).poolMark = s.poolMark := rfl

@[simp] theorem State.takeExpiry_timebase (s : State) : (s.takeExpiry).timebase = s.timebase := rfl

/-! ### The fields that an update does change -/

@[simp] theorem State.setAlerts_alerts (s : State) (l : List Alert) (n : Nat) : (s.setAlerts l n).alerts = l := rfl

@[simp] theorem State.setAlerts_dropped (s : State) (l : List Alert) (n : Nat) : (s.setAlerts l n).dropped = n := rfl

@[simp] theorem State.setAlerts_indications (s : State) (l : List Alert) (n : Nat) :
    (s.setAlerts l n).indications = indicationsFor s.rights l := rfl

@[simp] theorem State.setRights_rights (s : State) (p : Port) (r : Rights) :
    (s.setRights p r).rights = s.rights.set p.val r p.isLt := rfl

@[simp] theorem State.setRights_indications (s : State) (p : Port) (r : Rights) :
    (s.setRights p r).indications = indicationsFor (s.rights.set p.val r p.isLt) s.alerts := rfl

@[simp] theorem State.takeExpiry_searchStart (s : State) : s.takeExpiry.searchStart = 0 := rfl

@[simp] theorem State.takeExpiry_expiry (s : State) :
    s.takeExpiry.expiry = (examineDeadlines s.timebase none s.deadlines).1 := rfl

@[simp] theorem State.takeExpiry_deadlines (s : State) :
    s.takeExpiry.deadlines = (examineDeadlines s.timebase none s.deadlines).2 := rfl

@[simp] theorem State.takeRequest_searchStart (s : State) (p : Port) :
    (s.takeRequest p).searchStart = sourceOf p + 1 := rfl

@[simp] theorem State.takeTeardown_searchStart (s : State) (p : Port) :
    (s.takeTeardown p).searchStart = sourceOf p + 1 := rfl

/-! ### Tables -/

/-- Reading a vector at an index after a write. -/
theorem vector_get_set {α : Type} {n : Nat} (v : Vector α n) (i j : Fin n) (x : α) :
    (v.set i.val x i.isLt).get j = if i = j then x else v.get j := by
  have h : ∀ (w : Vector α n) (k : Fin n), w.get k = w[k.val] := fun _ _ => rfl
  simp only [h, Vector.getElem_set, Fin.ext_iff]

/-- Writing what a vector already holds changes nothing. -/
theorem vector_set_get {α : Type} {n : Nat} (v : Vector α n) (i : Fin n) : v.set i.val (v.get i) i.isLt = v := by
  apply Vector.ext
  intro k hk
  simp only [Vector.getElem_set]
  split
  · next h => subst h; rfl
  · rfl

/-- Two vectors that agree at every index are equal. -/
theorem vector_ext_get {α : Type} {n : Nat} {v w : Vector α n} (h : ∀ i : Fin n, v.get i = w.get i) : v = w := by
  apply Vector.ext
  intro k hk
  exact h ⟨k, hk⟩

/-- Reading a mapped vector. -/
@[simp] theorem mapVector_get {α β : Type} {n : Nat} (f : α → β) (v : Vector α n) (i : Fin n) :
    (mapVector f v).get i = f (v.get i) := by
  have h : ∀ {γ : Type} (w : Vector γ n) (k : Fin n), w.get k = w.toArray[k.val]'(by simp) := fun _ _ => rfl
  simp [h, mapVector]

/-- A port after a write of a port. -/
theorem State.port_setPort (s : State) (p p' : Port) (x : PortState) :
    (s.setPort p x).port p' = if p = p' then x else s.port p' := vector_get_set _ _ _ _

@[simp] theorem State.port_setPort_same (s : State) (p : Port) (x : PortState) : (s.setPort p x).port p = x := by
  simp [State.port_setPort]

theorem State.port_setPort_ne (s : State) {p p' : Port} (x : PortState) (h : p ≠ p') :
    (s.setPort p x).port p' = s.port p' := by simp [State.port_setPort, h]

@[simp] theorem State.setPort_port (s : State) (p : Port) : s.setPort p (s.port p) = s := by
  simp [State.setPort, State.port, vector_set_get]

@[simp] theorem State.setPort_setPort (s : State) (p : Port) (x y : PortState) :
    (s.setPort p x).setPort p y = s.setPort p y := by simp [State.setPort]

/-- A slot after a write of a slot. -/
theorem State.slot_setSlot (s : State) (i j : SlotNo) (x : Slot) :
    (s.setSlot i x).slot j = if i = j then x else s.slot j := vector_get_set _ _ _ _

@[simp] theorem State.slot_setSlot_same (s : State) (i : SlotNo) (x : Slot) : (s.setSlot i x).slot i = x := by
  simp [State.slot_setSlot]

@[simp] theorem State.setSlot_slot (s : State) (i : SlotNo) : s.setSlot i (s.slot i) = s := by
  simp [State.setSlot, State.slot, vector_set_get]

/-- An object after a write of a slot. -/
theorem State.object_setSlot (s : State) (i j : SlotNo) (x : Slot) :
    (s.setSlot i x).object j = if i = j then x.object else s.object j := by
  simp only [State.object, State.slot_setSlot]
  split <;> rfl

/-- The accounting of a slot after a write of an accounting. -/
theorem State.queue_setQueue (s : State) (i j : SlotNo) (x : Option QueueAccount) :
    (s.setQueue i x).queue j = if i = j then x else s.queue j := vector_get_set _ _ _ _

@[simp] theorem State.queue_setQueue_same (s : State) (i : SlotNo) (x : Option QueueAccount) :
    (s.setQueue i x).queue i = x := by simp [State.queue_setQueue]

/-- A tag after a write of a tag. -/
theorem PortState.tag_setTag (x : PortState) (t t' : Tag) (e : TagEntry) :
    (x.setTag t e).tag t' = if t = t' then e else x.tag t' := vector_get_set _ _ _ _

@[simp] theorem PortState.tag_setTag_same (x : PortState) (t : Tag) (e : TagEntry) : (x.setTag t e).tag t = e := by
  simp [PortState.tag_setTag]

@[simp] theorem State.port_setSlot (s : State) (i : SlotNo) (x : Slot) (p : Port) :
    (s.setSlot i x).port p = s.port p := rfl

@[simp] theorem State.port_setQueue (s : State) (i : SlotNo) (x : Option QueueAccount) (p : Port) :
    (s.setQueue i x).port p = s.port p := rfl

@[simp] theorem State.port_setAlerts (s : State) (l : List Alert) (n : Nat) (p : Port) :
    (s.setAlerts l n).port p = s.port p := rfl

@[simp] theorem State.slot_setPort (s : State) (p : Port) (x : PortState) (i : SlotNo) :
    (s.setPort p x).slot i = s.slot i := rfl

@[simp] theorem State.object_setPort (s : State) (p : Port) (x : PortState) (i : SlotNo) :
    (s.setPort p x).object i = s.object i := rfl

@[simp] theorem State.queue_setPort (s : State) (p : Port) (x : PortState) (i : SlotNo) :
    (s.setPort p x).queue i = s.queue i := rfl

@[simp] theorem State.queue_setSlot (s : State) (i j : SlotNo) (x : Slot) : (s.setSlot i x).queue j = s.queue j := rfl

@[simp] theorem State.waitList_setPort (s : State) (p : Port) (x : PortState) (l : WaitList) :
    (s.setPort p x).waitList l = s.waitList l := rfl

@[simp] theorem State.waitList_setSlot (s : State) (i : SlotNo) (x : Slot) (l : WaitList) :
    (s.setSlot i x).waitList l = s.waitList l := rfl

end Sys2Proof.Machine
end

