-- ==== Sys2Proof/Laws/Ops.lean ====
section
/-! SUPPORT. What each shared operation can do, said once: the outcome of a command, the arbiter and a job's end,
completions and notices, wait records, record writes and deadlines. -/

namespace Sys2Proof.Machine

/-! ### Times and the deadline list (R56 to R58) -/

/-- A time has been reached: the timebase stands at it or within half its range after it. -/
theorem reached_iff (t now : Word) : reached t now = true ↔ (now - t).toNat ≤ 2147483647 := by
  unfold reached earlier
  simp only [Bool.or_eq_true, beq_iff_eq, Bool.and_eq_true, decide_eq_true_eq]
  constructor
  · rintro (rfl | ⟨-, h⟩)
    · simp
    · exact h
  · intro h
    by_cases hz : (now - t).toNat = 0
    · refine .inl (BitVec.eq_of_toNat_eq ?_)
      have hn := now.isLt
      have ht := t.isLt
      rw [BitVec.toNat_sub] at hz
      omega
    · exact .inr ⟨by omega, h⟩

@[simp] theorem examineDeadlines_nil (now : Word) (x : Option Sender) : examineDeadlines now x [] = (x, []) := by
  cases x <;> rfl

@[simp] theorem examineDeadlines_some (now : Word) (q : Sender) (l : List DeadlineEntry) :
    examineDeadlines now (some q) l = (some q, l) := rfl

theorem examineDeadlines_due {now : Word} {e : DeadlineEntry} (l : List DeadlineEntry)
    (h : (now - e.time).toNat ≤ 2147483647) : examineDeadlines now none (e :: l) = (some e.sender, l) := by
  simp only [examineDeadlines, (reached_iff _ _).mpr h, if_true]

theorem examineDeadlines_early {now : Word} {e : DeadlineEntry} (l : List DeadlineEntry)
    (h : 2147483647 < (now - e.time).toNat) : examineDeadlines now none (e :: l) = (none, e :: l) := by
  have hr : reached e.time now = false := by
    rw [Bool.eq_false_iff, ne_eq, reached_iff]
    omega
  simp [examineDeadlines, hr]

/-- An entry joins the deadline list and nothing is lost (R57). -/
theorem insertDeadline_perm (x : DeadlineEntry) (l : List DeadlineEntry) : (insertDeadline x l).Perm (x :: l) := by
  induction l with
  | nil => exact List.Perm.refl _
  | cons y ys ih =>
    unfold insertDeadline
    split
    · exact List.Perm.refl _
    · exact (ih.cons y).trans (List.Perm.swap x y ys)

/-! ### The outcome of a command and the running of a job -/

theorem perform_running {s : State} (f : State → State) (h : s.resetn = .mark) : perform f s = .next (f s) := by
  simp [perform, h]

theorem perform_held {s : State} (f : State → State) (h : s.resetn = .space) : perform f s = .next s := by
  simp [perform, h]

theorem perform_next (f : State → State) (s : State) : ∃ t, perform f s = .next t ∧ (t = s ∨ t = f s) := by
  unfold perform
  split
  · exact ⟨_, rfl, Or.inr rfl⟩
  · exact ⟨_, rfl, Or.inl rfl⟩

/-- A job that leaves the free count as it was appends nothing at its end. -/
theorem runJob_of_free {body : State → State} {s : State} (h : (body s).free = s.free) : runJob body s = body s := by
  unfold runJob
  rw [h, if_neg]
  omega

/-- A job that lowers no free count appends nothing at its end. -/
theorem runJob_of_free_le {body : State → State} {s : State} (h : s.free ≤ (body s).free) : runJob body s = body s := by
  unfold runJob
  rw [if_neg]
  omega

theorem runJob_eq_endsJob (body : State → State) (s : State) : runJob body s = s.endsJob (body s) := rfl

theorem requestJob_taken {q : Sender} {r : Request} {s : State} (body : State → State)
    (h : s.nextJob = some (.request q.port ⟨q.tag, q.gen, r⟩)) :
    requestJob q r body s = runJob body (s.takeRequest q.port) := by
  simp [requestJob, h]

theorem requestJob_other {q : Sender} {r : Request} {s : State} (body : State → State)
    (h : s.nextJob ≠ some (.request q.port ⟨q.tag, q.gen, r⟩)) : requestJob q r body s = s := by
  simp [requestJob, h]

/-- A command of the store whose job the arbiter takes next. -/
theorem perform_requestJob {q : Sender} {r : Request} {s : State} (body : State → State) (h : s.serves q r) :
    perform (requestJob q r body) s = .next (s.endsJob (body (s.takeRequest q.port))) := by
  rw [perform_running _ h.1, requestJob_taken _ h.2.1]
  rfl

/-- A command of the store whose job leaves the free count as it was. -/
theorem perform_requestJob_of_free {q : Sender} {r : Request} {s : State} (body : State → State) (h : s.serves q r)
    (hf : (body (s.takeRequest q.port)).free = s.free) :
    perform (requestJob q r body) s = .next (body (s.takeRequest q.port)) := by
  rw [perform_running _ h.1, requestJob_taken _ h.2.1, runJob_of_free]
  simpa using hf

/-! ### What taking a request leaves as it was -/

@[simp] theorem State.takeRequest_session (s : State) (p p' : Port) :
    ((s.takeRequest p).port p').session = (s.port p').session := by
  simp only [State.takeRequest, State.port, State.setPort, vector_get_set]
  split
  · next h => subst h; rfl
  · rfl

@[simp] theorem State.takeRequest_tag (s : State) (p p' : Port) (t : Tag) :
    ((s.takeRequest p).port p').tag t = (s.port p').tag t := by
  simp only [State.takeRequest, State.port, State.setPort, vector_get_set]
  split
  · next h => subst h; rfl
  · rfl

@[simp] theorem State.takeRequest_queue (s : State) (p p' : Port) :
    ((s.takeRequest p).port p').queue = (s.port p').queue := by
  simp only [State.takeRequest, State.port, State.setPort, vector_get_set]
  split
  · next h => subst h; rfl
  · rfl

@[simp] theorem State.takeRequest_object (s : State) (p : Port) (i : SlotNo) :
    (s.takeRequest p).object i = s.object i := rfl

@[simp] theorem State.takeRequest_slot (s : State) (p : Port) (i : SlotNo) : (s.takeRequest p).slot i = s.slot i := rfl

@[simp] theorem State.takeRequest_resolve (s : State) (p : Port) (h : Handle) :
    (s.takeRequest p).resolve h = s.resolve h := rfl

@[simp] theorem State.takeRequest_queueOf (s : State) (p : Port) (i : SlotNo) :
    (s.takeRequest p).queue i = s.queue i := rfl

@[simp] theorem State.takeRequest_account (s : State) (p : Port) (i : SlotNo) :
    (s.takeRequest p).account i = s.account i := rfl

@[simp] theorem State.takeRequest_outstanding (s : State) (p : Port) :
    (s.takeRequest p).outstanding = s.outstanding := rfl

@[simp] theorem State.takeRequest_waitList (s : State) (p : Port) (l : WaitList) :
    (s.takeRequest p).waitList l = s.waitList l := rfl

@[simp] theorem State.takeRequest_poolPuts (s : State) (p : Port) (i : SlotNo) :
    (s.takeRequest p).poolPuts i = s.poolPuts i := rfl

@[simp] theorem State.takeRequest_rightsOf (s : State) (p p' : Port) :
    (s.takeRequest p).rightsOf p' = s.rightsOf p' := rfl

@[simp] theorem State.takeRequest_sessionOf (s : State) (p p' : Port) :
    (s.takeRequest p).sessionOf p' = s.sessionOf p' := by simp [State.sessionOf]

@[simp] theorem State.takeRequest_waiterOf (s : State) (p p' : Port) (t : Tag) :
    (s.takeRequest p).waiterOf p' t = s.waiterOf p' t := rfl

/-! ### Completions and notices (R116, R117, R137) -/

/-- A completion to an OPEN port is its reply, cached and enqueued. -/
theorem State.completeFor_opened {s : State} {q : Sender} (h : (s.port q.port).session.state = .opened)
    (purpose : Purpose) (code : Byte) (x : Answer) : s.completeFor purpose q code x = s.repliedFor purpose q code x := by
  unfold State.completeFor
  rw [h]
  rfl

/-- A completion to a port CLOSING after a CLOSE is its reply too. -/
theorem State.completeFor_closing {s : State} {q : Sender} (h : (s.port q.port).session.state = .closing)
    (hc : (s.port q.port).session.cause = .closed) (purpose : Purpose) (code : Byte) (x : Answer) :
    s.completeFor purpose q code x = s.repliedFor purpose q code x := by
  unfold State.completeFor
  rw [h]
  simp only [hc, if_true]
  rfl

theorem State.complete_opened {s : State} {q : Sender} (h : (s.port q.port).session.state = .opened)
    (code : RequestCode) (x : Answer) : s.complete q code x = s.replied q code.byte x :=
  State.completeFor_opened h _ _ _

/-- A completion changes its own port alone: a tag, and the tail of the transmit queue. -/
theorem State.completeFor_port (s : State) (purpose : Purpose) (q : Sender) (code : Byte) (x : Answer) :
    ∃ y : PortState, s.completeFor purpose q code x = s.setPort q.port y ∧ y.rxd = (s.port q.port).rxd ∧
      y.rx = (s.port q.port).rx ∧ y.tx = (s.port q.port).tx ∧ y.session = (s.port q.port).session ∧
      y.requests = (s.port q.port).requests ∧ y.teardown = (s.port q.port).teardown ∧
      y.stats = (s.port q.port).stats ∧ (∃ fs, y.queue = (s.port q.port).queue ++ fs ∧ ∀ f ∈ fs, f.tag = some q.tag ∧
        f.reply = s.replyNow q code x ∧ f.purpose = purpose) ∧
      ∀ k, k ≠ q.tag → y.tag k = (s.port q.port).tag k := by
  unfold State.completeFor
  have sent : ∃ y : PortState, s.setPort q.port ((s.port q.port).sendTagFrame q.tag (s.replyTo q code x) purpose) =
      s.setPort q.port y ∧ y.rxd = (s.port q.port).rxd ∧
      y.rx = (s.port q.port).rx ∧ y.tx = (s.port q.port).tx ∧ y.session = (s.port q.port).session ∧
      y.requests = (s.port q.port).requests ∧ y.teardown = (s.port q.port).teardown ∧
      y.stats = (s.port q.port).stats ∧ (∃ fs, y.queue = (s.port q.port).queue ++ fs ∧ ∀ f ∈ fs, f.tag = some q.tag ∧
        f.reply = s.replyNow q code x ∧ f.purpose = purpose) ∧
      ∀ k, k ≠ q.tag → y.tag k = (s.port q.port).tag k :=
    ⟨_, rfl, rfl, rfl, rfl, rfl, rfl, rfl, rfl,
      ⟨[⟨some q.tag, s.replyTo q code x, purpose⟩], rfl, by simp [State.replyTo, State.replyNow, State.indication]⟩,
      fun k hk => by
        show ((s.port q.port).setTag q.tag _).tag k = _
        rw [PortState.tag_setTag, if_neg (Ne.symm hk)]⟩
  split
  · exact sent
  · split
    · exact sent
    · exact ⟨_, rfl, rfl, rfl, rfl, rfl, rfl, rfl, rfl, ⟨[], (List.append_nil _).symm, by simp⟩,
        fun k hk => by
          show ((s.port q.port).setTag q.tag _).tag k = _
          rw [PortState.tag_setTag, if_neg (Ne.symm hk)]⟩
  · exact ⟨s.port q.port, by simp, rfl, rfl, rfl, rfl, rfl, rfl, rfl, ⟨[], (List.append_nil _).symm, by simp⟩,
      fun _ _ => rfl⟩

/-- A waiter notice changes a tag of its port alone. -/
theorem State.notifyWaiting_port (s : State) (q : Sender) :
    ∃ y : PortState, s.notifyWaiting q = s.setPort q.port y ∧ y.rxd = (s.port q.port).rxd ∧
      y.rx = (s.port q.port).rx ∧ y.tx = (s.port q.port).tx ∧ y.session = (s.port q.port).session ∧
      y.requests = (s.port q.port).requests ∧ y.teardown = (s.port q.port).teardown ∧
      y.stats = (s.port q.port).stats ∧ y.queue = (s.port q.port).queue := by
  unfold State.notifyWaiting
  split
  · exact ⟨_, rfl, rfl, rfl, rfl, rfl, rfl, rfl, rfl, rfl⟩
  · exact ⟨s.port q.port, by simp, rfl, rfl, rfl, rfl, rfl, rfl, rfl, rfl⟩

end Sys2Proof.Machine
end

