-- ==== Sys2Proof/Laws/Frames.lean ====
section
/-! SUPPORT. The frame of each shared operation: one lemma for each field it leaves as it was. -/

namespace Sys2Proof.Machine

/-- What each step of a fold keeps, the fold keeps. -/
theorem foldl_keeps {σ α β : Type} {f : σ → α → σ} {g : σ → β} (h : ∀ s a, g (f s a) = g s) (l : List α) (s : σ) :
    g (l.foldl f s) = g s := by
  induction l generalizing s with
  | nil => rfl
  | cons a l ih => exact (ih _).trans (h s a)

/-! ### completeFor -/

@[simp] theorem State.completeFor_pending (s : State) (u : Purpose) (q : Sender) (code : Byte) (x : Answer) :
    (s.completeFor u q code x).pending = s.pending := by
  obtain ⟨y, h, -⟩ := s.completeFor_port u q code x
  rw [h]
  rfl

@[simp] theorem State.completeFor_resetn (s : State) (u : Purpose) (q : Sender) (code : Byte) (x : Answer) :
    (s.completeFor u q code x).resetn = s.resetn := by
  obtain ⟨y, h, -⟩ := s.completeFor_port u q code x
  rw [h]
  rfl

@[simp] theorem State.completeFor_straps (s : State) (u : Purpose) (q : Sender) (code : Byte) (x : Answer) :
    (s.completeFor u q code x).straps = s.straps := by
  obtain ⟨y, h, -⟩ := s.completeFor_port u q code x
  rw [h]
  rfl

@[simp] theorem State.completeFor_lineRate (s : State) (u : Purpose) (q : Sender) (code : Byte) (x : Answer) :
    (s.completeFor u q code x).lineRate = s.lineRate := by
  obtain ⟨y, h, -⟩ := s.completeFor_port u q code x
  rw [h]
  rfl

@[simp] theorem State.completeFor_searchStart (s : State) (u : Purpose) (q : Sender) (code : Byte) (x : Answer) :
    (s.completeFor u q code x).searchStart = s.searchStart := by
  obtain ⟨y, h, -⟩ := s.completeFor_port u q code x
  rw [h]
  rfl

@[simp] theorem State.completeFor_resetPending (s : State) (u : Purpose) (q : Sender) (code : Byte) (x : Answer) :
    (s.completeFor u q code x).resetPending = s.resetPending := by
  obtain ⟨y, h, -⟩ := s.completeFor_port u q code x
  rw [h]
  rfl

@[simp] theorem State.completeFor_slots (s : State) (u : Purpose) (q : Sender) (code : Byte) (x : Answer) :
    (s.completeFor u q code x).slots = s.slots := by
  obtain ⟨y, h, -⟩ := s.completeFor_port u q code x
  rw [h]
  rfl

@[simp] theorem State.completeFor_labelMap (s : State) (u : Purpose) (q : Sender) (code : Byte) (x : Answer) :
    (s.completeFor u q code x).labelMap = s.labelMap := by
  obtain ⟨y, h, -⟩ := s.completeFor_port u q code x
  rw [h]
  rfl

@[simp] theorem State.completeFor_waits (s : State) (u : Purpose) (q : Sender) (code : Byte) (x : Answer) :
    (s.completeFor u q code x).waits = s.waits := by
  obtain ⟨y, h, -⟩ := s.completeFor_port u q code x
  rw [h]
  rfl

@[simp] theorem State.completeFor_queues (s : State) (u : Purpose) (q : Sender) (code : Byte) (x : Answer) :
    (s.completeFor u q code x).queues = s.queues := by
  obtain ⟨y, h, -⟩ := s.completeFor_port u q code x
  rw [h]
  rfl

@[simp] theorem State.completeFor_free (s : State) (u : Purpose) (q : Sender) (code : Byte) (x : Answer) :
    (s.completeFor u q code x).free = s.free := by
  obtain ⟨y, h, -⟩ := s.completeFor_port u q code x
  rw [h]
  rfl

@[simp] theorem State.completeFor_rights (s : State) (u : Purpose) (q : Sender) (code : Byte) (x : Answer) :
    (s.completeFor u q code x).rights = s.rights := by
  obtain ⟨y, h, -⟩ := s.completeFor_port u q code x
  rw [h]
  rfl

@[simp] theorem State.completeFor_alerts (s : State) (u : Purpose) (q : Sender) (code : Byte) (x : Answer) :
    (s.completeFor u q code x).alerts = s.alerts := by
  obtain ⟨y, h, -⟩ := s.completeFor_port u q code x
  rw [h]
  rfl

@[simp] theorem State.completeFor_dropped (s : State) (u : Purpose) (q : Sender) (code : Byte) (x : Answer) :
    (s.completeFor u q code x).dropped = s.dropped := by
  obtain ⟨y, h, -⟩ := s.completeFor_port u q code x
  rw [h]
  rfl

@[simp] theorem State.completeFor_indications (s : State) (u : Purpose) (q : Sender) (code : Byte) (x : Answer) :
    (s.completeFor u q code x).indications = s.indications := by
  obtain ⟨y, h, -⟩ := s.completeFor_port u q code x
  rw [h]
  rfl

@[simp] theorem State.completeFor_poolMark (s : State) (u : Purpose) (q : Sender) (code : Byte) (x : Answer) :
    (s.completeFor u q code x).poolMark = s.poolMark := by
  obtain ⟨y, h, -⟩ := s.completeFor_port u q code x
  rw [h]
  rfl

@[simp] theorem State.completeFor_timebase (s : State) (u : Purpose) (q : Sender) (code : Byte) (x : Answer) :
    (s.completeFor u q code x).timebase = s.timebase := by
  obtain ⟨y, h, -⟩ := s.completeFor_port u q code x
  rw [h]
  rfl

@[simp] theorem State.completeFor_deadlines (s : State) (u : Purpose) (q : Sender) (code : Byte) (x : Answer) :
    (s.completeFor u q code x).deadlines = s.deadlines := by
  obtain ⟨y, h, -⟩ := s.completeFor_port u q code x
  rw [h]
  rfl

@[simp] theorem State.completeFor_expiry (s : State) (u : Purpose) (q : Sender) (code : Byte) (x : Answer) :
    (s.completeFor u q code x).expiry = s.expiry := by
  obtain ⟨y, h, -⟩ := s.completeFor_port u q code x
  rw [h]
  rfl

/-! ### complete -/

@[simp] theorem State.complete_pending (s : State) (q : Sender) (code : RequestCode) (x : Answer) :
    (s.complete q code x).pending = s.pending := State.completeFor_pending _ _ _ _ _

@[simp] theorem State.complete_resetn (s : State) (q : Sender) (code : RequestCode) (x : Answer) :
    (s.complete q code x).resetn = s.resetn := State.completeFor_resetn _ _ _ _ _

@[simp] theorem State.complete_straps (s : State) (q : Sender) (code : RequestCode) (x : Answer) :
    (s.complete q code x).straps = s.straps := State.completeFor_straps _ _ _ _ _

@[simp] theorem State.complete_lineRate (s : State) (q : Sender) (code : RequestCode) (x : Answer) :
    (s.complete q code x).lineRate = s.lineRate := State.completeFor_lineRate _ _ _ _ _

@[simp] theorem State.complete_searchStart (s : State) (q : Sender) (code : RequestCode) (x : Answer) :
    (s.complete q code x).searchStart = s.searchStart := State.completeFor_searchStart _ _ _ _ _

@[simp] theorem State.complete_resetPending (s : State) (q : Sender) (code : RequestCode) (x : Answer) :
    (s.complete q code x).resetPending = s.resetPending := State.completeFor_resetPending _ _ _ _ _

@[simp] theorem State.complete_slots (s : State) (q : Sender) (code : RequestCode) (x : Answer) :
    (s.complete q code x).slots = s.slots := State.completeFor_slots _ _ _ _ _

@[simp] theorem State.complete_labelMap (s : State) (q : Sender) (code : RequestCode) (x : Answer) :
    (s.complete q code x).labelMap = s.labelMap := State.completeFor_labelMap _ _ _ _ _

@[simp] theorem State.complete_waits (s : State) (q : Sender) (code : RequestCode) (x : Answer) :
    (s.complete q code x).waits = s.waits := State.completeFor_waits _ _ _ _ _

@[simp] theorem State.complete_queues (s : State) (q : Sender) (code : RequestCode) (x : Answer) :
    (s.complete q code x).queues = s.queues := State.completeFor_queues _ _ _ _ _

@[simp] theorem State.complete_free (s : State) (q : Sender) (code : RequestCode) (x : Answer) :
    (s.complete q code x).free = s.free := State.completeFor_free _ _ _ _ _

@[simp] theorem State.complete_rights (s : State) (q : Sender) (code : RequestCode) (x : Answer) :
    (s.complete q code x).rights = s.rights := State.completeFor_rights _ _ _ _ _

@[simp] theorem State.complete_alerts (s : State) (q : Sender) (code : RequestCode) (x : Answer) :
    (s.complete q code x).alerts = s.alerts := State.completeFor_alerts _ _ _ _ _

@[simp] theorem State.complete_dropped (s : State) (q : Sender) (code : RequestCode) (x : Answer) :
    (s.complete q code x).dropped = s.dropped := State.completeFor_dropped _ _ _ _ _

@[simp] theorem State.complete_indications (s : State) (q : Sender) (code : RequestCode) (x : Answer) :
    (s.complete q code x).indications = s.indications := State.completeFor_indications _ _ _ _ _

@[simp] theorem State.complete_poolMark (s : State) (q : Sender) (code : RequestCode) (x : Answer) :
    (s.complete q code x).poolMark = s.poolMark := State.completeFor_poolMark _ _ _ _ _

@[simp] theorem State.complete_timebase (s : State) (q : Sender) (code : RequestCode) (x : Answer) :
    (s.complete q code x).timebase = s.timebase := State.completeFor_timebase _ _ _ _ _

@[simp] theorem State.complete_deadlines (s : State) (q : Sender) (code : RequestCode) (x : Answer) :
    (s.complete q code x).deadlines = s.deadlines := State.completeFor_deadlines _ _ _ _ _

@[simp] theorem State.complete_expiry (s : State) (q : Sender) (code : RequestCode) (x : Answer) :
    (s.complete q code x).expiry = s.expiry := State.completeFor_expiry _ _ _ _ _

/-! ### notifyWaiting -/

@[simp] theorem State.notifyWaiting_pending (s : State) (q : Sender) :
    (s.notifyWaiting q).pending = s.pending := by
  obtain ⟨y, h, -⟩ := s.notifyWaiting_port q
  rw [h]
  rfl

@[simp] theorem State.notifyWaiting_resetn (s : State) (q : Sender) :
    (s.notifyWaiting q).resetn = s.resetn := by
  obtain ⟨y, h, -⟩ := s.notifyWaiting_port q
  rw [h]
  rfl

@[simp] theorem State.notifyWaiting_straps (s : State) (q : Sender) :
    (s.notifyWaiting q).straps = s.straps := by
  obtain ⟨y, h, -⟩ := s.notifyWaiting_port q
  rw [h]
  rfl

@[simp] theorem State.notifyWaiting_lineRate (s : State) (q : Sender) :
    (s.notifyWaiting q).lineRate = s.lineRate := by
  obtain ⟨y, h, -⟩ := s.notifyWaiting_port q
  rw [h]
  rfl

@[simp] theorem State.notifyWaiting_searchStart (s : State) (q : Sender) :
    (s.notifyWaiting q).searchStart = s.searchStart := by
  obtain ⟨y, h, -⟩ := s.notifyWaiting_port q
  rw [h]
  rfl

@[simp] theorem State.notifyWaiting_resetPending (s : State) (q : Sender) :
    (s.notifyWaiting q).resetPending = s.resetPending := by
  obtain ⟨y, h, -⟩ := s.notifyWaiting_port q
  rw [h]
  rfl

@[simp] theorem State.notifyWaiting_slots (s : State) (q : Sender) :
    (s.notifyWaiting q).slots = s.slots := by
  obtain ⟨y, h, -⟩ := s.notifyWaiting_port q
  rw [h]
  rfl

@[simp] theorem State.notifyWaiting_labelMap (s : State) (q : Sender) :
    (s.notifyWaiting q).labelMap = s.labelMap := by
  obtain ⟨y, h, -⟩ := s.notifyWaiting_port q
  rw [h]
  rfl

@[simp] theorem State.notifyWaiting_waits (s : State) (q : Sender) :
    (s.notifyWaiting q).waits = s.waits := by
  obtain ⟨y, h, -⟩ := s.notifyWaiting_port q
  rw [h]
  rfl

@[simp] theorem State.notifyWaiting_queues (s : State) (q : Sender) :
    (s.notifyWaiting q).queues = s.queues := by
  obtain ⟨y, h, -⟩ := s.notifyWaiting_port q
  rw [h]
  rfl

@[simp] theorem State.notifyWaiting_free (s : State) (q : Sender) :
    (s.notifyWaiting q).free = s.free := by
  obtain ⟨y, h, -⟩ := s.notifyWaiting_port q
  rw [h]
  rfl

@[simp] theorem State.notifyWaiting_rights (s : State) (q : Sender) :
    (s.notifyWaiting q).rights = s.rights := by
  obtain ⟨y, h, -⟩ := s.notifyWaiting_port q
  rw [h]
  rfl

@[simp] theorem State.notifyWaiting_alerts (s : State) (q : Sender) :
    (s.notifyWaiting q).alerts = s.alerts := by
  obtain ⟨y, h, -⟩ := s.notifyWaiting_port q
  rw [h]
  rfl

@[simp] theorem State.notifyWaiting_dropped (s : State) (q : Sender) :
    (s.notifyWaiting q).dropped = s.dropped := by
  obtain ⟨y, h, -⟩ := s.notifyWaiting_port q
  rw [h]
  rfl

@[simp] theorem State.notifyWaiting_indications (s : State) (q : Sender) :
    (s.notifyWaiting q).indications = s.indications := by
  obtain ⟨y, h, -⟩ := s.notifyWaiting_port q
  rw [h]
  rfl

@[simp] theorem State.notifyWaiting_poolMark (s : State) (q : Sender) :
    (s.notifyWaiting q).poolMark = s.poolMark := by
  obtain ⟨y, h, -⟩ := s.notifyWaiting_port q
  rw [h]
  rfl

@[simp] theorem State.notifyWaiting_timebase (s : State) (q : Sender) :
    (s.notifyWaiting q).timebase = s.timebase := by
  obtain ⟨y, h, -⟩ := s.notifyWaiting_port q
  rw [h]
  rfl

@[simp] theorem State.notifyWaiting_deadlines (s : State) (q : Sender) :
    (s.notifyWaiting q).deadlines = s.deadlines := by
  obtain ⟨y, h, -⟩ := s.notifyWaiting_port q
  rw [h]
  rfl

@[simp] theorem State.notifyWaiting_expiry (s : State) (q : Sender) :
    (s.notifyWaiting q).expiry = s.expiry := by
  obtain ⟨y, h, -⟩ := s.notifyWaiting_port q
  rw [h]
  rfl

/-! ### rewriteRecord -/

@[simp] theorem State.rewriteRecord_pending (s : State) (i : SlotNo) :
    (s.rewriteRecord i).pending = s.pending := by
  unfold State.rewriteRecord
  split <;> rfl

@[simp] theorem State.rewriteRecord_resetn (s : State) (i : SlotNo) :
    (s.rewriteRecord i).resetn = s.resetn := by
  unfold State.rewriteRecord
  split <;> rfl

@[simp] theorem State.rewriteRecord_straps (s : State) (i : SlotNo) :
    (s.rewriteRecord i).straps = s.straps := by
  unfold State.rewriteRecord
  split <;> rfl

@[simp] theorem State.rewriteRecord_lineRate (s : State) (i : SlotNo) :
    (s.rewriteRecord i).lineRate = s.lineRate := by
  unfold State.rewriteRecord
  split <;> rfl

@[simp] theorem State.rewriteRecord_ports (s : State) (i : SlotNo) :
    (s.rewriteRecord i).ports = s.ports := by
  unfold State.rewriteRecord
  split <;> rfl

@[simp] theorem State.rewriteRecord_searchStart (s : State) (i : SlotNo) :
    (s.rewriteRecord i).searchStart = s.searchStart := by
  unfold State.rewriteRecord
  split <;> rfl

@[simp] theorem State.rewriteRecord_resetPending (s : State) (i : SlotNo) :
    (s.rewriteRecord i).resetPending = s.resetPending := by
  unfold State.rewriteRecord
  split <;> rfl

@[simp] theorem State.rewriteRecord_labelMap (s : State) (i : SlotNo) :
    (s.rewriteRecord i).labelMap = s.labelMap := by
  unfold State.rewriteRecord
  split <;> rfl

@[simp] theorem State.rewriteRecord_waits (s : State) (i : SlotNo) :
    (s.rewriteRecord i).waits = s.waits := by
  unfold State.rewriteRecord
  split <;> rfl

@[simp] theorem State.rewriteRecord_queues (s : State) (i : SlotNo) :
    (s.rewriteRecord i).queues = s.queues := by
  unfold State.rewriteRecord
  split <;> rfl

@[simp] theorem State.rewriteRecord_free (s : State) (i : SlotNo) :
    (s.rewriteRecord i).free = s.free := by
  unfold State.rewriteRecord
  split <;> rfl

@[simp] theorem State.rewriteRecord_rights (s : State) (i : SlotNo) :
    (s.rewriteRecord i).rights = s.rights := by
  unfold State.rewriteRecord
  split <;> rfl

@[simp] theorem State.rewriteRecord_alerts (s : State) (i : SlotNo) :
    (s.rewriteRecord i).alerts = s.alerts := by
  unfold State.rewriteRecord
  split <;> rfl

@[simp] theorem State.rewriteRecord_dropped (s : State) (i : SlotNo) :
    (s.rewriteRecord i).dropped = s.dropped := by
  unfold State.rewriteRecord
  split <;> rfl

@[simp] theorem State.rewriteRecord_indications (s : State) (i : SlotNo) :
    (s.rewriteRecord i).indications = s.indications := by
  unfold State.rewriteRecord
  split <;> rfl

@[simp] theorem State.rewriteRecord_poolMark (s : State) (i : SlotNo) :
    (s.rewriteRecord i).poolMark = s.poolMark := by
  unfold State.rewriteRecord
  split <;> rfl

@[simp] theorem State.rewriteRecord_timebase (s : State) (i : SlotNo) :
    (s.rewriteRecord i).timebase = s.timebase := by
  unfold State.rewriteRecord
  split <;> rfl

@[simp] theorem State.rewriteRecord_deadlines (s : State) (i : SlotNo) :
    (s.rewriteRecord i).deadlines = s.deadlines := by
  unfold State.rewriteRecord
  split <;> rfl

@[simp] theorem State.rewriteRecord_expiry (s : State) (i : SlotNo) :
    (s.rewriteRecord i).expiry = s.expiry := by
  unfold State.rewriteRecord
  split <;> rfl

/-! ### listWritten -/

@[simp] theorem State.listWritten_pending (s : State) (l : WaitList) :
    (s.listWritten l).pending = s.pending := by
  unfold State.listWritten
  split <;> simp

@[simp] theorem State.listWritten_resetn (s : State) (l : WaitList) :
    (s.listWritten l).resetn = s.resetn := by
  unfold State.listWritten
  split <;> simp

@[simp] theorem State.listWritten_straps (s : State) (l : WaitList) :
    (s.listWritten l).straps = s.straps := by
  unfold State.listWritten
  split <;> simp

@[simp] theorem State.listWritten_lineRate (s : State) (l : WaitList) :
    (s.listWritten l).lineRate = s.lineRate := by
  unfold State.listWritten
  split <;> simp

@[simp] theorem State.listWritten_ports (s : State) (l : WaitList) :
    (s.listWritten l).ports = s.ports := by
  unfold State.listWritten
  split <;> simp

@[simp] theorem State.listWritten_searchStart (s : State) (l : WaitList) :
    (s.listWritten l).searchStart = s.searchStart := by
  unfold State.listWritten
  split <;> simp

@[simp] theorem State.listWritten_resetPending (s : State) (l : WaitList) :
    (s.listWritten l).resetPending = s.resetPending := by
  unfold State.listWritten
  split <;> simp

@[simp] theorem State.listWritten_labelMap (s : State) (l : WaitList) :
    (s.listWritten l).labelMap = s.labelMap := by
  unfold State.listWritten
  split <;> simp

@[simp] theorem State.listWritten_waits (s : State) (l : WaitList) :
    (s.listWritten l).waits = s.waits := by
  unfold State.listWritten
  split <;> simp

@[simp] theorem State.listWritten_queues (s : State) (l : WaitList) :
    (s.listWritten l).queues = s.queues := by
  unfold State.listWritten
  split <;> simp

@[simp] theorem State.listWritten_free (s : State) (l : WaitList) :
    (s.listWritten l).free = s.free := by
  unfold State.listWritten
  split <;> simp

@[simp] theorem State.listWritten_rights (s : State) (l : WaitList) :
    (s.listWritten l).rights = s.rights := by
  unfold State.listWritten
  split <;> simp

@[simp] theorem State.listWritten_alerts (s : State) (l : WaitList) :
    (s.listWritten l).alerts = s.alerts := by
  unfold State.listWritten
  split <;> simp

@[simp] theorem State.listWritten_dropped (s : State) (l : WaitList) :
    (s.listWritten l).dropped = s.dropped := by
  unfold State.listWritten
  split <;> simp

@[simp] theorem State.listWritten_indications (s : State) (l : WaitList) :
    (s.listWritten l).indications = s.indications := by
  unfold State.listWritten
  split <;> simp

@[simp] theorem State.listWritten_poolMark (s : State) (l : WaitList) :
    (s.listWritten l).poolMark = s.poolMark := by
  unfold State.listWritten
  split <;> simp

@[simp] theorem State.listWritten_timebase (s : State) (l : WaitList) :
    (s.listWritten l).timebase = s.timebase := by
  unfold State.listWritten
  split <;> simp

@[simp] theorem State.listWritten_deadlines (s : State) (l : WaitList) :
    (s.listWritten l).deadlines = s.deadlines := by
  unfold State.listWritten
  split <;> simp

@[simp] theorem State.listWritten_expiry (s : State) (l : WaitList) :
    (s.listWritten l).expiry = s.expiry := by
  unfold State.listWritten
  split <;> simp

/-! ### withdraw -/

@[simp] theorem State.withdraw_pending (s : State) (w : WaitRecord) :
    (s.withdraw w).pending = s.pending := by
  unfold State.withdraw
  split <;> rfl

@[simp] theorem State.withdraw_resetn (s : State) (w : WaitRecord) :
    (s.withdraw w).resetn = s.resetn := by
  unfold State.withdraw
  split <;> rfl

@[simp] theorem State.withdraw_straps (s : State) (w : WaitRecord) :
    (s.withdraw w).straps = s.straps := by
  unfold State.withdraw
  split <;> rfl

@[simp] theorem State.withdraw_lineRate (s : State) (w : WaitRecord) :
    (s.withdraw w).lineRate = s.lineRate := by
  unfold State.withdraw
  split <;> rfl

@[simp] theorem State.withdraw_ports (s : State) (w : WaitRecord) :
    (s.withdraw w).ports = s.ports := by
  unfold State.withdraw
  split <;> rfl

@[simp] theorem State.withdraw_searchStart (s : State) (w : WaitRecord) :
    (s.withdraw w).searchStart = s.searchStart := by
  unfold State.withdraw
  split <;> rfl

@[simp] theorem State.withdraw_resetPending (s : State) (w : WaitRecord) :
    (s.withdraw w).resetPending = s.resetPending := by
  unfold State.withdraw
  split <;> rfl

@[simp] theorem State.withdraw_slots (s : State) (w : WaitRecord) :
    (s.withdraw w).slots = s.slots := by
  unfold State.withdraw
  split <;> rfl

@[simp] theorem State.withdraw_labelMap (s : State) (w : WaitRecord) :
    (s.withdraw w).labelMap = s.labelMap := by
  unfold State.withdraw
  split <;> rfl

@[simp] theorem State.withdraw_waits (s : State) (w : WaitRecord) :
    (s.withdraw w).waits = s.waits := by
  unfold State.withdraw
  split <;> rfl

@[simp] theorem State.withdraw_queues (s : State) (w : WaitRecord) :
    (s.withdraw w).queues = s.queues := by
  unfold State.withdraw
  split <;> rfl

@[simp] theorem State.withdraw_free (s : State) (w : WaitRecord) :
    (s.withdraw w).free = s.free := by
  unfold State.withdraw
  split <;> rfl

@[simp] theorem State.withdraw_rights (s : State) (w : WaitRecord) :
    (s.withdraw w).rights = s.rights := by
  unfold State.withdraw
  split <;> rfl

@[simp] theorem State.withdraw_alerts (s : State) (w : WaitRecord) :
    (s.withdraw w).alerts = s.alerts := by
  unfold State.withdraw
  split <;> rfl

@[simp] theorem State.withdraw_dropped (s : State) (w : WaitRecord) :
    (s.withdraw w).dropped = s.dropped := by
  unfold State.withdraw
  split <;> rfl

@[simp] theorem State.withdraw_indications (s : State) (w : WaitRecord) :
    (s.withdraw w).indications = s.indications := by
  unfold State.withdraw
  split <;> rfl

@[simp] theorem State.withdraw_poolMark (s : State) (w : WaitRecord) :
    (s.withdraw w).poolMark = s.poolMark := by
  unfold State.withdraw
  split <;> rfl

@[simp] theorem State.withdraw_timebase (s : State) (w : WaitRecord) :
    (s.withdraw w).timebase = s.timebase := by
  unfold State.withdraw
  split <;> rfl

@[simp] theorem State.withdraw_expiry (s : State) (w : WaitRecord) :
    (s.withdraw w).expiry = s.expiry := by
  unfold State.withdraw
  split <;> rfl

/-! ### addDeadline -/

@[simp] theorem State.addDeadline_pending (s : State) (q : Sender) (d : Option Word) :
    (s.addDeadline q d).pending = s.pending := by
  unfold State.addDeadline
  split <;> rfl

@[simp] theorem State.addDeadline_resetn (s : State) (q : Sender) (d : Option Word) :
    (s.addDeadline q d).resetn = s.resetn := by
  unfold State.addDeadline
  split <;> rfl

@[simp] theorem State.addDeadline_straps (s : State) (q : Sender) (d : Option Word) :
    (s.addDeadline q d).straps = s.straps := by
  unfold State.addDeadline
  split <;> rfl

@[simp] theorem State.addDeadline_lineRate (s : State) (q : Sender) (d : Option Word) :
    (s.addDeadline q d).lineRate = s.lineRate := by
  unfold State.addDeadline
  split <;> rfl

@[simp] theorem State.addDeadline_ports (s : State) (q : Sender) (d : Option Word) :
    (s.addDeadline q d).ports = s.ports := by
  unfold State.addDeadline
  split <;> rfl

@[simp] theorem State.addDeadline_searchStart (s : State) (q : Sender) (d : Option Word) :
    (s.addDeadline q d).searchStart = s.searchStart := by
  unfold State.addDeadline
  split <;> rfl

@[simp] theorem State.addDeadline_resetPending (s : State) (q : Sender) (d : Option Word) :
    (s.addDeadline q d).resetPending = s.resetPending := by
  unfold State.addDeadline
  split <;> rfl

@[simp] theorem State.addDeadline_slots (s : State) (q : Sender) (d : Option Word) :
    (s.addDeadline q d).slots = s.slots := by
  unfold State.addDeadline
  split <;> rfl

@[simp] theorem State.addDeadline_labelMap (s : State) (q : Sender) (d : Option Word) :
    (s.addDeadline q d).labelMap = s.labelMap := by
  unfold State.addDeadline
  split <;> rfl

@[simp] theorem State.addDeadline_waits (s : State) (q : Sender) (d : Option Word) :
    (s.addDeadline q d).waits = s.waits := by
  unfold State.addDeadline
  split <;> rfl

@[simp] theorem State.addDeadline_queues (s : State) (q : Sender) (d : Option Word) :
    (s.addDeadline q d).queues = s.queues := by
  unfold State.addDeadline
  split <;> rfl

@[simp] theorem State.addDeadline_free (s : State) (q : Sender) (d : Option Word) :
    (s.addDeadline q d).free = s.free := by
  unfold State.addDeadline
  split <;> rfl

@[simp] theorem State.addDeadline_rights (s : State) (q : Sender) (d : Option Word) :
    (s.addDeadline q d).rights = s.rights := by
  unfold State.addDeadline
  split <;> rfl

@[simp] theorem State.addDeadline_alerts (s : State) (q : Sender) (d : Option Word) :
    (s.addDeadline q d).alerts = s.alerts := by
  unfold State.addDeadline
  split <;> rfl

@[simp] theorem State.addDeadline_dropped (s : State) (q : Sender) (d : Option Word) :
    (s.addDeadline q d).dropped = s.dropped := by
  unfold State.addDeadline
  split <;> rfl

@[simp] theorem State.addDeadline_indications (s : State) (q : Sender) (d : Option Word) :
    (s.addDeadline q d).indications = s.indications := by
  unfold State.addDeadline
  split <;> rfl

@[simp] theorem State.addDeadline_poolMark (s : State) (q : Sender) (d : Option Word) :
    (s.addDeadline q d).poolMark = s.poolMark := by
  unfold State.addDeadline
  split <;> rfl

@[simp] theorem State.addDeadline_timebase (s : State) (q : Sender) (d : Option Word) :
    (s.addDeadline q d).timebase = s.timebase := by
  unfold State.addDeadline
  split <;> rfl

@[simp] theorem State.addDeadline_expiry (s : State) (q : Sender) (d : Option Word) :
    (s.addDeadline q d).expiry = s.expiry := by
  unfold State.addDeadline
  split <;> rfl

/-! ### removeWaiter -/

@[simp] theorem State.removeWaiter_pending (s : State) (w : WaitRecord) :
    (s.removeWaiter w).pending = s.pending := by
  simp [State.removeWaiter]

@[simp] theorem State.removeWaiter_resetn (s : State) (w : WaitRecord) :
    (s.removeWaiter w).resetn = s.resetn := by
  simp [State.removeWaiter]

@[simp] theorem State.removeWaiter_straps (s : State) (w : WaitRecord) :
    (s.removeWaiter w).straps = s.straps := by
  simp [State.removeWaiter]

@[simp] theorem State.removeWaiter_lineRate (s : State) (w : WaitRecord) :
    (s.removeWaiter w).lineRate = s.lineRate := by
  simp [State.removeWaiter]

@[simp] theorem State.removeWaiter_ports (s : State) (w : WaitRecord) :
    (s.removeWaiter w).ports = s.ports := by
  simp [State.removeWaiter]

@[simp] theorem State.removeWaiter_searchStart (s : State) (w : WaitRecord) :
    (s.removeWaiter w).searchStart = s.searchStart := by
  simp [State.removeWaiter]

@[simp] theorem State.removeWaiter_resetPending (s : State) (w : WaitRecord) :
    (s.removeWaiter w).resetPending = s.resetPending := by
  simp [State.removeWaiter]

@[simp] theorem State.removeWaiter_labelMap (s : State) (w : WaitRecord) :
    (s.removeWaiter w).labelMap = s.labelMap := by
  simp [State.removeWaiter]

@[simp] theorem State.removeWaiter_queues (s : State) (w : WaitRecord) :
    (s.removeWaiter w).queues = s.queues := by
  simp [State.removeWaiter]

@[simp] theorem State.removeWaiter_free (s : State) (w : WaitRecord) :
    (s.removeWaiter w).free = s.free := by
  simp [State.removeWaiter]

@[simp] theorem State.removeWaiter_rights (s : State) (w : WaitRecord) :
    (s.removeWaiter w).rights = s.rights := by
  simp [State.removeWaiter]

@[simp] theorem State.removeWaiter_alerts (s : State) (w : WaitRecord) :
    (s.removeWaiter w).alerts = s.alerts := by
  simp [State.removeWaiter]

@[simp] theorem State.removeWaiter_dropped (s : State) (w : WaitRecord) :
    (s.removeWaiter w).dropped = s.dropped := by
  simp [State.removeWaiter]

@[simp] theorem State.removeWaiter_indications (s : State) (w : WaitRecord) :
    (s.removeWaiter w).indications = s.indications := by
  simp [State.removeWaiter]

@[simp] theorem State.removeWaiter_poolMark (s : State) (w : WaitRecord) :
    (s.removeWaiter w).poolMark = s.poolMark := by
  simp [State.removeWaiter]

@[simp] theorem State.removeWaiter_timebase (s : State) (w : WaitRecord) :
    (s.removeWaiter w).timebase = s.timebase := by
  simp [State.removeWaiter]

@[simp] theorem State.removeWaiter_expiry (s : State) (w : WaitRecord) :
    (s.removeWaiter w).expiry = s.expiry := by
  simp [State.removeWaiter]

/-! ### moveWaiter -/

@[simp] theorem State.moveWaiter_pending (s : State) (w : WaitRecord) (l : WaitList) :
    (s.moveWaiter w l).pending = s.pending := by
  simp [State.moveWaiter]

@[simp] theorem State.moveWaiter_resetn (s : State) (w : WaitRecord) (l : WaitList) :
    (s.moveWaiter w l).resetn = s.resetn := by
  simp [State.moveWaiter]

@[simp] theorem State.moveWaiter_straps (s : State) (w : WaitRecord) (l : WaitList) :
    (s.moveWaiter w l).straps = s.straps := by
  simp [State.moveWaiter]

@[simp] theorem State.moveWaiter_lineRate (s : State) (w : WaitRecord) (l : WaitList) :
    (s.moveWaiter w l).lineRate = s.lineRate := by
  simp [State.moveWaiter]

@[simp] theorem State.moveWaiter_ports (s : State) (w : WaitRecord) (l : WaitList) :
    (s.moveWaiter w l).ports = s.ports := by
  simp [State.moveWaiter]

@[simp] theorem State.moveWaiter_searchStart (s : State) (w : WaitRecord) (l : WaitList) :
    (s.moveWaiter w l).searchStart = s.searchStart := by
  simp [State.moveWaiter]

@[simp] theorem State.moveWaiter_resetPending (s : State) (w : WaitRecord) (l : WaitList) :
    (s.moveWaiter w l).resetPending = s.resetPending := by
  simp [State.moveWaiter]

@[simp] theorem State.moveWaiter_labelMap (s : State) (w : WaitRecord) (l : WaitList) :
    (s.moveWaiter w l).labelMap = s.labelMap := by
  simp [State.moveWaiter]

@[simp] theorem State.moveWaiter_queues (s : State) (w : WaitRecord) (l : WaitList) :
    (s.moveWaiter w l).queues = s.queues := by
  simp [State.moveWaiter]

@[simp] theorem State.moveWaiter_free (s : State) (w : WaitRecord) (l : WaitList) :
    (s.moveWaiter w l).free = s.free := by
  simp [State.moveWaiter]

@[simp] theorem State.moveWaiter_rights (s : State) (w : WaitRecord) (l : WaitList) :
    (s.moveWaiter w l).rights = s.rights := by
  simp [State.moveWaiter]

@[simp] theorem State.moveWaiter_alerts (s : State) (w : WaitRecord) (l : WaitList) :
    (s.moveWaiter w l).alerts = s.alerts := by
  simp [State.moveWaiter]

@[simp] theorem State.moveWaiter_dropped (s : State) (w : WaitRecord) (l : WaitList) :
    (s.moveWaiter w l).dropped = s.dropped := by
  simp [State.moveWaiter]

@[simp] theorem State.moveWaiter_indications (s : State) (w : WaitRecord) (l : WaitList) :
    (s.moveWaiter w l).indications = s.indications := by
  simp [State.moveWaiter]

@[simp] theorem State.moveWaiter_poolMark (s : State) (w : WaitRecord) (l : WaitList) :
    (s.moveWaiter w l).poolMark = s.poolMark := by
  simp [State.moveWaiter]

@[simp] theorem State.moveWaiter_timebase (s : State) (w : WaitRecord) (l : WaitList) :
    (s.moveWaiter w l).timebase = s.timebase := by
  simp [State.moveWaiter]

@[simp] theorem State.moveWaiter_deadlines (s : State) (w : WaitRecord) (l : WaitList) :
    (s.moveWaiter w l).deadlines = s.deadlines := by
  simp [State.moveWaiter]

@[simp] theorem State.moveWaiter_expiry (s : State) (w : WaitRecord) (l : WaitList) :
    (s.moveWaiter w l).expiry = s.expiry := by
  simp [State.moveWaiter]

/-! ### place -/

@[simp] theorem State.place_pending (s : State) (q : Sender) (r : WaitRequest) (h : Handle) (n : Half) (l : WaitList) :
    (s.place q r h n l).pending = s.pending := by
  simp [State.place]

@[simp] theorem State.place_resetn (s : State) (q : Sender) (r : WaitRequest) (h : Handle) (n : Half) (l : WaitList) :
    (s.place q r h n l).resetn = s.resetn := by
  simp [State.place]

@[simp] theorem State.place_straps (s : State) (q : Sender) (r : WaitRequest) (h : Handle) (n : Half) (l : WaitList) :
    (s.place q r h n l).straps = s.straps := by
  simp [State.place]

@[simp] theorem State.place_lineRate (s : State) (q : Sender) (r : WaitRequest) (h : Handle) (n : Half) (l : WaitList) :
    (s.place q r h n l).lineRate = s.lineRate := by
  simp [State.place]

@[simp] theorem State.place_searchStart (s : State) (q : Sender) (r : WaitRequest) (h : Handle) (n : Half) (l : WaitList) :
    (s.place q r h n l).searchStart = s.searchStart := by
  simp [State.place]

@[simp] theorem State.place_resetPending (s : State) (q : Sender) (r : WaitRequest) (h : Handle) (n : Half) (l : WaitList) :
    (s.place q r h n l).resetPending = s.resetPending := by
  simp [State.place]

@[simp] theorem State.place_labelMap (s : State) (q : Sender) (r : WaitRequest) (h : Handle) (n : Half) (l : WaitList) :
    (s.place q r h n l).labelMap = s.labelMap := by
  simp [State.place]

@[simp] theorem State.place_queues (s : State) (q : Sender) (r : WaitRequest) (h : Handle) (n : Half) (l : WaitList) :
    (s.place q r h n l).queues = s.queues := by
  simp [State.place]

@[simp] theorem State.place_free (s : State) (q : Sender) (r : WaitRequest) (h : Handle) (n : Half) (l : WaitList) :
    (s.place q r h n l).free = s.free := by
  simp [State.place]

@[simp] theorem State.place_rights (s : State) (q : Sender) (r : WaitRequest) (h : Handle) (n : Half) (l : WaitList) :
    (s.place q r h n l).rights = s.rights := by
  simp [State.place]

@[simp] theorem State.place_alerts (s : State) (q : Sender) (r : WaitRequest) (h : Handle) (n : Half) (l : WaitList) :
    (s.place q r h n l).alerts = s.alerts := by
  simp [State.place]

@[simp] theorem State.place_dropped (s : State) (q : Sender) (r : WaitRequest) (h : Handle) (n : Half) (l : WaitList) :
    (s.place q r h n l).dropped = s.dropped := by
  simp [State.place]

@[simp] theorem State.place_indications (s : State) (q : Sender) (r : WaitRequest) (h : Handle) (n : Half) (l : WaitList) :
    (s.place q r h n l).indications = s.indications := by
  simp [State.place]

@[simp] theorem State.place_poolMark (s : State) (q : Sender) (r : WaitRequest) (h : Handle) (n : Half) (l : WaitList) :
    (s.place q r h n l).poolMark = s.poolMark := by
  simp [State.place]

@[simp] theorem State.place_timebase (s : State) (q : Sender) (r : WaitRequest) (h : Handle) (n : Half) (l : WaitList) :
    (s.place q r h n l).timebase = s.timebase := by
  simp [State.place]

@[simp] theorem State.place_expiry (s : State) (q : Sender) (r : WaitRequest) (h : Handle) (n : Half) (l : WaitList) :
    (s.place q r h n l).expiry = s.expiry := by
  simp [State.place]

/-! ### dismiss -/

@[simp] theorem State.dismiss_pending (s : State) (st : Status) (w : WaitRecord) :
    (State.dismiss st s w).pending = s.pending := by
  simp [State.dismiss]

@[simp] theorem State.dismiss_resetn (s : State) (st : Status) (w : WaitRecord) :
    (State.dismiss st s w).resetn = s.resetn := by
  simp [State.dismiss]

@[simp] theorem State.dismiss_straps (s : State) (st : Status) (w : WaitRecord) :
    (State.dismiss st s w).straps = s.straps := by
  simp [State.dismiss]

@[simp] theorem State.dismiss_lineRate (s : State) (st : Status) (w : WaitRecord) :
    (State.dismiss st s w).lineRate = s.lineRate := by
  simp [State.dismiss]

@[simp] theorem State.dismiss_searchStart (s : State) (st : Status) (w : WaitRecord) :
    (State.dismiss st s w).searchStart = s.searchStart := by
  simp [State.dismiss]

@[simp] theorem State.dismiss_resetPending (s : State) (st : Status) (w : WaitRecord) :
    (State.dismiss st s w).resetPending = s.resetPending := by
  simp [State.dismiss]

@[simp] theorem State.dismiss_labelMap (s : State) (st : Status) (w : WaitRecord) :
    (State.dismiss st s w).labelMap = s.labelMap := by
  simp [State.dismiss]

@[simp] theorem State.dismiss_queues (s : State) (st : Status) (w : WaitRecord) :
    (State.dismiss st s w).queues = s.queues := by
  simp [State.dismiss]

@[simp] theorem State.dismiss_free (s : State) (st : Status) (w : WaitRecord) :
    (State.dismiss st s w).free = s.free := by
  simp [State.dismiss]

@[simp] theorem State.dismiss_rights (s : State) (st : Status) (w : WaitRecord) :
    (State.dismiss st s w).rights = s.rights := by
  simp [State.dismiss]

@[simp] theorem State.dismiss_alerts (s : State) (st : Status) (w : WaitRecord) :
    (State.dismiss st s w).alerts = s.alerts := by
  simp [State.dismiss]

@[simp] theorem State.dismiss_dropped (s : State) (st : Status) (w : WaitRecord) :
    (State.dismiss st s w).dropped = s.dropped := by
  simp [State.dismiss]

@[simp] theorem State.dismiss_indications (s : State) (st : Status) (w : WaitRecord) :
    (State.dismiss st s w).indications = s.indications := by
  simp [State.dismiss]

@[simp] theorem State.dismiss_poolMark (s : State) (st : Status) (w : WaitRecord) :
    (State.dismiss st s w).poolMark = s.poolMark := by
  simp [State.dismiss]

@[simp] theorem State.dismiss_timebase (s : State) (st : Status) (w : WaitRecord) :
    (State.dismiss st s w).timebase = s.timebase := by
  simp [State.dismiss]

@[simp] theorem State.dismiss_expiry (s : State) (st : Status) (w : WaitRecord) :
    (State.dismiss st s w).expiry = s.expiry := by
  simp [State.dismiss]

/-! ### dismissAll -/

@[simp] theorem State.dismissAll_pending (s : State) (st : Status) (ws : List WaitRecord) :
    (State.dismissAll st s ws).pending = s.pending := foldl_keeps (fun a w => State.dismiss_pending a st w) ws s

@[simp] theorem State.dismissAll_resetn (s : State) (st : Status) (ws : List WaitRecord) :
    (State.dismissAll st s ws).resetn = s.resetn := foldl_keeps (fun a w => State.dismiss_resetn a st w) ws s

@[simp] theorem State.dismissAll_straps (s : State) (st : Status) (ws : List WaitRecord) :
    (State.dismissAll st s ws).straps = s.straps := foldl_keeps (fun a w => State.dismiss_straps a st w) ws s

@[simp] theorem State.dismissAll_lineRate (s : State) (st : Status) (ws : List WaitRecord) :
    (State.dismissAll st s ws).lineRate = s.lineRate := foldl_keeps (fun a w => State.dismiss_lineRate a st w) ws s

@[simp] theorem State.dismissAll_searchStart (s : State) (st : Status) (ws : List WaitRecord) :
    (State.dismissAll st s ws).searchStart = s.searchStart := foldl_keeps (fun a w => State.dismiss_searchStart a st w) ws s

@[simp] theorem State.dismissAll_resetPending (s : State) (st : Status) (ws : List WaitRecord) :
    (State.dismissAll st s ws).resetPending = s.resetPending := foldl_keeps (fun a w => State.dismiss_resetPending a st w) ws s

@[simp] theorem State.dismissAll_labelMap (s : State) (st : Status) (ws : List WaitRecord) :
    (State.dismissAll st s ws).labelMap = s.labelMap := foldl_keeps (fun a w => State.dismiss_labelMap a st w) ws s

@[simp] theorem State.dismissAll_queues (s : State) (st : Status) (ws : List WaitRecord) :
    (State.dismissAll st s ws).queues = s.queues := foldl_keeps (fun a w => State.dismiss_queues a st w) ws s

@[simp] theorem State.dismissAll_free (s : State) (st : Status) (ws : List WaitRecord) :
    (State.dismissAll st s ws).free = s.free := foldl_keeps (fun a w => State.dismiss_free a st w) ws s

@[simp] theorem State.dismissAll_rights (s : State) (st : Status) (ws : List WaitRecord) :
    (State.dismissAll st s ws).rights = s.rights := foldl_keeps (fun a w => State.dismiss_rights a st w) ws s

@[simp] theorem State.dismissAll_alerts (s : State) (st : Status) (ws : List WaitRecord) :
    (State.dismissAll st s ws).alerts = s.alerts := foldl_keeps (fun a w => State.dismiss_alerts a st w) ws s

@[simp] theorem State.dismissAll_dropped (s : State) (st : Status) (ws : List WaitRecord) :
    (State.dismissAll st s ws).dropped = s.dropped := foldl_keeps (fun a w => State.dismiss_dropped a st w) ws s

@[simp] theorem State.dismissAll_indications (s : State) (st : Status) (ws : List WaitRecord) :
    (State.dismissAll st s ws).indications = s.indications := foldl_keeps (fun a w => State.dismiss_indications a st w) ws s

@[simp] theorem State.dismissAll_poolMark (s : State) (st : Status) (ws : List WaitRecord) :
    (State.dismissAll st s ws).poolMark = s.poolMark := foldl_keeps (fun a w => State.dismiss_poolMark a st w) ws s

@[simp] theorem State.dismissAll_timebase (s : State) (st : Status) (ws : List WaitRecord) :
    (State.dismissAll st s ws).timebase = s.timebase := foldl_keeps (fun a w => State.dismiss_timebase a st w) ws s

@[simp] theorem State.dismissAll_expiry (s : State) (st : Status) (ws : List WaitRecord) :
    (State.dismissAll st s ws).expiry = s.expiry := foldl_keeps (fun a w => State.dismiss_expiry a st w) ws s

/-! ### linkEntry -/

@[simp] theorem State.linkEntry_pending (s : State) (i : SlotNo) (a : QueueAccount) (side : QueueEnd) (e : Entry) :
    (s.linkEntry i a side e).pending = s.pending := rfl

@[simp] theorem State.linkEntry_resetn (s : State) (i : SlotNo) (a : QueueAccount) (side : QueueEnd) (e : Entry) :
    (s.linkEntry i a side e).resetn = s.resetn := rfl

@[simp] theorem State.linkEntry_straps (s : State) (i : SlotNo) (a : QueueAccount) (side : QueueEnd) (e : Entry) :
    (s.linkEntry i a side e).straps = s.straps := rfl

@[simp] theorem State.linkEntry_lineRate (s : State) (i : SlotNo) (a : QueueAccount) (side : QueueEnd) (e : Entry) :
    (s.linkEntry i a side e).lineRate = s.lineRate := rfl

@[simp] theorem State.linkEntry_ports (s : State) (i : SlotNo) (a : QueueAccount) (side : QueueEnd) (e : Entry) :
    (s.linkEntry i a side e).ports = s.ports := rfl

@[simp] theorem State.linkEntry_searchStart (s : State) (i : SlotNo) (a : QueueAccount) (side : QueueEnd) (e : Entry) :
    (s.linkEntry i a side e).searchStart = s.searchStart := rfl

@[simp] theorem State.linkEntry_resetPending (s : State) (i : SlotNo) (a : QueueAccount) (side : QueueEnd) (e : Entry) :
    (s.linkEntry i a side e).resetPending = s.resetPending := rfl

@[simp] theorem State.linkEntry_slots (s : State) (i : SlotNo) (a : QueueAccount) (side : QueueEnd) (e : Entry) :
    (s.linkEntry i a side e).slots = s.slots := rfl

@[simp] theorem State.linkEntry_labelMap (s : State) (i : SlotNo) (a : QueueAccount) (side : QueueEnd) (e : Entry) :
    (s.linkEntry i a side e).labelMap = s.labelMap := rfl

@[simp] theorem State.linkEntry_waits (s : State) (i : SlotNo) (a : QueueAccount) (side : QueueEnd) (e : Entry) :
    (s.linkEntry i a side e).waits = s.waits := rfl

@[simp] theorem State.linkEntry_rights (s : State) (i : SlotNo) (a : QueueAccount) (side : QueueEnd) (e : Entry) :
    (s.linkEntry i a side e).rights = s.rights := rfl

@[simp] theorem State.linkEntry_alerts (s : State) (i : SlotNo) (a : QueueAccount) (side : QueueEnd) (e : Entry) :
    (s.linkEntry i a side e).alerts = s.alerts := rfl

@[simp] theorem State.linkEntry_dropped (s : State) (i : SlotNo) (a : QueueAccount) (side : QueueEnd) (e : Entry) :
    (s.linkEntry i a side e).dropped = s.dropped := rfl

@[simp] theorem State.linkEntry_indications (s : State) (i : SlotNo) (a : QueueAccount) (side : QueueEnd) (e : Entry) :
    (s.linkEntry i a side e).indications = s.indications := rfl

@[simp] theorem State.linkEntry_poolMark (s : State) (i : SlotNo) (a : QueueAccount) (side : QueueEnd) (e : Entry) :
    (s.linkEntry i a side e).poolMark = s.poolMark := rfl

@[simp] theorem State.linkEntry_timebase (s : State) (i : SlotNo) (a : QueueAccount) (side : QueueEnd) (e : Entry) :
    (s.linkEntry i a side e).timebase = s.timebase := rfl

@[simp] theorem State.linkEntry_deadlines (s : State) (i : SlotNo) (a : QueueAccount) (side : QueueEnd) (e : Entry) :
    (s.linkEntry i a side e).deadlines = s.deadlines := rfl

@[simp] theorem State.linkEntry_expiry (s : State) (i : SlotNo) (a : QueueAccount) (side : QueueEnd) (e : Entry) :
    (s.linkEntry i a side e).expiry = s.expiry := rfl

/-! ### grantPut -/

@[simp] theorem State.grantPut_pending (s : State) (i : SlotNo) (a : QueueAccount) (w : WaitRecord) (v : Word) (side : QueueEnd) :
    (s.grantPut i a w v side).pending = s.pending := by
  simp [State.grantPut]

@[simp] theorem State.grantPut_resetn (s : State) (i : SlotNo) (a : QueueAccount) (w : WaitRecord) (v : Word) (side : QueueEnd) :
    (s.grantPut i a w v side).resetn = s.resetn := by
  simp [State.grantPut]

@[simp] theorem State.grantPut_straps (s : State) (i : SlotNo) (a : QueueAccount) (w : WaitRecord) (v : Word) (side : QueueEnd) :
    (s.grantPut i a w v side).straps = s.straps := by
  simp [State.grantPut]

@[simp] theorem State.grantPut_lineRate (s : State) (i : SlotNo) (a : QueueAccount) (w : WaitRecord) (v : Word) (side : QueueEnd) :
    (s.grantPut i a w v side).lineRate = s.lineRate := by
  simp [State.grantPut]

@[simp] theorem State.grantPut_searchStart (s : State) (i : SlotNo) (a : QueueAccount) (w : WaitRecord) (v : Word) (side : QueueEnd) :
    (s.grantPut i a w v side).searchStart = s.searchStart := by
  simp [State.grantPut]

@[simp] theorem State.grantPut_resetPending (s : State) (i : SlotNo) (a : QueueAccount) (w : WaitRecord) (v : Word) (side : QueueEnd) :
    (s.grantPut i a w v side).resetPending = s.resetPending := by
  simp [State.grantPut]

@[simp] theorem State.grantPut_labelMap (s : State) (i : SlotNo) (a : QueueAccount) (w : WaitRecord) (v : Word) (side : QueueEnd) :
    (s.grantPut i a w v side).labelMap = s.labelMap := by
  simp [State.grantPut]

@[simp] theorem State.grantPut_rights (s : State) (i : SlotNo) (a : QueueAccount) (w : WaitRecord) (v : Word) (side : QueueEnd) :
    (s.grantPut i a w v side).rights = s.rights := by
  simp [State.grantPut]

@[simp] theorem State.grantPut_alerts (s : State) (i : SlotNo) (a : QueueAccount) (w : WaitRecord) (v : Word) (side : QueueEnd) :
    (s.grantPut i a w v side).alerts = s.alerts := by
  simp [State.grantPut]

@[simp] theorem State.grantPut_dropped (s : State) (i : SlotNo) (a : QueueAccount) (w : WaitRecord) (v : Word) (side : QueueEnd) :
    (s.grantPut i a w v side).dropped = s.dropped := by
  simp [State.grantPut]

@[simp] theorem State.grantPut_indications (s : State) (i : SlotNo) (a : QueueAccount) (w : WaitRecord) (v : Word) (side : QueueEnd) :
    (s.grantPut i a w v side).indications = s.indications := by
  simp [State.grantPut]

@[simp] theorem State.grantPut_poolMark (s : State) (i : SlotNo) (a : QueueAccount) (w : WaitRecord) (v : Word) (side : QueueEnd) :
    (s.grantPut i a w v side).poolMark = s.poolMark := by
  simp [State.grantPut]

@[simp] theorem State.grantPut_timebase (s : State) (i : SlotNo) (a : QueueAccount) (w : WaitRecord) (v : Word) (side : QueueEnd) :
    (s.grantPut i a w v side).timebase = s.timebase := by
  simp [State.grantPut]

@[simp] theorem State.grantPut_expiry (s : State) (i : SlotNo) (a : QueueAccount) (w : WaitRecord) (v : Word) (side : QueueEnd) :
    (s.grantPut i a w v side).expiry = s.expiry := by
  simp [State.grantPut]

/-! ### serveOwnPutter -/

@[simp] theorem serveOwnPutter_pending (i : SlotNo) (s : State) (w : WaitRecord) :
    (serveOwnPutter i s w).pending = s.pending := by
  unfold serveOwnPutter
  repeat' split
  all_goals simp

@[simp] theorem serveOwnPutter_resetn (i : SlotNo) (s : State) (w : WaitRecord) :
    (serveOwnPutter i s w).resetn = s.resetn := by
  unfold serveOwnPutter
  repeat' split
  all_goals simp

@[simp] theorem serveOwnPutter_straps (i : SlotNo) (s : State) (w : WaitRecord) :
    (serveOwnPutter i s w).straps = s.straps := by
  unfold serveOwnPutter
  repeat' split
  all_goals simp

@[simp] theorem serveOwnPutter_lineRate (i : SlotNo) (s : State) (w : WaitRecord) :
    (serveOwnPutter i s w).lineRate = s.lineRate := by
  unfold serveOwnPutter
  repeat' split
  all_goals simp

@[simp] theorem serveOwnPutter_searchStart (i : SlotNo) (s : State) (w : WaitRecord) :
    (serveOwnPutter i s w).searchStart = s.searchStart := by
  unfold serveOwnPutter
  repeat' split
  all_goals simp

@[simp] theorem serveOwnPutter_resetPending (i : SlotNo) (s : State) (w : WaitRecord) :
    (serveOwnPutter i s w).resetPending = s.resetPending := by
  unfold serveOwnPutter
  repeat' split
  all_goals simp

@[simp] theorem serveOwnPutter_labelMap (i : SlotNo) (s : State) (w : WaitRecord) :
    (serveOwnPutter i s w).labelMap = s.labelMap := by
  unfold serveOwnPutter
  repeat' split
  all_goals simp

@[simp] theorem serveOwnPutter_rights (i : SlotNo) (s : State) (w : WaitRecord) :
    (serveOwnPutter i s w).rights = s.rights := by
  unfold serveOwnPutter
  repeat' split
  all_goals simp

@[simp] theorem serveOwnPutter_alerts (i : SlotNo) (s : State) (w : WaitRecord) :
    (serveOwnPutter i s w).alerts = s.alerts := by
  unfold serveOwnPutter
  repeat' split
  all_goals simp

@[simp] theorem serveOwnPutter_dropped (i : SlotNo) (s : State) (w : WaitRecord) :
    (serveOwnPutter i s w).dropped = s.dropped := by
  unfold serveOwnPutter
  repeat' split
  all_goals simp

@[simp] theorem serveOwnPutter_indications (i : SlotNo) (s : State) (w : WaitRecord) :
    (serveOwnPutter i s w).indications = s.indications := by
  unfold serveOwnPutter
  repeat' split
  all_goals simp

@[simp] theorem serveOwnPutter_poolMark (i : SlotNo) (s : State) (w : WaitRecord) :
    (serveOwnPutter i s w).poolMark = s.poolMark := by
  unfold serveOwnPutter
  repeat' split
  all_goals simp

@[simp] theorem serveOwnPutter_timebase (i : SlotNo) (s : State) (w : WaitRecord) :
    (serveOwnPutter i s w).timebase = s.timebase := by
  unfold serveOwnPutter
  repeat' split
  all_goals simp

@[simp] theorem serveOwnPutter_expiry (i : SlotNo) (s : State) (w : WaitRecord) :
    (serveOwnPutter i s w).expiry = s.expiry := by
  unfold serveOwnPutter
  repeat' split
  all_goals simp

/-! ### serveOwnPutters -/

@[simp] theorem State.serveOwnPutters_pending (s : State) (i : SlotNo) :
    (s.serveOwnPutters i).pending = s.pending := foldl_keeps (fun a w => serveOwnPutter_pending i a w) _ s

@[simp] theorem State.serveOwnPutters_resetn (s : State) (i : SlotNo) :
    (s.serveOwnPutters i).resetn = s.resetn := foldl_keeps (fun a w => serveOwnPutter_resetn i a w) _ s

@[simp] theorem State.serveOwnPutters_straps (s : State) (i : SlotNo) :
    (s.serveOwnPutters i).straps = s.straps := foldl_keeps (fun a w => serveOwnPutter_straps i a w) _ s

@[simp] theorem State.serveOwnPutters_lineRate (s : State) (i : SlotNo) :
    (s.serveOwnPutters i).lineRate = s.lineRate := foldl_keeps (fun a w => serveOwnPutter_lineRate i a w) _ s

@[simp] theorem State.serveOwnPutters_searchStart (s : State) (i : SlotNo) :
    (s.serveOwnPutters i).searchStart = s.searchStart := foldl_keeps (fun a w => serveOwnPutter_searchStart i a w) _ s

@[simp] theorem State.serveOwnPutters_resetPending (s : State) (i : SlotNo) :
    (s.serveOwnPutters i).resetPending = s.resetPending := foldl_keeps (fun a w => serveOwnPutter_resetPending i a w) _ s

@[simp] theorem State.serveOwnPutters_labelMap (s : State) (i : SlotNo) :
    (s.serveOwnPutters i).labelMap = s.labelMap := foldl_keeps (fun a w => serveOwnPutter_labelMap i a w) _ s

@[simp] theorem State.serveOwnPutters_rights (s : State) (i : SlotNo) :
    (s.serveOwnPutters i).rights = s.rights := foldl_keeps (fun a w => serveOwnPutter_rights i a w) _ s

@[simp] theorem State.serveOwnPutters_alerts (s : State) (i : SlotNo) :
    (s.serveOwnPutters i).alerts = s.alerts := foldl_keeps (fun a w => serveOwnPutter_alerts i a w) _ s

@[simp] theorem State.serveOwnPutters_dropped (s : State) (i : SlotNo) :
    (s.serveOwnPutters i).dropped = s.dropped := foldl_keeps (fun a w => serveOwnPutter_dropped i a w) _ s

@[simp] theorem State.serveOwnPutters_indications (s : State) (i : SlotNo) :
    (s.serveOwnPutters i).indications = s.indications := foldl_keeps (fun a w => serveOwnPutter_indications i a w) _ s

@[simp] theorem State.serveOwnPutters_poolMark (s : State) (i : SlotNo) :
    (s.serveOwnPutters i).poolMark = s.poolMark := foldl_keeps (fun a w => serveOwnPutter_poolMark i a w) _ s

@[simp] theorem State.serveOwnPutters_timebase (s : State) (i : SlotNo) :
    (s.serveOwnPutters i).timebase = s.timebase := foldl_keeps (fun a w => serveOwnPutter_timebase i a w) _ s

@[simp] theorem State.serveOwnPutters_expiry (s : State) (i : SlotNo) :
    (s.serveOwnPutters i).expiry = s.expiry := foldl_keeps (fun a w => serveOwnPutter_expiry i a w) _ s

/-! ### poolPassRecord -/

@[simp] theorem poolPassRecord_pending (r : State × Bool) (w : WaitRecord) :
    (poolPassRecord r w).1.pending = r.1.pending := by
  unfold poolPassRecord
  repeat' split
  all_goals simp

@[simp] theorem poolPassRecord_resetn (r : State × Bool) (w : WaitRecord) :
    (poolPassRecord r w).1.resetn = r.1.resetn := by
  unfold poolPassRecord
  repeat' split
  all_goals simp

@[simp] theorem poolPassRecord_straps (r : State × Bool) (w : WaitRecord) :
    (poolPassRecord r w).1.straps = r.1.straps := by
  unfold poolPassRecord
  repeat' split
  all_goals simp

@[simp] theorem poolPassRecord_lineRate (r : State × Bool) (w : WaitRecord) :
    (poolPassRecord r w).1.lineRate = r.1.lineRate := by
  unfold poolPassRecord
  repeat' split
  all_goals simp

@[simp] theorem poolPassRecord_searchStart (r : State × Bool) (w : WaitRecord) :
    (poolPassRecord r w).1.searchStart = r.1.searchStart := by
  unfold poolPassRecord
  repeat' split
  all_goals simp

@[simp] theorem poolPassRecord_resetPending (r : State × Bool) (w : WaitRecord) :
    (poolPassRecord r w).1.resetPending = r.1.resetPending := by
  unfold poolPassRecord
  repeat' split
  all_goals simp

@[simp] theorem poolPassRecord_labelMap (r : State × Bool) (w : WaitRecord) :
    (poolPassRecord r w).1.labelMap = r.1.labelMap := by
  unfold poolPassRecord
  repeat' split
  all_goals simp

@[simp] theorem poolPassRecord_rights (r : State × Bool) (w : WaitRecord) :
    (poolPassRecord r w).1.rights = r.1.rights := by
  unfold poolPassRecord
  repeat' split
  all_goals simp

@[simp] theorem poolPassRecord_alerts (r : State × Bool) (w : WaitRecord) :
    (poolPassRecord r w).1.alerts = r.1.alerts := by
  unfold poolPassRecord
  repeat' split
  all_goals simp

@[simp] theorem poolPassRecord_dropped (r : State × Bool) (w : WaitRecord) :
    (poolPassRecord r w).1.dropped = r.1.dropped := by
  unfold poolPassRecord
  repeat' split
  all_goals simp

@[simp] theorem poolPassRecord_indications (r : State × Bool) (w : WaitRecord) :
    (poolPassRecord r w).1.indications = r.1.indications := by
  unfold poolPassRecord
  repeat' split
  all_goals simp

@[simp] theorem poolPassRecord_poolMark (r : State × Bool) (w : WaitRecord) :
    (poolPassRecord r w).1.poolMark = r.1.poolMark := by
  unfold poolPassRecord
  repeat' split
  all_goals simp

@[simp] theorem poolPassRecord_timebase (r : State × Bool) (w : WaitRecord) :
    (poolPassRecord r w).1.timebase = r.1.timebase := by
  unfold poolPassRecord
  repeat' split
  all_goals simp

@[simp] theorem poolPassRecord_expiry (r : State × Bool) (w : WaitRecord) :
    (poolPassRecord r w).1.expiry = r.1.expiry := by
  unfold poolPassRecord
  repeat' split
  all_goals simp

/-! ### poolPass -/

@[simp] theorem poolPass_pending (s : State) :
    (poolPass s).1.pending = s.pending := foldl_keeps (g := fun r : State × Bool => r.1.pending) (fun a w => poolPassRecord_pending a w) _ (s, false)

@[simp] theorem poolPass_resetn (s : State) :
    (poolPass s).1.resetn = s.resetn := foldl_keeps (g := fun r : State × Bool => r.1.resetn) (fun a w => poolPassRecord_resetn a w) _ (s, false)

@[simp] theorem poolPass_straps (s : State) :
    (poolPass s).1.straps = s.straps := foldl_keeps (g := fun r : State × Bool => r.1.straps) (fun a w => poolPassRecord_straps a w) _ (s, false)

@[simp] theorem poolPass_lineRate (s : State) :
    (poolPass s).1.lineRate = s.lineRate := foldl_keeps (g := fun r : State × Bool => r.1.lineRate) (fun a w => poolPassRecord_lineRate a w) _ (s, false)

@[simp] theorem poolPass_searchStart (s : State) :
    (poolPass s).1.searchStart = s.searchStart := foldl_keeps (g := fun r : State × Bool => r.1.searchStart) (fun a w => poolPassRecord_searchStart a w) _ (s, false)

@[simp] theorem poolPass_resetPending (s : State) :
    (poolPass s).1.resetPending = s.resetPending := foldl_keeps (g := fun r : State × Bool => r.1.resetPending) (fun a w => poolPassRecord_resetPending a w) _ (s, false)

@[simp] theorem poolPass_labelMap (s : State) :
    (poolPass s).1.labelMap = s.labelMap := foldl_keeps (g := fun r : State × Bool => r.1.labelMap) (fun a w => poolPassRecord_labelMap a w) _ (s, false)

@[simp] theorem poolPass_rights (s : State) :
    (poolPass s).1.rights = s.rights := foldl_keeps (g := fun r : State × Bool => r.1.rights) (fun a w => poolPassRecord_rights a w) _ (s, false)

@[simp] theorem poolPass_alerts (s : State) :
    (poolPass s).1.alerts = s.alerts := foldl_keeps (g := fun r : State × Bool => r.1.alerts) (fun a w => poolPassRecord_alerts a w) _ (s, false)

@[simp] theorem poolPass_dropped (s : State) :
    (poolPass s).1.dropped = s.dropped := foldl_keeps (g := fun r : State × Bool => r.1.dropped) (fun a w => poolPassRecord_dropped a w) _ (s, false)

@[simp] theorem poolPass_indications (s : State) :
    (poolPass s).1.indications = s.indications := foldl_keeps (g := fun r : State × Bool => r.1.indications) (fun a w => poolPassRecord_indications a w) _ (s, false)

@[simp] theorem poolPass_poolMark (s : State) :
    (poolPass s).1.poolMark = s.poolMark := foldl_keeps (g := fun r : State × Bool => r.1.poolMark) (fun a w => poolPassRecord_poolMark a w) _ (s, false)

@[simp] theorem poolPass_timebase (s : State) :
    (poolPass s).1.timebase = s.timebase := foldl_keeps (g := fun r : State × Bool => r.1.timebase) (fun a w => poolPassRecord_timebase a w) _ (s, false)

@[simp] theorem poolPass_expiry (s : State) :
    (poolPass s).1.expiry = s.expiry := foldl_keeps (g := fun r : State × Bool => r.1.expiry) (fun a w => poolPassRecord_expiry a w) _ (s, false)

/-! ### poolPasses -/

@[simp] theorem poolPasses_pending (n : Nat) (s : State) :
    (poolPasses n s).pending = s.pending := by
  induction n generalizing s with
  | zero => rfl
  | succ n ih =>
    unfold poolPasses
    split
    · next s' h => rw [ih, ← poolPass_pending s, h]
    · next s' h => rw [← poolPass_pending s, h]

@[simp] theorem poolPasses_resetn (n : Nat) (s : State) :
    (poolPasses n s).resetn = s.resetn := by
  induction n generalizing s with
  | zero => rfl
  | succ n ih =>
    unfold poolPasses
    split
    · next s' h => rw [ih, ← poolPass_resetn s, h]
    · next s' h => rw [← poolPass_resetn s, h]

@[simp] theorem poolPasses_straps (n : Nat) (s : State) :
    (poolPasses n s).straps = s.straps := by
  induction n generalizing s with
  | zero => rfl
  | succ n ih =>
    unfold poolPasses
    split
    · next s' h => rw [ih, ← poolPass_straps s, h]
    · next s' h => rw [← poolPass_straps s, h]

@[simp] theorem poolPasses_lineRate (n : Nat) (s : State) :
    (poolPasses n s).lineRate = s.lineRate := by
  induction n generalizing s with
  | zero => rfl
  | succ n ih =>
    unfold poolPasses
    split
    · next s' h => rw [ih, ← poolPass_lineRate s, h]
    · next s' h => rw [← poolPass_lineRate s, h]

@[simp] theorem poolPasses_searchStart (n : Nat) (s : State) :
    (poolPasses n s).searchStart = s.searchStart := by
  induction n generalizing s with
  | zero => rfl
  | succ n ih =>
    unfold poolPasses
    split
    · next s' h => rw [ih, ← poolPass_searchStart s, h]
    · next s' h => rw [← poolPass_searchStart s, h]

@[simp] theorem poolPasses_resetPending (n : Nat) (s : State) :
    (poolPasses n s).resetPending = s.resetPending := by
  induction n generalizing s with
  | zero => rfl
  | succ n ih =>
    unfold poolPasses
    split
    · next s' h => rw [ih, ← poolPass_resetPending s, h]
    · next s' h => rw [← poolPass_resetPending s, h]

@[simp] theorem poolPasses_labelMap (n : Nat) (s : State) :
    (poolPasses n s).labelMap = s.labelMap := by
  induction n generalizing s with
  | zero => rfl
  | succ n ih =>
    unfold poolPasses
    split
    · next s' h => rw [ih, ← poolPass_labelMap s, h]
    · next s' h => rw [← poolPass_labelMap s, h]

@[simp] theorem poolPasses_rights (n : Nat) (s : State) :
    (poolPasses n s).rights = s.rights := by
  induction n generalizing s with
  | zero => rfl
  | succ n ih =>
    unfold poolPasses
    split
    · next s' h => rw [ih, ← poolPass_rights s, h]
    · next s' h => rw [← poolPass_rights s, h]

@[simp] theorem poolPasses_alerts (n : Nat) (s : State) :
    (poolPasses n s).alerts = s.alerts := by
  induction n generalizing s with
  | zero => rfl
  | succ n ih =>
    unfold poolPasses
    split
    · next s' h => rw [ih, ← poolPass_alerts s, h]
    · next s' h => rw [← poolPass_alerts s, h]

@[simp] theorem poolPasses_dropped (n : Nat) (s : State) :
    (poolPasses n s).dropped = s.dropped := by
  induction n generalizing s with
  | zero => rfl
  | succ n ih =>
    unfold poolPasses
    split
    · next s' h => rw [ih, ← poolPass_dropped s, h]
    · next s' h => rw [← poolPass_dropped s, h]

@[simp] theorem poolPasses_indications (n : Nat) (s : State) :
    (poolPasses n s).indications = s.indications := by
  induction n generalizing s with
  | zero => rfl
  | succ n ih =>
    unfold poolPasses
    split
    · next s' h => rw [ih, ← poolPass_indications s, h]
    · next s' h => rw [← poolPass_indications s, h]

@[simp] theorem poolPasses_poolMark (n : Nat) (s : State) :
    (poolPasses n s).poolMark = s.poolMark := by
  induction n generalizing s with
  | zero => rfl
  | succ n ih =>
    unfold poolPasses
    split
    · next s' h => rw [ih, ← poolPass_poolMark s, h]
    · next s' h => rw [← poolPass_poolMark s, h]

@[simp] theorem poolPasses_timebase (n : Nat) (s : State) :
    (poolPasses n s).timebase = s.timebase := by
  induction n generalizing s with
  | zero => rfl
  | succ n ih =>
    unfold poolPasses
    split
    · next s' h => rw [ih, ← poolPass_timebase s, h]
    · next s' h => rw [← poolPass_timebase s, h]

@[simp] theorem poolPasses_expiry (n : Nat) (s : State) :
    (poolPasses n s).expiry = s.expiry := by
  induction n generalizing s with
  | zero => rfl
  | succ n ih =>
    unfold poolPasses
    split
    · next s' h => rw [ih, ← poolPass_expiry s, h]
    · next s' h => rw [← poolPass_expiry s, h]

/-! ### poolService -/

@[simp] theorem State.poolService_pending (s : State) :
    s.poolService.pending = s.pending := poolPasses_pending _ s

@[simp] theorem State.poolService_resetn (s : State) :
    s.poolService.resetn = s.resetn := poolPasses_resetn _ s

@[simp] theorem State.poolService_straps (s : State) :
    s.poolService.straps = s.straps := poolPasses_straps _ s

@[simp] theorem State.poolService_lineRate (s : State) :
    s.poolService.lineRate = s.lineRate := poolPasses_lineRate _ s

@[simp] theorem State.poolService_searchStart (s : State) :
    s.poolService.searchStart = s.searchStart := poolPasses_searchStart _ s

@[simp] theorem State.poolService_resetPending (s : State) :
    s.poolService.resetPending = s.resetPending := poolPasses_resetPending _ s

@[simp] theorem State.poolService_labelMap (s : State) :
    s.poolService.labelMap = s.labelMap := poolPasses_labelMap _ s

@[simp] theorem State.poolService_rights (s : State) :
    s.poolService.rights = s.rights := poolPasses_rights _ s

@[simp] theorem State.poolService_alerts (s : State) :
    s.poolService.alerts = s.alerts := poolPasses_alerts _ s

@[simp] theorem State.poolService_dropped (s : State) :
    s.poolService.dropped = s.dropped := poolPasses_dropped _ s

@[simp] theorem State.poolService_indications (s : State) :
    s.poolService.indications = s.indications := poolPasses_indications _ s

@[simp] theorem State.poolService_poolMark (s : State) :
    s.poolService.poolMark = s.poolMark := poolPasses_poolMark _ s

@[simp] theorem State.poolService_timebase (s : State) :
    s.poolService.timebase = s.timebase := poolPasses_timebase _ s

@[simp] theorem State.poolService_expiry (s : State) :
    s.poolService.expiry = s.expiry := poolPasses_expiry _ s

/-! ### poolServiceIf -/

@[simp] theorem State.poolServiceIf_pending (s : State) (due : Bool) :
    (s.poolServiceIf due).pending = s.pending := by
  unfold State.poolServiceIf
  split <;> simp

@[simp] theorem State.poolServiceIf_resetn (s : State) (due : Bool) :
    (s.poolServiceIf due).resetn = s.resetn := by
  unfold State.poolServiceIf
  split <;> simp

@[simp] theorem State.poolServiceIf_straps (s : State) (due : Bool) :
    (s.poolServiceIf due).straps = s.straps := by
  unfold State.poolServiceIf
  split <;> simp

@[simp] theorem State.poolServiceIf_lineRate (s : State) (due : Bool) :
    (s.poolServiceIf due).lineRate = s.lineRate := by
  unfold State.poolServiceIf
  split <;> simp

@[simp] theorem State.poolServiceIf_searchStart (s : State) (due : Bool) :
    (s.poolServiceIf due).searchStart = s.searchStart := by
  unfold State.poolServiceIf
  split <;> simp

@[simp] theorem State.poolServiceIf_resetPending (s : State) (due : Bool) :
    (s.poolServiceIf due).resetPending = s.resetPending := by
  unfold State.poolServiceIf
  split <;> simp

@[simp] theorem State.poolServiceIf_labelMap (s : State) (due : Bool) :
    (s.poolServiceIf due).labelMap = s.labelMap := by
  unfold State.poolServiceIf
  split <;> simp

@[simp] theorem State.poolServiceIf_rights (s : State) (due : Bool) :
    (s.poolServiceIf due).rights = s.rights := by
  unfold State.poolServiceIf
  split <;> simp

@[simp] theorem State.poolServiceIf_alerts (s : State) (due : Bool) :
    (s.poolServiceIf due).alerts = s.alerts := by
  unfold State.poolServiceIf
  split <;> simp

@[simp] theorem State.poolServiceIf_dropped (s : State) (due : Bool) :
    (s.poolServiceIf due).dropped = s.dropped := by
  unfold State.poolServiceIf
  split <;> simp

@[simp] theorem State.poolServiceIf_indications (s : State) (due : Bool) :
    (s.poolServiceIf due).indications = s.indications := by
  unfold State.poolServiceIf
  split <;> simp

@[simp] theorem State.poolServiceIf_poolMark (s : State) (due : Bool) :
    (s.poolServiceIf due).poolMark = s.poolMark := by
  unfold State.poolServiceIf
  split <;> simp

@[simp] theorem State.poolServiceIf_timebase (s : State) (due : Bool) :
    (s.poolServiceIf due).timebase = s.timebase := by
  unfold State.poolServiceIf
  split <;> simp

@[simp] theorem State.poolServiceIf_expiry (s : State) (due : Bool) :
    (s.poolServiceIf due).expiry = s.expiry := by
  unfold State.poolServiceIf
  split <;> simp

/-! ### serveCellWaiter -/

@[simp] theorem State.serveCellWaiter_pending (s : State) (i : SlotNo) (r : ObjectRecord) (v : Word) (o : Order) (w : WaitRecord) (op : CellOp) :
    (s.serveCellWaiter i r v o w op).pending = s.pending := by
  simp [State.serveCellWaiter]

@[simp] theorem State.serveCellWaiter_resetn (s : State) (i : SlotNo) (r : ObjectRecord) (v : Word) (o : Order) (w : WaitRecord) (op : CellOp) :
    (s.serveCellWaiter i r v o w op).resetn = s.resetn := by
  simp [State.serveCellWaiter]

@[simp] theorem State.serveCellWaiter_straps (s : State) (i : SlotNo) (r : ObjectRecord) (v : Word) (o : Order) (w : WaitRecord) (op : CellOp) :
    (s.serveCellWaiter i r v o w op).straps = s.straps := by
  simp [State.serveCellWaiter]

@[simp] theorem State.serveCellWaiter_lineRate (s : State) (i : SlotNo) (r : ObjectRecord) (v : Word) (o : Order) (w : WaitRecord) (op : CellOp) :
    (s.serveCellWaiter i r v o w op).lineRate = s.lineRate := by
  simp [State.serveCellWaiter]

@[simp] theorem State.serveCellWaiter_searchStart (s : State) (i : SlotNo) (r : ObjectRecord) (v : Word) (o : Order) (w : WaitRecord) (op : CellOp) :
    (s.serveCellWaiter i r v o w op).searchStart = s.searchStart := by
  simp [State.serveCellWaiter]

@[simp] theorem State.serveCellWaiter_resetPending (s : State) (i : SlotNo) (r : ObjectRecord) (v : Word) (o : Order) (w : WaitRecord) (op : CellOp) :
    (s.serveCellWaiter i r v o w op).resetPending = s.resetPending := by
  simp [State.serveCellWaiter]

@[simp] theorem State.serveCellWaiter_labelMap (s : State) (i : SlotNo) (r : ObjectRecord) (v : Word) (o : Order) (w : WaitRecord) (op : CellOp) :
    (s.serveCellWaiter i r v o w op).labelMap = s.labelMap := by
  simp [State.serveCellWaiter]

@[simp] theorem State.serveCellWaiter_queues (s : State) (i : SlotNo) (r : ObjectRecord) (v : Word) (o : Order) (w : WaitRecord) (op : CellOp) :
    (s.serveCellWaiter i r v o w op).queues = s.queues := by
  simp [State.serveCellWaiter]

@[simp] theorem State.serveCellWaiter_free (s : State) (i : SlotNo) (r : ObjectRecord) (v : Word) (o : Order) (w : WaitRecord) (op : CellOp) :
    (s.serveCellWaiter i r v o w op).free = s.free := by
  simp [State.serveCellWaiter]

@[simp] theorem State.serveCellWaiter_rights (s : State) (i : SlotNo) (r : ObjectRecord) (v : Word) (o : Order) (w : WaitRecord) (op : CellOp) :
    (s.serveCellWaiter i r v o w op).rights = s.rights := by
  simp [State.serveCellWaiter]

@[simp] theorem State.serveCellWaiter_alerts (s : State) (i : SlotNo) (r : ObjectRecord) (v : Word) (o : Order) (w : WaitRecord) (op : CellOp) :
    (s.serveCellWaiter i r v o w op).alerts = s.alerts := by
  simp [State.serveCellWaiter]

@[simp] theorem State.serveCellWaiter_dropped (s : State) (i : SlotNo) (r : ObjectRecord) (v : Word) (o : Order) (w : WaitRecord) (op : CellOp) :
    (s.serveCellWaiter i r v o w op).dropped = s.dropped := by
  simp [State.serveCellWaiter]

@[simp] theorem State.serveCellWaiter_indications (s : State) (i : SlotNo) (r : ObjectRecord) (v : Word) (o : Order) (w : WaitRecord) (op : CellOp) :
    (s.serveCellWaiter i r v o w op).indications = s.indications := by
  simp [State.serveCellWaiter]

@[simp] theorem State.serveCellWaiter_poolMark (s : State) (i : SlotNo) (r : ObjectRecord) (v : Word) (o : Order) (w : WaitRecord) (op : CellOp) :
    (s.serveCellWaiter i r v o w op).poolMark = s.poolMark := by
  simp [State.serveCellWaiter]

@[simp] theorem State.serveCellWaiter_timebase (s : State) (i : SlotNo) (r : ObjectRecord) (v : Word) (o : Order) (w : WaitRecord) (op : CellOp) :
    (s.serveCellWaiter i r v o w op).timebase = s.timebase := by
  simp [State.serveCellWaiter]

@[simp] theorem State.serveCellWaiter_expiry (s : State) (i : SlotNo) (r : ObjectRecord) (v : Word) (o : Order) (w : WaitRecord) (op : CellOp) :
    (s.serveCellWaiter i r v o w op).expiry = s.expiry := by
  simp [State.serveCellWaiter]

/-! ### scanStrict -/

@[simp] theorem scanStrict_pending (i : SlotNo) (ws : List WaitRecord) (s : State) :
    (scanStrict i ws s).pending = s.pending := by
  induction ws generalizing s with
  | nil => rfl
  | cons w ws ih =>
    unfold scanStrict
    repeat' split
    all_goals simp [ih]

@[simp] theorem scanStrict_resetn (i : SlotNo) (ws : List WaitRecord) (s : State) :
    (scanStrict i ws s).resetn = s.resetn := by
  induction ws generalizing s with
  | nil => rfl
  | cons w ws ih =>
    unfold scanStrict
    repeat' split
    all_goals simp [ih]

@[simp] theorem scanStrict_straps (i : SlotNo) (ws : List WaitRecord) (s : State) :
    (scanStrict i ws s).straps = s.straps := by
  induction ws generalizing s with
  | nil => rfl
  | cons w ws ih =>
    unfold scanStrict
    repeat' split
    all_goals simp [ih]

@[simp] theorem scanStrict_lineRate (i : SlotNo) (ws : List WaitRecord) (s : State) :
    (scanStrict i ws s).lineRate = s.lineRate := by
  induction ws generalizing s with
  | nil => rfl
  | cons w ws ih =>
    unfold scanStrict
    repeat' split
    all_goals simp [ih]

@[simp] theorem scanStrict_searchStart (i : SlotNo) (ws : List WaitRecord) (s : State) :
    (scanStrict i ws s).searchStart = s.searchStart := by
  induction ws generalizing s with
  | nil => rfl
  | cons w ws ih =>
    unfold scanStrict
    repeat' split
    all_goals simp [ih]

@[simp] theorem scanStrict_resetPending (i : SlotNo) (ws : List WaitRecord) (s : State) :
    (scanStrict i ws s).resetPending = s.resetPending := by
  induction ws generalizing s with
  | nil => rfl
  | cons w ws ih =>
    unfold scanStrict
    repeat' split
    all_goals simp [ih]

@[simp] theorem scanStrict_labelMap (i : SlotNo) (ws : List WaitRecord) (s : State) :
    (scanStrict i ws s).labelMap = s.labelMap := by
  induction ws generalizing s with
  | nil => rfl
  | cons w ws ih =>
    unfold scanStrict
    repeat' split
    all_goals simp [ih]

@[simp] theorem scanStrict_queues (i : SlotNo) (ws : List WaitRecord) (s : State) :
    (scanStrict i ws s).queues = s.queues := by
  induction ws generalizing s with
  | nil => rfl
  | cons w ws ih =>
    unfold scanStrict
    repeat' split
    all_goals simp [ih]

@[simp] theorem scanStrict_free (i : SlotNo) (ws : List WaitRecord) (s : State) :
    (scanStrict i ws s).free = s.free := by
  induction ws generalizing s with
  | nil => rfl
  | cons w ws ih =>
    unfold scanStrict
    repeat' split
    all_goals simp [ih]

@[simp] theorem scanStrict_rights (i : SlotNo) (ws : List WaitRecord) (s : State) :
    (scanStrict i ws s).rights = s.rights := by
  induction ws generalizing s with
  | nil => rfl
  | cons w ws ih =>
    unfold scanStrict
    repeat' split
    all_goals simp [ih]

@[simp] theorem scanStrict_alerts (i : SlotNo) (ws : List WaitRecord) (s : State) :
    (scanStrict i ws s).alerts = s.alerts := by
  induction ws generalizing s with
  | nil => rfl
  | cons w ws ih =>
    unfold scanStrict
    repeat' split
    all_goals simp [ih]

@[simp] theorem scanStrict_dropped (i : SlotNo) (ws : List WaitRecord) (s : State) :
    (scanStrict i ws s).dropped = s.dropped := by
  induction ws generalizing s with
  | nil => rfl
  | cons w ws ih =>
    unfold scanStrict
    repeat' split
    all_goals simp [ih]

@[simp] theorem scanStrict_indications (i : SlotNo) (ws : List WaitRecord) (s : State) :
    (scanStrict i ws s).indications = s.indications := by
  induction ws generalizing s with
  | nil => rfl
  | cons w ws ih =>
    unfold scanStrict
    repeat' split
    all_goals simp [ih]

@[simp] theorem scanStrict_poolMark (i : SlotNo) (ws : List WaitRecord) (s : State) :
    (scanStrict i ws s).poolMark = s.poolMark := by
  induction ws generalizing s with
  | nil => rfl
  | cons w ws ih =>
    unfold scanStrict
    repeat' split
    all_goals simp [ih]

@[simp] theorem scanStrict_timebase (i : SlotNo) (ws : List WaitRecord) (s : State) :
    (scanStrict i ws s).timebase = s.timebase := by
  induction ws generalizing s with
  | nil => rfl
  | cons w ws ih =>
    unfold scanStrict
    repeat' split
    all_goals simp [ih]

@[simp] theorem scanStrict_expiry (i : SlotNo) (ws : List WaitRecord) (s : State) :
    (scanStrict i ws s).expiry = s.expiry := by
  induction ws generalizing s with
  | nil => rfl
  | cons w ws ih =>
    unfold scanStrict
    repeat' split
    all_goals simp [ih]

/-! ### scanPassRecord -/

@[simp] theorem scanPassRecord_pending (i : SlotNo) (r : State × Bool) (w : WaitRecord) :
    (scanPassRecord i r w).1.pending = r.1.pending := by
  unfold scanPassRecord
  repeat' split
  all_goals simp

@[simp] theorem scanPassRecord_resetn (i : SlotNo) (r : State × Bool) (w : WaitRecord) :
    (scanPassRecord i r w).1.resetn = r.1.resetn := by
  unfold scanPassRecord
  repeat' split
  all_goals simp

@[simp] theorem scanPassRecord_straps (i : SlotNo) (r : State × Bool) (w : WaitRecord) :
    (scanPassRecord i r w).1.straps = r.1.straps := by
  unfold scanPassRecord
  repeat' split
  all_goals simp

@[simp] theorem scanPassRecord_lineRate (i : SlotNo) (r : State × Bool) (w : WaitRecord) :
    (scanPassRecord i r w).1.lineRate = r.1.lineRate := by
  unfold scanPassRecord
  repeat' split
  all_goals simp

@[simp] theorem scanPassRecord_searchStart (i : SlotNo) (r : State × Bool) (w : WaitRecord) :
    (scanPassRecord i r w).1.searchStart = r.1.searchStart := by
  unfold scanPassRecord
  repeat' split
  all_goals simp

@[simp] theorem scanPassRecord_resetPending (i : SlotNo) (r : State × Bool) (w : WaitRecord) :
    (scanPassRecord i r w).1.resetPending = r.1.resetPending := by
  unfold scanPassRecord
  repeat' split
  all_goals simp

@[simp] theorem scanPassRecord_labelMap (i : SlotNo) (r : State × Bool) (w : WaitRecord) :
    (scanPassRecord i r w).1.labelMap = r.1.labelMap := by
  unfold scanPassRecord
  repeat' split
  all_goals simp

@[simp] theorem scanPassRecord_queues (i : SlotNo) (r : State × Bool) (w : WaitRecord) :
    (scanPassRecord i r w).1.queues = r.1.queues := by
  unfold scanPassRecord
  repeat' split
  all_goals simp

@[simp] theorem scanPassRecord_free (i : SlotNo) (r : State × Bool) (w : WaitRecord) :
    (scanPassRecord i r w).1.free = r.1.free := by
  unfold scanPassRecord
  repeat' split
  all_goals simp

@[simp] theorem scanPassRecord_rights (i : SlotNo) (r : State × Bool) (w : WaitRecord) :
    (scanPassRecord i r w).1.rights = r.1.rights := by
  unfold scanPassRecord
  repeat' split
  all_goals simp

@[simp] theorem scanPassRecord_alerts (i : SlotNo) (r : State × Bool) (w : WaitRecord) :
    (scanPassRecord i r w).1.alerts = r.1.alerts := by
  unfold scanPassRecord
  repeat' split
  all_goals simp

@[simp] theorem scanPassRecord_dropped (i : SlotNo) (r : State × Bool) (w : WaitRecord) :
    (scanPassRecord i r w).1.dropped = r.1.dropped := by
  unfold scanPassRecord
  repeat' split
  all_goals simp

@[simp] theorem scanPassRecord_indications (i : SlotNo) (r : State × Bool) (w : WaitRecord) :
    (scanPassRecord i r w).1.indications = r.1.indications := by
  unfold scanPassRecord
  repeat' split
  all_goals simp

@[simp] theorem scanPassRecord_poolMark (i : SlotNo) (r : State × Bool) (w : WaitRecord) :
    (scanPassRecord i r w).1.poolMark = r.1.poolMark := by
  unfold scanPassRecord
  repeat' split
  all_goals simp

@[simp] theorem scanPassRecord_timebase (i : SlotNo) (r : State × Bool) (w : WaitRecord) :
    (scanPassRecord i r w).1.timebase = r.1.timebase := by
  unfold scanPassRecord
  repeat' split
  all_goals simp

@[simp] theorem scanPassRecord_expiry (i : SlotNo) (r : State × Bool) (w : WaitRecord) :
    (scanPassRecord i r w).1.expiry = r.1.expiry := by
  unfold scanPassRecord
  repeat' split
  all_goals simp

/-! ### scanPass -/

@[simp] theorem scanPass_pending (i : SlotNo) (s : State) :
    (scanPass i s).1.pending = s.pending := foldl_keeps (g := fun r : State × Bool => r.1.pending) (fun a w => scanPassRecord_pending i a w) _ (s, false)

@[simp] theorem scanPass_resetn (i : SlotNo) (s : State) :
    (scanPass i s).1.resetn = s.resetn := foldl_keeps (g := fun r : State × Bool => r.1.resetn) (fun a w => scanPassRecord_resetn i a w) _ (s, false)

@[simp] theorem scanPass_straps (i : SlotNo) (s : State) :
    (scanPass i s).1.straps = s.straps := foldl_keeps (g := fun r : State × Bool => r.1.straps) (fun a w => scanPassRecord_straps i a w) _ (s, false)

@[simp] theorem scanPass_lineRate (i : SlotNo) (s : State) :
    (scanPass i s).1.lineRate = s.lineRate := foldl_keeps (g := fun r : State × Bool => r.1.lineRate) (fun a w => scanPassRecord_lineRate i a w) _ (s, false)

@[simp] theorem scanPass_searchStart (i : SlotNo) (s : State) :
    (scanPass i s).1.searchStart = s.searchStart := foldl_keeps (g := fun r : State × Bool => r.1.searchStart) (fun a w => scanPassRecord_searchStart i a w) _ (s, false)

@[simp] theorem scanPass_resetPending (i : SlotNo) (s : State) :
    (scanPass i s).1.resetPending = s.resetPending := foldl_keeps (g := fun r : State × Bool => r.1.resetPending) (fun a w => scanPassRecord_resetPending i a w) _ (s, false)

@[simp] theorem scanPass_labelMap (i : SlotNo) (s : State) :
    (scanPass i s).1.labelMap = s.labelMap := foldl_keeps (g := fun r : State × Bool => r.1.labelMap) (fun a w => scanPassRecord_labelMap i a w) _ (s, false)

@[simp] theorem scanPass_queues (i : SlotNo) (s : State) :
    (scanPass i s).1.queues = s.queues := foldl_keeps (g := fun r : State × Bool => r.1.queues) (fun a w => scanPassRecord_queues i a w) _ (s, false)

@[simp] theorem scanPass_free (i : SlotNo) (s : State) :
    (scanPass i s).1.free = s.free := foldl_keeps (g := fun r : State × Bool => r.1.free) (fun a w => scanPassRecord_free i a w) _ (s, false)

@[simp] theorem scanPass_rights (i : SlotNo) (s : State) :
    (scanPass i s).1.rights = s.rights := foldl_keeps (g := fun r : State × Bool => r.1.rights) (fun a w => scanPassRecord_rights i a w) _ (s, false)

@[simp] theorem scanPass_alerts (i : SlotNo) (s : State) :
    (scanPass i s).1.alerts = s.alerts := foldl_keeps (g := fun r : State × Bool => r.1.alerts) (fun a w => scanPassRecord_alerts i a w) _ (s, false)

@[simp] theorem scanPass_dropped (i : SlotNo) (s : State) :
    (scanPass i s).1.dropped = s.dropped := foldl_keeps (g := fun r : State × Bool => r.1.dropped) (fun a w => scanPassRecord_dropped i a w) _ (s, false)

@[simp] theorem scanPass_indications (i : SlotNo) (s : State) :
    (scanPass i s).1.indications = s.indications := foldl_keeps (g := fun r : State × Bool => r.1.indications) (fun a w => scanPassRecord_indications i a w) _ (s, false)

@[simp] theorem scanPass_poolMark (i : SlotNo) (s : State) :
    (scanPass i s).1.poolMark = s.poolMark := foldl_keeps (g := fun r : State × Bool => r.1.poolMark) (fun a w => scanPassRecord_poolMark i a w) _ (s, false)

@[simp] theorem scanPass_timebase (i : SlotNo) (s : State) :
    (scanPass i s).1.timebase = s.timebase := foldl_keeps (g := fun r : State × Bool => r.1.timebase) (fun a w => scanPassRecord_timebase i a w) _ (s, false)

@[simp] theorem scanPass_expiry (i : SlotNo) (s : State) :
    (scanPass i s).1.expiry = s.expiry := foldl_keeps (g := fun r : State × Bool => r.1.expiry) (fun a w => scanPassRecord_expiry i a w) _ (s, false)

/-! ### scanPasses -/

@[simp] theorem scanPasses_pending (i : SlotNo) (n : Nat) (s : State) :
    (scanPasses i n s).pending = s.pending := by
  induction n generalizing s with
  | zero => rfl
  | succ n ih =>
    unfold scanPasses
    split
    · next s' h => rw [ih, ← scanPass_pending i s, h]
    · next s' h => rw [← scanPass_pending i s, h]

@[simp] theorem scanPasses_resetn (i : SlotNo) (n : Nat) (s : State) :
    (scanPasses i n s).resetn = s.resetn := by
  induction n generalizing s with
  | zero => rfl
  | succ n ih =>
    unfold scanPasses
    split
    · next s' h => rw [ih, ← scanPass_resetn i s, h]
    · next s' h => rw [← scanPass_resetn i s, h]

@[simp] theorem scanPasses_straps (i : SlotNo) (n : Nat) (s : State) :
    (scanPasses i n s).straps = s.straps := by
  induction n generalizing s with
  | zero => rfl
  | succ n ih =>
    unfold scanPasses
    split
    · next s' h => rw [ih, ← scanPass_straps i s, h]
    · next s' h => rw [← scanPass_straps i s, h]

@[simp] theorem scanPasses_lineRate (i : SlotNo) (n : Nat) (s : State) :
    (scanPasses i n s).lineRate = s.lineRate := by
  induction n generalizing s with
  | zero => rfl
  | succ n ih =>
    unfold scanPasses
    split
    · next s' h => rw [ih, ← scanPass_lineRate i s, h]
    · next s' h => rw [← scanPass_lineRate i s, h]

@[simp] theorem scanPasses_searchStart (i : SlotNo) (n : Nat) (s : State) :
    (scanPasses i n s).searchStart = s.searchStart := by
  induction n generalizing s with
  | zero => rfl
  | succ n ih =>
    unfold scanPasses
    split
    · next s' h => rw [ih, ← scanPass_searchStart i s, h]
    · next s' h => rw [← scanPass_searchStart i s, h]

@[simp] theorem scanPasses_resetPending (i : SlotNo) (n : Nat) (s : State) :
    (scanPasses i n s).resetPending = s.resetPending := by
  induction n generalizing s with
  | zero => rfl
  | succ n ih =>
    unfold scanPasses
    split
    · next s' h => rw [ih, ← scanPass_resetPending i s, h]
    · next s' h => rw [← scanPass_resetPending i s, h]

@[simp] theorem scanPasses_labelMap (i : SlotNo) (n : Nat) (s : State) :
    (scanPasses i n s).labelMap = s.labelMap := by
  induction n generalizing s with
  | zero => rfl
  | succ n ih =>
    unfold scanPasses
    split
    · next s' h => rw [ih, ← scanPass_labelMap i s, h]
    · next s' h => rw [← scanPass_labelMap i s, h]

@[simp] theorem scanPasses_queues (i : SlotNo) (n : Nat) (s : State) :
    (scanPasses i n s).queues = s.queues := by
  induction n generalizing s with
  | zero => rfl
  | succ n ih =>
    unfold scanPasses
    split
    · next s' h => rw [ih, ← scanPass_queues i s, h]
    · next s' h => rw [← scanPass_queues i s, h]

@[simp] theorem scanPasses_free (i : SlotNo) (n : Nat) (s : State) :
    (scanPasses i n s).free = s.free := by
  induction n generalizing s with
  | zero => rfl
  | succ n ih =>
    unfold scanPasses
    split
    · next s' h => rw [ih, ← scanPass_free i s, h]
    · next s' h => rw [← scanPass_free i s, h]

@[simp] theorem scanPasses_rights (i : SlotNo) (n : Nat) (s : State) :
    (scanPasses i n s).rights = s.rights := by
  induction n generalizing s with
  | zero => rfl
  | succ n ih =>
    unfold scanPasses
    split
    · next s' h => rw [ih, ← scanPass_rights i s, h]
    · next s' h => rw [← scanPass_rights i s, h]

@[simp] theorem scanPasses_alerts (i : SlotNo) (n : Nat) (s : State) :
    (scanPasses i n s).alerts = s.alerts := by
  induction n generalizing s with
  | zero => rfl
  | succ n ih =>
    unfold scanPasses
    split
    · next s' h => rw [ih, ← scanPass_alerts i s, h]
    · next s' h => rw [← scanPass_alerts i s, h]

@[simp] theorem scanPasses_dropped (i : SlotNo) (n : Nat) (s : State) :
    (scanPasses i n s).dropped = s.dropped := by
  induction n generalizing s with
  | zero => rfl
  | succ n ih =>
    unfold scanPasses
    split
    · next s' h => rw [ih, ← scanPass_dropped i s, h]
    · next s' h => rw [← scanPass_dropped i s, h]

@[simp] theorem scanPasses_indications (i : SlotNo) (n : Nat) (s : State) :
    (scanPasses i n s).indications = s.indications := by
  induction n generalizing s with
  | zero => rfl
  | succ n ih =>
    unfold scanPasses
    split
    · next s' h => rw [ih, ← scanPass_indications i s, h]
    · next s' h => rw [← scanPass_indications i s, h]

@[simp] theorem scanPasses_poolMark (i : SlotNo) (n : Nat) (s : State) :
    (scanPasses i n s).poolMark = s.poolMark := by
  induction n generalizing s with
  | zero => rfl
  | succ n ih =>
    unfold scanPasses
    split
    · next s' h => rw [ih, ← scanPass_poolMark i s, h]
    · next s' h => rw [← scanPass_poolMark i s, h]

@[simp] theorem scanPasses_timebase (i : SlotNo) (n : Nat) (s : State) :
    (scanPasses i n s).timebase = s.timebase := by
  induction n generalizing s with
  | zero => rfl
  | succ n ih =>
    unfold scanPasses
    split
    · next s' h => rw [ih, ← scanPass_timebase i s, h]
    · next s' h => rw [← scanPass_timebase i s, h]

@[simp] theorem scanPasses_expiry (i : SlotNo) (n : Nat) (s : State) :
    (scanPasses i n s).expiry = s.expiry := by
  induction n generalizing s with
  | zero => rfl
  | succ n ih =>
    unfold scanPasses
    split
    · next s' h => rw [ih, ← scanPass_expiry i s, h]
    · next s' h => rw [← scanPass_expiry i s, h]

/-! ### scan -/

@[simp] theorem State.scan_pending (s : State) (i : SlotNo) :
    (s.scan i).pending = s.pending := by
  unfold State.scan
  repeat' split
  all_goals simp

@[simp] theorem State.scan_resetn (s : State) (i : SlotNo) :
    (s.scan i).resetn = s.resetn := by
  unfold State.scan
  repeat' split
  all_goals simp

@[simp] theorem State.scan_straps (s : State) (i : SlotNo) :
    (s.scan i).straps = s.straps := by
  unfold State.scan
  repeat' split
  all_goals simp

@[simp] theorem State.scan_lineRate (s : State) (i : SlotNo) :
    (s.scan i).lineRate = s.lineRate := by
  unfold State.scan
  repeat' split
  all_goals simp

@[simp] theorem State.scan_searchStart (s : State) (i : SlotNo) :
    (s.scan i).searchStart = s.searchStart := by
  unfold State.scan
  repeat' split
  all_goals simp

@[simp] theorem State.scan_resetPending (s : State) (i : SlotNo) :
    (s.scan i).resetPending = s.resetPending := by
  unfold State.scan
  repeat' split
  all_goals simp

@[simp] theorem State.scan_labelMap (s : State) (i : SlotNo) :
    (s.scan i).labelMap = s.labelMap := by
  unfold State.scan
  repeat' split
  all_goals simp

@[simp] theorem State.scan_queues (s : State) (i : SlotNo) :
    (s.scan i).queues = s.queues := by
  unfold State.scan
  repeat' split
  all_goals simp

@[simp] theorem State.scan_free (s : State) (i : SlotNo) :
    (s.scan i).free = s.free := by
  unfold State.scan
  repeat' split
  all_goals simp

@[simp] theorem State.scan_rights (s : State) (i : SlotNo) :
    (s.scan i).rights = s.rights := by
  unfold State.scan
  repeat' split
  all_goals simp

@[simp] theorem State.scan_alerts (s : State) (i : SlotNo) :
    (s.scan i).alerts = s.alerts := by
  unfold State.scan
  repeat' split
  all_goals simp

@[simp] theorem State.scan_dropped (s : State) (i : SlotNo) :
    (s.scan i).dropped = s.dropped := by
  unfold State.scan
  repeat' split
  all_goals simp

@[simp] theorem State.scan_indications (s : State) (i : SlotNo) :
    (s.scan i).indications = s.indications := by
  unfold State.scan
  repeat' split
  all_goals simp

@[simp] theorem State.scan_poolMark (s : State) (i : SlotNo) :
    (s.scan i).poolMark = s.poolMark := by
  unfold State.scan
  repeat' split
  all_goals simp

@[simp] theorem State.scan_timebase (s : State) (i : SlotNo) :
    (s.scan i).timebase = s.timebase := by
  unfold State.scan
  repeat' split
  all_goals simp

@[simp] theorem State.scan_expiry (s : State) (i : SlotNo) :
    (s.scan i).expiry = s.expiry := by
  unfold State.scan
  repeat' split
  all_goals simp

/-! ### scanIf -/

@[simp] theorem State.scanIf_pending (s : State) (c : Option SlotNo) :
    (s.scanIf c).pending = s.pending := by
  unfold State.scanIf
  split <;> simp

@[simp] theorem State.scanIf_resetn (s : State) (c : Option SlotNo) :
    (s.scanIf c).resetn = s.resetn := by
  unfold State.scanIf
  split <;> simp

@[simp] theorem State.scanIf_straps (s : State) (c : Option SlotNo) :
    (s.scanIf c).straps = s.straps := by
  unfold State.scanIf
  split <;> simp

@[simp] theorem State.scanIf_lineRate (s : State) (c : Option SlotNo) :
    (s.scanIf c).lineRate = s.lineRate := by
  unfold State.scanIf
  split <;> simp

@[simp] theorem State.scanIf_searchStart (s : State) (c : Option SlotNo) :
    (s.scanIf c).searchStart = s.searchStart := by
  unfold State.scanIf
  split <;> simp

@[simp] theorem State.scanIf_resetPending (s : State) (c : Option SlotNo) :
    (s.scanIf c).resetPending = s.resetPending := by
  unfold State.scanIf
  split <;> simp

@[simp] theorem State.scanIf_labelMap (s : State) (c : Option SlotNo) :
    (s.scanIf c).labelMap = s.labelMap := by
  unfold State.scanIf
  split <;> simp

@[simp] theorem State.scanIf_queues (s : State) (c : Option SlotNo) :
    (s.scanIf c).queues = s.queues := by
  unfold State.scanIf
  split <;> simp

@[simp] theorem State.scanIf_free (s : State) (c : Option SlotNo) :
    (s.scanIf c).free = s.free := by
  unfold State.scanIf
  split <;> simp

@[simp] theorem State.scanIf_rights (s : State) (c : Option SlotNo) :
    (s.scanIf c).rights = s.rights := by
  unfold State.scanIf
  split <;> simp

@[simp] theorem State.scanIf_alerts (s : State) (c : Option SlotNo) :
    (s.scanIf c).alerts = s.alerts := by
  unfold State.scanIf
  split <;> simp

@[simp] theorem State.scanIf_dropped (s : State) (c : Option SlotNo) :
    (s.scanIf c).dropped = s.dropped := by
  unfold State.scanIf
  split <;> simp

@[simp] theorem State.scanIf_indications (s : State) (c : Option SlotNo) :
    (s.scanIf c).indications = s.indications := by
  unfold State.scanIf
  split <;> simp

@[simp] theorem State.scanIf_poolMark (s : State) (c : Option SlotNo) :
    (s.scanIf c).poolMark = s.poolMark := by
  unfold State.scanIf
  split <;> simp

@[simp] theorem State.scanIf_timebase (s : State) (c : Option SlotNo) :
    (s.scanIf c).timebase = s.timebase := by
  unfold State.scanIf
  split <;> simp

@[simp] theorem State.scanIf_expiry (s : State) (c : Option SlotNo) :
    (s.scanIf c).expiry = s.expiry := by
  unfold State.scanIf
  split <;> simp

/-! ### serveReentry -/

@[simp] theorem serveReentry_pending (i : SlotNo) (s : State) (w : WaitRecord) :
    (serveReentry i s w).pending = s.pending := by
  unfold serveReentry
  repeat' split
  all_goals simp

@[simp] theorem serveReentry_resetn (i : SlotNo) (s : State) (w : WaitRecord) :
    (serveReentry i s w).resetn = s.resetn := by
  unfold serveReentry
  repeat' split
  all_goals simp

@[simp] theorem serveReentry_straps (i : SlotNo) (s : State) (w : WaitRecord) :
    (serveReentry i s w).straps = s.straps := by
  unfold serveReentry
  repeat' split
  all_goals simp

@[simp] theorem serveReentry_lineRate (i : SlotNo) (s : State) (w : WaitRecord) :
    (serveReentry i s w).lineRate = s.lineRate := by
  unfold serveReentry
  repeat' split
  all_goals simp

@[simp] theorem serveReentry_searchStart (i : SlotNo) (s : State) (w : WaitRecord) :
    (serveReentry i s w).searchStart = s.searchStart := by
  unfold serveReentry
  repeat' split
  all_goals simp

@[simp] theorem serveReentry_resetPending (i : SlotNo) (s : State) (w : WaitRecord) :
    (serveReentry i s w).resetPending = s.resetPending := by
  unfold serveReentry
  repeat' split
  all_goals simp

@[simp] theorem serveReentry_labelMap (i : SlotNo) (s : State) (w : WaitRecord) :
    (serveReentry i s w).labelMap = s.labelMap := by
  unfold serveReentry
  repeat' split
  all_goals simp

@[simp] theorem serveReentry_queues (i : SlotNo) (s : State) (w : WaitRecord) :
    (serveReentry i s w).queues = s.queues := by
  unfold serveReentry
  repeat' split
  all_goals simp

@[simp] theorem serveReentry_free (i : SlotNo) (s : State) (w : WaitRecord) :
    (serveReentry i s w).free = s.free := by
  unfold serveReentry
  repeat' split
  all_goals simp

@[simp] theorem serveReentry_rights (i : SlotNo) (s : State) (w : WaitRecord) :
    (serveReentry i s w).rights = s.rights := by
  unfold serveReentry
  repeat' split
  all_goals simp

@[simp] theorem serveReentry_alerts (i : SlotNo) (s : State) (w : WaitRecord) :
    (serveReentry i s w).alerts = s.alerts := by
  unfold serveReentry
  repeat' split
  all_goals simp

@[simp] theorem serveReentry_dropped (i : SlotNo) (s : State) (w : WaitRecord) :
    (serveReentry i s w).dropped = s.dropped := by
  unfold serveReentry
  repeat' split
  all_goals simp

@[simp] theorem serveReentry_indications (i : SlotNo) (s : State) (w : WaitRecord) :
    (serveReentry i s w).indications = s.indications := by
  unfold serveReentry
  repeat' split
  all_goals simp

@[simp] theorem serveReentry_poolMark (i : SlotNo) (s : State) (w : WaitRecord) :
    (serveReentry i s w).poolMark = s.poolMark := by
  unfold serveReentry
  repeat' split
  all_goals simp

@[simp] theorem serveReentry_timebase (i : SlotNo) (s : State) (w : WaitRecord) :
    (serveReentry i s w).timebase = s.timebase := by
  unfold serveReentry
  repeat' split
  all_goals simp

@[simp] theorem serveReentry_expiry (i : SlotNo) (s : State) (w : WaitRecord) :
    (serveReentry i s w).expiry = s.expiry := by
  unfold serveReentry
  repeat' split
  all_goals simp

/-! ### assignLock -/

@[simp] theorem State.assignLock_pending (s : State) (i : SlotNo) (r : ObjectRecord) (d : Bool) (w : WaitRecord) :
    (s.assignLock i r d w).pending = s.pending := by
  simp [State.assignLock]

@[simp] theorem State.assignLock_resetn (s : State) (i : SlotNo) (r : ObjectRecord) (d : Bool) (w : WaitRecord) :
    (s.assignLock i r d w).resetn = s.resetn := by
  simp [State.assignLock]

@[simp] theorem State.assignLock_straps (s : State) (i : SlotNo) (r : ObjectRecord) (d : Bool) (w : WaitRecord) :
    (s.assignLock i r d w).straps = s.straps := by
  simp [State.assignLock]

@[simp] theorem State.assignLock_lineRate (s : State) (i : SlotNo) (r : ObjectRecord) (d : Bool) (w : WaitRecord) :
    (s.assignLock i r d w).lineRate = s.lineRate := by
  simp [State.assignLock]

@[simp] theorem State.assignLock_ports (s : State) (i : SlotNo) (r : ObjectRecord) (d : Bool) (w : WaitRecord) :
    (s.assignLock i r d w).ports = s.ports := by
  simp [State.assignLock]

@[simp] theorem State.assignLock_searchStart (s : State) (i : SlotNo) (r : ObjectRecord) (d : Bool) (w : WaitRecord) :
    (s.assignLock i r d w).searchStart = s.searchStart := by
  simp [State.assignLock]

@[simp] theorem State.assignLock_resetPending (s : State) (i : SlotNo) (r : ObjectRecord) (d : Bool) (w : WaitRecord) :
    (s.assignLock i r d w).resetPending = s.resetPending := by
  simp [State.assignLock]

@[simp] theorem State.assignLock_labelMap (s : State) (i : SlotNo) (r : ObjectRecord) (d : Bool) (w : WaitRecord) :
    (s.assignLock i r d w).labelMap = s.labelMap := by
  simp [State.assignLock]

@[simp] theorem State.assignLock_queues (s : State) (i : SlotNo) (r : ObjectRecord) (d : Bool) (w : WaitRecord) :
    (s.assignLock i r d w).queues = s.queues := by
  simp [State.assignLock]

@[simp] theorem State.assignLock_free (s : State) (i : SlotNo) (r : ObjectRecord) (d : Bool) (w : WaitRecord) :
    (s.assignLock i r d w).free = s.free := by
  simp [State.assignLock]

@[simp] theorem State.assignLock_rights (s : State) (i : SlotNo) (r : ObjectRecord) (d : Bool) (w : WaitRecord) :
    (s.assignLock i r d w).rights = s.rights := by
  simp [State.assignLock]

@[simp] theorem State.assignLock_alerts (s : State) (i : SlotNo) (r : ObjectRecord) (d : Bool) (w : WaitRecord) :
    (s.assignLock i r d w).alerts = s.alerts := by
  simp [State.assignLock]

@[simp] theorem State.assignLock_dropped (s : State) (i : SlotNo) (r : ObjectRecord) (d : Bool) (w : WaitRecord) :
    (s.assignLock i r d w).dropped = s.dropped := by
  simp [State.assignLock]

@[simp] theorem State.assignLock_indications (s : State) (i : SlotNo) (r : ObjectRecord) (d : Bool) (w : WaitRecord) :
    (s.assignLock i r d w).indications = s.indications := by
  simp [State.assignLock]

@[simp] theorem State.assignLock_poolMark (s : State) (i : SlotNo) (r : ObjectRecord) (d : Bool) (w : WaitRecord) :
    (s.assignLock i r d w).poolMark = s.poolMark := by
  simp [State.assignLock]

@[simp] theorem State.assignLock_timebase (s : State) (i : SlotNo) (r : ObjectRecord) (d : Bool) (w : WaitRecord) :
    (s.assignLock i r d w).timebase = s.timebase := by
  simp [State.assignLock]

@[simp] theorem State.assignLock_expiry (s : State) (i : SlotNo) (r : ObjectRecord) (d : Bool) (w : WaitRecord) :
    (s.assignLock i r d w).expiry = s.expiry := by
  simp [State.assignLock]

/-! ### replyHandOff -/

@[simp] theorem State.replyHandOff_pending (s : State) (i : SlotNo) (d : Bool) (w : WaitRecord) :
    (s.replyHandOff i d w).pending = s.pending := by
  unfold State.replyHandOff
  exact (foldl_keeps (g := fun r : State => r.pending) (fun a w => serveReentry_pending i a w) _ _).trans (State.complete_pending _ _ _ _)

@[simp] theorem State.replyHandOff_resetn (s : State) (i : SlotNo) (d : Bool) (w : WaitRecord) :
    (s.replyHandOff i d w).resetn = s.resetn := by
  unfold State.replyHandOff
  exact (foldl_keeps (g := fun r : State => r.resetn) (fun a w => serveReentry_resetn i a w) _ _).trans (State.complete_resetn _ _ _ _)

@[simp] theorem State.replyHandOff_straps (s : State) (i : SlotNo) (d : Bool) (w : WaitRecord) :
    (s.replyHandOff i d w).straps = s.straps := by
  unfold State.replyHandOff
  exact (foldl_keeps (g := fun r : State => r.straps) (fun a w => serveReentry_straps i a w) _ _).trans (State.complete_straps _ _ _ _)

@[simp] theorem State.replyHandOff_lineRate (s : State) (i : SlotNo) (d : Bool) (w : WaitRecord) :
    (s.replyHandOff i d w).lineRate = s.lineRate := by
  unfold State.replyHandOff
  exact (foldl_keeps (g := fun r : State => r.lineRate) (fun a w => serveReentry_lineRate i a w) _ _).trans (State.complete_lineRate _ _ _ _)

@[simp] theorem State.replyHandOff_searchStart (s : State) (i : SlotNo) (d : Bool) (w : WaitRecord) :
    (s.replyHandOff i d w).searchStart = s.searchStart := by
  unfold State.replyHandOff
  exact (foldl_keeps (g := fun r : State => r.searchStart) (fun a w => serveReentry_searchStart i a w) _ _).trans (State.complete_searchStart _ _ _ _)

@[simp] theorem State.replyHandOff_resetPending (s : State) (i : SlotNo) (d : Bool) (w : WaitRecord) :
    (s.replyHandOff i d w).resetPending = s.resetPending := by
  unfold State.replyHandOff
  exact (foldl_keeps (g := fun r : State => r.resetPending) (fun a w => serveReentry_resetPending i a w) _ _).trans (State.complete_resetPending _ _ _ _)

@[simp] theorem State.replyHandOff_labelMap (s : State) (i : SlotNo) (d : Bool) (w : WaitRecord) :
    (s.replyHandOff i d w).labelMap = s.labelMap := by
  unfold State.replyHandOff
  exact (foldl_keeps (g := fun r : State => r.labelMap) (fun a w => serveReentry_labelMap i a w) _ _).trans (State.complete_labelMap _ _ _ _)

@[simp] theorem State.replyHandOff_queues (s : State) (i : SlotNo) (d : Bool) (w : WaitRecord) :
    (s.replyHandOff i d w).queues = s.queues := by
  unfold State.replyHandOff
  exact (foldl_keeps (g := fun r : State => r.queues) (fun a w => serveReentry_queues i a w) _ _).trans (State.complete_queues _ _ _ _)

@[simp] theorem State.replyHandOff_free (s : State) (i : SlotNo) (d : Bool) (w : WaitRecord) :
    (s.replyHandOff i d w).free = s.free := by
  unfold State.replyHandOff
  exact (foldl_keeps (g := fun r : State => r.free) (fun a w => serveReentry_free i a w) _ _).trans (State.complete_free _ _ _ _)

@[simp] theorem State.replyHandOff_rights (s : State) (i : SlotNo) (d : Bool) (w : WaitRecord) :
    (s.replyHandOff i d w).rights = s.rights := by
  unfold State.replyHandOff
  exact (foldl_keeps (g := fun r : State => r.rights) (fun a w => serveReentry_rights i a w) _ _).trans (State.complete_rights _ _ _ _)

@[simp] theorem State.replyHandOff_alerts (s : State) (i : SlotNo) (d : Bool) (w : WaitRecord) :
    (s.replyHandOff i d w).alerts = s.alerts := by
  unfold State.replyHandOff
  exact (foldl_keeps (g := fun r : State => r.alerts) (fun a w => serveReentry_alerts i a w) _ _).trans (State.complete_alerts _ _ _ _)

@[simp] theorem State.replyHandOff_dropped (s : State) (i : SlotNo) (d : Bool) (w : WaitRecord) :
    (s.replyHandOff i d w).dropped = s.dropped := by
  unfold State.replyHandOff
  exact (foldl_keeps (g := fun r : State => r.dropped) (fun a w => serveReentry_dropped i a w) _ _).trans (State.complete_dropped _ _ _ _)

@[simp] theorem State.replyHandOff_indications (s : State) (i : SlotNo) (d : Bool) (w : WaitRecord) :
    (s.replyHandOff i d w).indications = s.indications := by
  unfold State.replyHandOff
  exact (foldl_keeps (g := fun r : State => r.indications) (fun a w => serveReentry_indications i a w) _ _).trans (State.complete_indications _ _ _ _)

@[simp] theorem State.replyHandOff_poolMark (s : State) (i : SlotNo) (d : Bool) (w : WaitRecord) :
    (s.replyHandOff i d w).poolMark = s.poolMark := by
  unfold State.replyHandOff
  exact (foldl_keeps (g := fun r : State => r.poolMark) (fun a w => serveReentry_poolMark i a w) _ _).trans (State.complete_poolMark _ _ _ _)

@[simp] theorem State.replyHandOff_timebase (s : State) (i : SlotNo) (d : Bool) (w : WaitRecord) :
    (s.replyHandOff i d w).timebase = s.timebase := by
  unfold State.replyHandOff
  exact (foldl_keeps (g := fun r : State => r.timebase) (fun a w => serveReentry_timebase i a w) _ _).trans (State.complete_timebase _ _ _ _)

@[simp] theorem State.replyHandOff_expiry (s : State) (i : SlotNo) (d : Bool) (w : WaitRecord) :
    (s.replyHandOff i d w).expiry = s.expiry := by
  unfold State.replyHandOff
  exact (foldl_keeps (g := fun r : State => r.expiry) (fun a w => serveReentry_expiry i a w) _ _).trans (State.complete_expiry _ _ _ _)

/-! ### quarantineKind -/

@[simp] theorem State.quarantineKind_pending (s : State) (i : SlotNo) (r : ObjectRecord) :
    (s.quarantineKind i r).pending = s.pending := by
  unfold State.quarantineKind
  repeat' split
  all_goals rfl

@[simp] theorem State.quarantineKind_resetn (s : State) (i : SlotNo) (r : ObjectRecord) :
    (s.quarantineKind i r).resetn = s.resetn := by
  unfold State.quarantineKind
  repeat' split
  all_goals rfl

@[simp] theorem State.quarantineKind_straps (s : State) (i : SlotNo) (r : ObjectRecord) :
    (s.quarantineKind i r).straps = s.straps := by
  unfold State.quarantineKind
  repeat' split
  all_goals rfl

@[simp] theorem State.quarantineKind_lineRate (s : State) (i : SlotNo) (r : ObjectRecord) :
    (s.quarantineKind i r).lineRate = s.lineRate := by
  unfold State.quarantineKind
  repeat' split
  all_goals rfl

@[simp] theorem State.quarantineKind_ports (s : State) (i : SlotNo) (r : ObjectRecord) :
    (s.quarantineKind i r).ports = s.ports := by
  unfold State.quarantineKind
  repeat' split
  all_goals rfl

@[simp] theorem State.quarantineKind_searchStart (s : State) (i : SlotNo) (r : ObjectRecord) :
    (s.quarantineKind i r).searchStart = s.searchStart := by
  unfold State.quarantineKind
  repeat' split
  all_goals rfl

@[simp] theorem State.quarantineKind_resetPending (s : State) (i : SlotNo) (r : ObjectRecord) :
    (s.quarantineKind i r).resetPending = s.resetPending := by
  unfold State.quarantineKind
  repeat' split
  all_goals rfl

@[simp] theorem State.quarantineKind_labelMap (s : State) (i : SlotNo) (r : ObjectRecord) :
    (s.quarantineKind i r).labelMap = s.labelMap := by
  unfold State.quarantineKind
  repeat' split
  all_goals rfl

@[simp] theorem State.quarantineKind_waits (s : State) (i : SlotNo) (r : ObjectRecord) :
    (s.quarantineKind i r).waits = s.waits := by
  unfold State.quarantineKind
  repeat' split
  all_goals rfl

@[simp] theorem State.quarantineKind_free (s : State) (i : SlotNo) (r : ObjectRecord) :
    (s.quarantineKind i r).free = s.free := by
  unfold State.quarantineKind
  repeat' split
  all_goals rfl

@[simp] theorem State.quarantineKind_rights (s : State) (i : SlotNo) (r : ObjectRecord) :
    (s.quarantineKind i r).rights = s.rights := by
  unfold State.quarantineKind
  repeat' split
  all_goals rfl

@[simp] theorem State.quarantineKind_alerts (s : State) (i : SlotNo) (r : ObjectRecord) :
    (s.quarantineKind i r).alerts = s.alerts := by
  unfold State.quarantineKind
  repeat' split
  all_goals rfl

@[simp] theorem State.quarantineKind_dropped (s : State) (i : SlotNo) (r : ObjectRecord) :
    (s.quarantineKind i r).dropped = s.dropped := by
  unfold State.quarantineKind
  repeat' split
  all_goals rfl

@[simp] theorem State.quarantineKind_indications (s : State) (i : SlotNo) (r : ObjectRecord) :
    (s.quarantineKind i r).indications = s.indications := by
  unfold State.quarantineKind
  repeat' split
  all_goals rfl

@[simp] theorem State.quarantineKind_poolMark (s : State) (i : SlotNo) (r : ObjectRecord) :
    (s.quarantineKind i r).poolMark = s.poolMark := by
  unfold State.quarantineKind
  repeat' split
  all_goals rfl

@[simp] theorem State.quarantineKind_timebase (s : State) (i : SlotNo) (r : ObjectRecord) :
    (s.quarantineKind i r).timebase = s.timebase := by
  unfold State.quarantineKind
  repeat' split
  all_goals rfl

@[simp] theorem State.quarantineKind_deadlines (s : State) (i : SlotNo) (r : ObjectRecord) :
    (s.quarantineKind i r).deadlines = s.deadlines := by
  unfold State.quarantineKind
  repeat' split
  all_goals rfl

@[simp] theorem State.quarantineKind_expiry (s : State) (i : SlotNo) (r : ObjectRecord) :
    (s.quarantineKind i r).expiry = s.expiry := by
  unfold State.quarantineKind
  repeat' split
  all_goals rfl

/-! ### appendAlert -/

@[simp] theorem State.appendAlert_pending (s : State) (k : AlertKind) :
    (s.appendAlert k).pending = s.pending := by
  unfold State.appendAlert
  split <;> rfl

@[simp] theorem State.appendAlert_resetn (s : State) (k : AlertKind) :
    (s.appendAlert k).resetn = s.resetn := by
  unfold State.appendAlert
  split <;> rfl

@[simp] theorem State.appendAlert_straps (s : State) (k : AlertKind) :
    (s.appendAlert k).straps = s.straps := by
  unfold State.appendAlert
  split <;> rfl

@[simp] theorem State.appendAlert_lineRate (s : State) (k : AlertKind) :
    (s.appendAlert k).lineRate = s.lineRate := by
  unfold State.appendAlert
  split <;> rfl

@[simp] theorem State.appendAlert_ports (s : State) (k : AlertKind) :
    (s.appendAlert k).ports = s.ports := by
  unfold State.appendAlert
  split <;> rfl

@[simp] theorem State.appendAlert_searchStart (s : State) (k : AlertKind) :
    (s.appendAlert k).searchStart = s.searchStart := by
  unfold State.appendAlert
  split <;> rfl

@[simp] theorem State.appendAlert_resetPending (s : State) (k : AlertKind) :
    (s.appendAlert k).resetPending = s.resetPending := by
  unfold State.appendAlert
  split <;> rfl

@[simp] theorem State.appendAlert_slots (s : State) (k : AlertKind) :
    (s.appendAlert k).slots = s.slots := by
  unfold State.appendAlert
  split <;> rfl

@[simp] theorem State.appendAlert_labelMap (s : State) (k : AlertKind) :
    (s.appendAlert k).labelMap = s.labelMap := by
  unfold State.appendAlert
  split <;> rfl

@[simp] theorem State.appendAlert_waits (s : State) (k : AlertKind) :
    (s.appendAlert k).waits = s.waits := by
  unfold State.appendAlert
  split <;> rfl

@[simp] theorem State.appendAlert_queues (s : State) (k : AlertKind) :
    (s.appendAlert k).queues = s.queues := by
  unfold State.appendAlert
  split <;> rfl

@[simp] theorem State.appendAlert_free (s : State) (k : AlertKind) :
    (s.appendAlert k).free = s.free := by
  unfold State.appendAlert
  split <;> rfl

@[simp] theorem State.appendAlert_rights (s : State) (k : AlertKind) :
    (s.appendAlert k).rights = s.rights := by
  unfold State.appendAlert
  split <;> rfl

@[simp] theorem State.appendAlert_poolMark (s : State) (k : AlertKind) :
    (s.appendAlert k).poolMark = s.poolMark := by
  unfold State.appendAlert
  split <;> rfl

@[simp] theorem State.appendAlert_timebase (s : State) (k : AlertKind) :
    (s.appendAlert k).timebase = s.timebase := by
  unfold State.appendAlert
  split <;> rfl

@[simp] theorem State.appendAlert_deadlines (s : State) (k : AlertKind) :
    (s.appendAlert k).deadlines = s.deadlines := by
  unfold State.appendAlert
  split <;> rfl

@[simp] theorem State.appendAlert_expiry (s : State) (k : AlertKind) :
    (s.appendAlert k).expiry = s.expiry := by
  unfold State.appendAlert
  split <;> rfl

/-! ### quarantine -/

@[simp] theorem State.quarantine_pending (s : State) (i : SlotNo) (r : ObjectRecord) :
    (s.quarantine i r).pending = s.pending := by
  simp [State.quarantine]

@[simp] theorem State.quarantine_resetn (s : State) (i : SlotNo) (r : ObjectRecord) :
    (s.quarantine i r).resetn = s.resetn := by
  simp [State.quarantine]

@[simp] theorem State.quarantine_straps (s : State) (i : SlotNo) (r : ObjectRecord) :
    (s.quarantine i r).straps = s.straps := by
  simp [State.quarantine]

@[simp] theorem State.quarantine_lineRate (s : State) (i : SlotNo) (r : ObjectRecord) :
    (s.quarantine i r).lineRate = s.lineRate := by
  simp [State.quarantine]

@[simp] theorem State.quarantine_searchStart (s : State) (i : SlotNo) (r : ObjectRecord) :
    (s.quarantine i r).searchStart = s.searchStart := by
  simp [State.quarantine]

@[simp] theorem State.quarantine_resetPending (s : State) (i : SlotNo) (r : ObjectRecord) :
    (s.quarantine i r).resetPending = s.resetPending := by
  simp [State.quarantine]

@[simp] theorem State.quarantine_labelMap (s : State) (i : SlotNo) (r : ObjectRecord) :
    (s.quarantine i r).labelMap = s.labelMap := by
  simp [State.quarantine]

@[simp] theorem State.quarantine_free (s : State) (i : SlotNo) (r : ObjectRecord) :
    (s.quarantine i r).free = s.free := by
  simp [State.quarantine]

@[simp] theorem State.quarantine_rights (s : State) (i : SlotNo) (r : ObjectRecord) :
    (s.quarantine i r).rights = s.rights := by
  simp [State.quarantine]

@[simp] theorem State.quarantine_poolMark (s : State) (i : SlotNo) (r : ObjectRecord) :
    (s.quarantine i r).poolMark = s.poolMark := by
  simp [State.quarantine]

@[simp] theorem State.quarantine_timebase (s : State) (i : SlotNo) (r : ObjectRecord) :
    (s.quarantine i r).timebase = s.timebase := by
  simp [State.quarantine]

@[simp] theorem State.quarantine_expiry (s : State) (i : SlotNo) (r : ObjectRecord) :
    (s.quarantine i r).expiry = s.expiry := by
  simp [State.quarantine]

/-! ### dispose -/

@[simp] theorem State.dispose_pending (s : State) (i : SlotNo) :
    (s.dispose i).pending = s.pending := rfl

@[simp] theorem State.dispose_resetn (s : State) (i : SlotNo) :
    (s.dispose i).resetn = s.resetn := rfl

@[simp] theorem State.dispose_straps (s : State) (i : SlotNo) :
    (s.dispose i).straps = s.straps := rfl

@[simp] theorem State.dispose_lineRate (s : State) (i : SlotNo) :
    (s.dispose i).lineRate = s.lineRate := rfl

@[simp] theorem State.dispose_ports (s : State) (i : SlotNo) :
    (s.dispose i).ports = s.ports := rfl

@[simp] theorem State.dispose_searchStart (s : State) (i : SlotNo) :
    (s.dispose i).searchStart = s.searchStart := rfl

@[simp] theorem State.dispose_resetPending (s : State) (i : SlotNo) :
    (s.dispose i).resetPending = s.resetPending := rfl

@[simp] theorem State.dispose_waits (s : State) (i : SlotNo) :
    (s.dispose i).waits = s.waits := rfl

@[simp] theorem State.dispose_rights (s : State) (i : SlotNo) :
    (s.dispose i).rights = s.rights := rfl

@[simp] theorem State.dispose_alerts (s : State) (i : SlotNo) :
    (s.dispose i).alerts = s.alerts := rfl

@[simp] theorem State.dispose_dropped (s : State) (i : SlotNo) :
    (s.dispose i).dropped = s.dropped := rfl

@[simp] theorem State.dispose_indications (s : State) (i : SlotNo) :
    (s.dispose i).indications = s.indications := rfl

@[simp] theorem State.dispose_poolMark (s : State) (i : SlotNo) :
    (s.dispose i).poolMark = s.poolMark := rfl

@[simp] theorem State.dispose_timebase (s : State) (i : SlotNo) :
    (s.dispose i).timebase = s.timebase := rfl

@[simp] theorem State.dispose_deadlines (s : State) (i : SlotNo) :
    (s.dispose i).deadlines = s.deadlines := rfl

@[simp] theorem State.dispose_expiry (s : State) (i : SlotNo) :
    (s.dispose i).expiry = s.expiry := rfl

/-! ### deleteObject -/

@[simp] theorem State.deleteObject_pending (s : State) (i : SlotNo) :
    (s.deleteObject i).pending = s.pending := by
  simp [State.deleteObject]

@[simp] theorem State.deleteObject_resetn (s : State) (i : SlotNo) :
    (s.deleteObject i).resetn = s.resetn := by
  simp [State.deleteObject]

@[simp] theorem State.deleteObject_straps (s : State) (i : SlotNo) :
    (s.deleteObject i).straps = s.straps := by
  simp [State.deleteObject]

@[simp] theorem State.deleteObject_lineRate (s : State) (i : SlotNo) :
    (s.deleteObject i).lineRate = s.lineRate := by
  simp [State.deleteObject]

@[simp] theorem State.deleteObject_searchStart (s : State) (i : SlotNo) :
    (s.deleteObject i).searchStart = s.searchStart := by
  simp [State.deleteObject]

@[simp] theorem State.deleteObject_resetPending (s : State) (i : SlotNo) :
    (s.deleteObject i).resetPending = s.resetPending := by
  simp [State.deleteObject]

@[simp] theorem State.deleteObject_rights (s : State) (i : SlotNo) :
    (s.deleteObject i).rights = s.rights := by
  simp [State.deleteObject]

@[simp] theorem State.deleteObject_alerts (s : State) (i : SlotNo) :
    (s.deleteObject i).alerts = s.alerts := by
  simp [State.deleteObject]

@[simp] theorem State.deleteObject_dropped (s : State) (i : SlotNo) :
    (s.deleteObject i).dropped = s.dropped := by
  simp [State.deleteObject]

@[simp] theorem State.deleteObject_indications (s : State) (i : SlotNo) :
    (s.deleteObject i).indications = s.indications := by
  simp [State.deleteObject]

@[simp] theorem State.deleteObject_poolMark (s : State) (i : SlotNo) :
    (s.deleteObject i).poolMark = s.poolMark := by
  simp [State.deleteObject]

@[simp] theorem State.deleteObject_timebase (s : State) (i : SlotNo) :
    (s.deleteObject i).timebase = s.timebase := by
  simp [State.deleteObject]

@[simp] theorem State.deleteObject_expiry (s : State) (i : SlotNo) :
    (s.deleteObject i).expiry = s.expiry := by
  simp [State.deleteObject]

/-! ### endsJob -/

@[simp] theorem State.endsJob_pending (s u : State) :
    (s.endsJob u).pending = u.pending := by
  unfold State.endsJob
  split <;> simp

@[simp] theorem State.endsJob_resetn (s u : State) :
    (s.endsJob u).resetn = u.resetn := by
  unfold State.endsJob
  split <;> simp

@[simp] theorem State.endsJob_straps (s u : State) :
    (s.endsJob u).straps = u.straps := by
  unfold State.endsJob
  split <;> simp

@[simp] theorem State.endsJob_lineRate (s u : State) :
    (s.endsJob u).lineRate = u.lineRate := by
  unfold State.endsJob
  split <;> simp

@[simp] theorem State.endsJob_ports (s u : State) :
    (s.endsJob u).ports = u.ports := by
  unfold State.endsJob
  split <;> simp

@[simp] theorem State.endsJob_searchStart (s u : State) :
    (s.endsJob u).searchStart = u.searchStart := by
  unfold State.endsJob
  split <;> simp

@[simp] theorem State.endsJob_resetPending (s u : State) :
    (s.endsJob u).resetPending = u.resetPending := by
  unfold State.endsJob
  split <;> simp

@[simp] theorem State.endsJob_slots (s u : State) :
    (s.endsJob u).slots = u.slots := by
  unfold State.endsJob
  split <;> simp

@[simp] theorem State.endsJob_labelMap (s u : State) :
    (s.endsJob u).labelMap = u.labelMap := by
  unfold State.endsJob
  split <;> simp

@[simp] theorem State.endsJob_waits (s u : State) :
    (s.endsJob u).waits = u.waits := by
  unfold State.endsJob
  split <;> simp

@[simp] theorem State.endsJob_queues (s u : State) :
    (s.endsJob u).queues = u.queues := by
  unfold State.endsJob
  split <;> simp

@[simp] theorem State.endsJob_free (s u : State) :
    (s.endsJob u).free = u.free := by
  unfold State.endsJob
  split <;> simp

@[simp] theorem State.endsJob_rights (s u : State) :
    (s.endsJob u).rights = u.rights := by
  unfold State.endsJob
  split <;> simp

@[simp] theorem State.endsJob_poolMark (s u : State) :
    (s.endsJob u).poolMark = u.poolMark := by
  unfold State.endsJob
  split <;> simp

@[simp] theorem State.endsJob_timebase (s u : State) :
    (s.endsJob u).timebase = u.timebase := by
  unfold State.endsJob
  split <;> simp

@[simp] theorem State.endsJob_deadlines (s u : State) :
    (s.endsJob u).deadlines = u.deadlines := by
  unfold State.endsJob
  split <;> simp

@[simp] theorem State.endsJob_expiry (s u : State) :
    (s.endsJob u).expiry = u.expiry := by
  unfold State.endsJob
  split <;> simp

/-! ### repliedFor -/

@[simp] theorem State.repliedFor_pending (s : State) (u : Purpose) (q : Sender) (code : Byte) (x : Answer) :
    (s.repliedFor u q code x).pending = s.pending := rfl

@[simp] theorem State.repliedFor_resetn (s : State) (u : Purpose) (q : Sender) (code : Byte) (x : Answer) :
    (s.repliedFor u q code x).resetn = s.resetn := rfl

@[simp] theorem State.repliedFor_straps (s : State) (u : Purpose) (q : Sender) (code : Byte) (x : Answer) :
    (s.repliedFor u q code x).straps = s.straps := rfl

@[simp] theorem State.repliedFor_lineRate (s : State) (u : Purpose) (q : Sender) (code : Byte) (x : Answer) :
    (s.repliedFor u q code x).lineRate = s.lineRate := rfl

@[simp] theorem State.repliedFor_searchStart (s : State) (u : Purpose) (q : Sender) (code : Byte) (x : Answer) :
    (s.repliedFor u q code x).searchStart = s.searchStart := rfl

@[simp] theorem State.repliedFor_resetPending (s : State) (u : Purpose) (q : Sender) (code : Byte) (x : Answer) :
    (s.repliedFor u q code x).resetPending = s.resetPending := rfl

@[simp] theorem State.repliedFor_slots (s : State) (u : Purpose) (q : Sender) (code : Byte) (x : Answer) :
    (s.repliedFor u q code x).slots = s.slots := rfl

@[simp] theorem State.repliedFor_labelMap (s : State) (u : Purpose) (q : Sender) (code : Byte) (x : Answer) :
    (s.repliedFor u q code x).labelMap = s.labelMap := rfl

@[simp] theorem State.repliedFor_waits (s : State) (u : Purpose) (q : Sender) (code : Byte) (x : Answer) :
    (s.repliedFor u q code x).waits = s.waits := rfl

@[simp] theorem State.repliedFor_queues (s : State) (u : Purpose) (q : Sender) (code : Byte) (x : Answer) :
    (s.repliedFor u q code x).queues = s.queues := rfl

@[simp] theorem State.repliedFor_free (s : State) (u : Purpose) (q : Sender) (code : Byte) (x : Answer) :
    (s.repliedFor u q code x).free = s.free := rfl

@[simp] theorem State.repliedFor_rights (s : State) (u : Purpose) (q : Sender) (code : Byte) (x : Answer) :
    (s.repliedFor u q code x).rights = s.rights := rfl

@[simp] theorem State.repliedFor_alerts (s : State) (u : Purpose) (q : Sender) (code : Byte) (x : Answer) :
    (s.repliedFor u q code x).alerts = s.alerts := rfl

@[simp] theorem State.repliedFor_dropped (s : State) (u : Purpose) (q : Sender) (code : Byte) (x : Answer) :
    (s.repliedFor u q code x).dropped = s.dropped := rfl

@[simp] theorem State.repliedFor_indications (s : State) (u : Purpose) (q : Sender) (code : Byte) (x : Answer) :
    (s.repliedFor u q code x).indications = s.indications := rfl

@[simp] theorem State.repliedFor_poolMark (s : State) (u : Purpose) (q : Sender) (code : Byte) (x : Answer) :
    (s.repliedFor u q code x).poolMark = s.poolMark := rfl

@[simp] theorem State.repliedFor_timebase (s : State) (u : Purpose) (q : Sender) (code : Byte) (x : Answer) :
    (s.repliedFor u q code x).timebase = s.timebase := rfl

@[simp] theorem State.repliedFor_deadlines (s : State) (u : Purpose) (q : Sender) (code : Byte) (x : Answer) :
    (s.repliedFor u q code x).deadlines = s.deadlines := rfl

@[simp] theorem State.repliedFor_expiry (s : State) (u : Purpose) (q : Sender) (code : Byte) (x : Answer) :
    (s.repliedFor u q code x).expiry = s.expiry := rfl

/-! ### replied -/

@[simp] theorem State.replied_pending (s : State) (q : Sender) (code : Byte) (x : Answer) :
    (s.replied q code x).pending = s.pending := rfl

@[simp] theorem State.replied_resetn (s : State) (q : Sender) (code : Byte) (x : Answer) :
    (s.replied q code x).resetn = s.resetn := rfl

@[simp] theorem State.replied_straps (s : State) (q : Sender) (code : Byte) (x : Answer) :
    (s.replied q code x).straps = s.straps := rfl

@[simp] theorem State.replied_lineRate (s : State) (q : Sender) (code : Byte) (x : Answer) :
    (s.replied q code x).lineRate = s.lineRate := rfl

@[simp] theorem State.replied_searchStart (s : State) (q : Sender) (code : Byte) (x : Answer) :
    (s.replied q code x).searchStart = s.searchStart := rfl

@[simp] theorem State.replied_resetPending (s : State) (q : Sender) (code : Byte) (x : Answer) :
    (s.replied q code x).resetPending = s.resetPending := rfl

@[simp] theorem State.replied_slots (s : State) (q : Sender) (code : Byte) (x : Answer) :
    (s.replied q code x).slots = s.slots := rfl

@[simp] theorem State.replied_labelMap (s : State) (q : Sender) (code : Byte) (x : Answer) :
    (s.replied q code x).labelMap = s.labelMap := rfl

@[simp] theorem State.replied_waits (s : State) (q : Sender) (code : Byte) (x : Answer) :
    (s.replied q code x).waits = s.waits := rfl

@[simp] theorem State.replied_queues (s : State) (q : Sender) (code : Byte) (x : Answer) :
    (s.replied q code x).queues = s.queues := rfl

@[simp] theorem State.replied_free (s : State) (q : Sender) (code : Byte) (x : Answer) :
    (s.replied q code x).free = s.free := rfl

@[simp] theorem State.replied_rights (s : State) (q : Sender) (code : Byte) (x : Answer) :
    (s.replied q code x).rights = s.rights := rfl

@[simp] theorem State.replied_alerts (s : State) (q : Sender) (code : Byte) (x : Answer) :
    (s.replied q code x).alerts = s.alerts := rfl

@[simp] theorem State.replied_dropped (s : State) (q : Sender) (code : Byte) (x : Answer) :
    (s.replied q code x).dropped = s.dropped := rfl

@[simp] theorem State.replied_indications (s : State) (q : Sender) (code : Byte) (x : Answer) :
    (s.replied q code x).indications = s.indications := rfl

@[simp] theorem State.replied_poolMark (s : State) (q : Sender) (code : Byte) (x : Answer) :
    (s.replied q code x).poolMark = s.poolMark := rfl

@[simp] theorem State.replied_timebase (s : State) (q : Sender) (code : Byte) (x : Answer) :
    (s.replied q code x).timebase = s.timebase := rfl

@[simp] theorem State.replied_deadlines (s : State) (q : Sender) (code : Byte) (x : Answer) :
    (s.replied q code x).deadlines = s.deadlines := rfl

@[simp] theorem State.replied_expiry (s : State) (q : Sender) (code : Byte) (x : Answer) :
    (s.replied q code x).expiry = s.expiry := rfl

/-! ### without -/

@[simp] theorem State.without_pending (s : State) (w : WaitRecord) :
    (s.without w).pending = s.pending := rfl

@[simp] theorem State.without_resetn (s : State) (w : WaitRecord) :
    (s.without w).resetn = s.resetn := rfl

@[simp] theorem State.without_straps (s : State) (w : WaitRecord) :
    (s.without w).straps = s.straps := rfl

@[simp] theorem State.without_lineRate (s : State) (w : WaitRecord) :
    (s.without w).lineRate = s.lineRate := rfl

@[simp] theorem State.without_ports (s : State) (w : WaitRecord) :
    (s.without w).ports = s.ports := rfl

@[simp] theorem State.without_searchStart (s : State) (w : WaitRecord) :
    (s.without w).searchStart = s.searchStart := rfl

@[simp] theorem State.without_resetPending (s : State) (w : WaitRecord) :
    (s.without w).resetPending = s.resetPending := rfl

@[simp] theorem State.without_slots (s : State) (w : WaitRecord) :
    (s.without w).slots = s.slots := rfl

@[simp] theorem State.without_labelMap (s : State) (w : WaitRecord) :
    (s.without w).labelMap = s.labelMap := rfl

@[simp] theorem State.without_queues (s : State) (w : WaitRecord) :
    (s.without w).queues = s.queues := rfl

@[simp] theorem State.without_free (s : State) (w : WaitRecord) :
    (s.without w).free = s.free := rfl

@[simp] theorem State.without_rights (s : State) (w : WaitRecord) :
    (s.without w).rights = s.rights := rfl

@[simp] theorem State.without_alerts (s : State) (w : WaitRecord) :
    (s.without w).alerts = s.alerts := rfl

@[simp] theorem State.without_dropped (s : State) (w : WaitRecord) :
    (s.without w).dropped = s.dropped := rfl

@[simp] theorem State.without_indications (s : State) (w : WaitRecord) :
    (s.without w).indications = s.indications := rfl

@[simp] theorem State.without_poolMark (s : State) (w : WaitRecord) :
    (s.without w).poolMark = s.poolMark := rfl

@[simp] theorem State.without_timebase (s : State) (w : WaitRecord) :
    (s.without w).timebase = s.timebase := rfl

@[simp] theorem State.without_expiry (s : State) (w : WaitRecord) :
    (s.without w).expiry = s.expiry := rfl

/-! ### holds -/

@[simp] theorem State.holds_pending (s : State) (i : SlotNo) (r : ObjectRecord) :
    (s.holds i r).pending = s.pending := rfl

@[simp] theorem State.holds_resetn (s : State) (i : SlotNo) (r : ObjectRecord) :
    (s.holds i r).resetn = s.resetn := rfl

@[simp] theorem State.holds_straps (s : State) (i : SlotNo) (r : ObjectRecord) :
    (s.holds i r).straps = s.straps := rfl

@[simp] theorem State.holds_lineRate (s : State) (i : SlotNo) (r : ObjectRecord) :
    (s.holds i r).lineRate = s.lineRate := rfl

@[simp] theorem State.holds_ports (s : State) (i : SlotNo) (r : ObjectRecord) :
    (s.holds i r).ports = s.ports := rfl

@[simp] theorem State.holds_searchStart (s : State) (i : SlotNo) (r : ObjectRecord) :
    (s.holds i r).searchStart = s.searchStart := rfl

@[simp] theorem State.holds_resetPending (s : State) (i : SlotNo) (r : ObjectRecord) :
    (s.holds i r).resetPending = s.resetPending := rfl

@[simp] theorem State.holds_labelMap (s : State) (i : SlotNo) (r : ObjectRecord) :
    (s.holds i r).labelMap = s.labelMap := rfl

@[simp] theorem State.holds_waits (s : State) (i : SlotNo) (r : ObjectRecord) :
    (s.holds i r).waits = s.waits := rfl

@[simp] theorem State.holds_queues (s : State) (i : SlotNo) (r : ObjectRecord) :
    (s.holds i r).queues = s.queues := rfl

@[simp] theorem State.holds_free (s : State) (i : SlotNo) (r : ObjectRecord) :
    (s.holds i r).free = s.free := rfl

@[simp] theorem State.holds_rights (s : State) (i : SlotNo) (r : ObjectRecord) :
    (s.holds i r).rights = s.rights := rfl

@[simp] theorem State.holds_alerts (s : State) (i : SlotNo) (r : ObjectRecord) :
    (s.holds i r).alerts = s.alerts := rfl

@[simp] theorem State.holds_dropped (s : State) (i : SlotNo) (r : ObjectRecord) :
    (s.holds i r).dropped = s.dropped := rfl

@[simp] theorem State.holds_indications (s : State) (i : SlotNo) (r : ObjectRecord) :
    (s.holds i r).indications = s.indications := rfl

@[simp] theorem State.holds_poolMark (s : State) (i : SlotNo) (r : ObjectRecord) :
    (s.holds i r).poolMark = s.poolMark := rfl

@[simp] theorem State.holds_timebase (s : State) (i : SlotNo) (r : ObjectRecord) :
    (s.holds i r).timebase = s.timebase := rfl

@[simp] theorem State.holds_deadlines (s : State) (i : SlotNo) (r : ObjectRecord) :
    (s.holds i r).deadlines = s.deadlines := rfl

@[simp] theorem State.holds_expiry (s : State) (i : SlotNo) (r : ObjectRecord) :
    (s.holds i r).expiry = s.expiry := rfl

end Sys2Proof.Machine
end

