-- ==== Sys2Proof/Laws/Waits.lean ====
section
/-! SUPPORT. Record writes and wait records where every record agrees with its check, and the checks of a request that
names an object: each model operation as the effect of Safety.lean that the statements use. -/

namespace Sys2Proof.Machine

/-! ### Record writes -/

/-- A write of a record that agrees with its check. -/
theorem State.writeRecord_eq_holds {s : State} {i : SlotNo} {r : ObjectRecord} (h : r.check = .agrees) :
    s.writeRecord i r = s.holds i r := by
  cases r
  cases h
  rfl

/-- A record that agrees with its check is as it was when it is written again. -/
theorem State.writeRecord_same {s : State} {i : SlotNo} {r : ObjectRecord} (ho : s.object i = some r)
    (h : r.check = .agrees) : s.writeRecord i r = s := by
  have hs : (⟨(s.slot i).stamp, some { r with check := .agrees }⟩ : Slot) = s.slot i := by
    have : (s.slot i).object = some r := ho
    cases r
    cases h
    generalize s.slot i = x at this ⊢
    cases x
    cases this
    rfl
  unfold State.writeRecord
  rw [hs, State.setSlot_slot]

theorem State.rewriteRecord_same {s : State} {i : SlotNo} (h : ∀ r, s.object i = some r → r.check = .agrees) :
    s.rewriteRecord i = s := by
  unfold State.rewriteRecord
  split
  · next r ho => exact State.writeRecord_same ho (h r ho)
  · rfl

/-- A list changes beside a record that agrees with its check. -/
theorem State.listWritten_same {s : State} {l : WaitList}
    (h : ∀ i r, l = .object i → s.object i = some r → r.check = .agrees) : s.listWritten l = s := by
  cases l with
  | object i => exact State.rewriteRecord_same fun r => h i r rfl
  | pool => rfl

/-! ### Wait records -/

/-- A removed waiter, where its list's record agrees with its check. -/
theorem State.removeWaiter_eq_without {s : State} {w : WaitRecord}
    (h : ∀ i r, w.list = .object i → s.object i = some r → r.check = .agrees) : s.removeWaiter w = s.without w := by
  unfold State.removeWaiter
  rw [State.listWritten_same]
  · unfold State.withdraw State.without
    cases w.deadline with
    | none => rfl
    | some t =>
      simp only [reduceCtorEq, if_false]
      congr 1
      apply List.filter_congr
      intro e _
      by_cases h' : e.sender = w.sender <;> simp [h']
  · intro i r hl ho
    exact h i r hl ho

/-- A waiter dismissed, where its list's record agrees with its check (R53, R54). -/
theorem State.dismiss_eq {s : State} {w : WaitRecord} (status : Status)
    (h : ∀ i r, w.list = .object i → s.object i = some r → r.check = .agrees) :
    State.dismiss status s w = (s.without w).complete w.sender w.request.code (Answer.dismissal status) := by
  unfold State.dismiss
  rw [State.removeWaiter_eq_without h]

/-- A waiter moved to another list, where the records of both agree with their checks. -/
theorem State.moveWaiter_eq {s : State} {w : WaitRecord} {l : WaitList}
    (h : ∀ i r, w.list = .object i → s.object i = some r → r.check = .agrees)
    (h' : ∀ i r, l = .object i → s.object i = some r → r.check = .agrees) :
    s.moveWaiter w l = { s with waits := s.waits.erase w ++ [{ w with list := l }] } := by
  unfold State.moveWaiter
  rw [State.listWritten_same (l := w.list), State.listWritten_same]
  · exact h'
  · exact h

/-- A placement of a request whose tag is PENDING, where its list's record agrees with its check. -/
theorem State.place_eq_waiting {s : State} {q : Sender} {request : WaitRequest} {target : Handle} {wait : Half}
    {l : WaitList} (h : ∀ i r, l = .object i → s.object i = some r → r.check = .agrees)
    (ht : ((s.port q.port).tag q.tag).state = .pending q.gen) :
    s.place q request target wait l = s.waiting q request target wait l := by
  unfold State.place
  rw [State.listWritten_same]
  · unfold State.addDeadline State.notifyWaiting State.waiting State.deadlineFor State.deadlineAt
    by_cases hw : wait = 0xFFFF#16
    · simp only [hw, if_true]
      have : (((({ s with waits := s.waits ++ [(⟨q, request, target, none, l⟩ : WaitRecord)] } : State)).port
          q.port).tag q.tag).state = .pending q.gen := ht
      rw [this]
      rfl
    · simp only [hw, if_false]
      split
      · next g hg =>
        have hg' : ((s.port q.port).tag q.tag).state = .pending g := hg
        rw [ht] at hg'
        cases hg'
        rfl
      · next hg => exact absurd ht (hg q.gen)
  · intro i r hl ho
    exact h i r hl ho

/-! ### The list of a wait record that leaves it -/

/-- Removing the oldest waiter of a list leaves the others, in order. -/
theorem waitList_erase_head {ws : List WaitRecord} {l : WaitList} {w : WaitRecord} {rest : List WaitRecord}
    (h : ws.filter (fun x => x.list == l) = w :: rest) : (ws.erase w).filter (fun x => x.list == l) = rest := by
  induction ws with
  | nil => simp at h
  | cons x xs ih =>
    by_cases hx : x = w
    · subst hx
      have hxl : (x.list == l) = true := by
        have : x ∈ (x :: xs).filter (fun y => y.list == l) := by rw [h]; simp
        exact (List.mem_filter.mp this).2
      rw [List.filter_cons_of_pos (by exact hxl)] at h
      simp only [List.erase_cons_head]
      exact (List.cons.inj h).2
    · have hxl : ¬ ((x.list == l) = true) := by
        intro hc
        rw [List.filter_cons_of_pos (by exact hc)] at h
        exact hx (List.cons.inj h).1
      rw [List.filter_cons_of_neg (by exact hxl)] at h
      rw [List.erase_cons_tail (by simpa using hx), List.filter_cons_of_neg (by exact hxl)]
      exact ih h

/-! ### Requests that name an object -/

/-- A handle that resolves names the object of its slot. -/
theorem State.object_of_resolve {s : State} {h : Handle} {r : ObjectRecord} (hr : s.resolve h = some r) :
    s.object h.slot = some r ∧ (s.slot h.slot).stamp = h.stamp := by
  unfold State.resolve at hr
  split at hr
  · next hs => exact ⟨hr, hs⟩
  · cases hr

/-- Steps 2 to 7 passed, the request is carried out (R9). -/
theorem State.withObject_runs {s : State} {q : Sender} {code : RequestCode} {h : Handle} {c : Checks}
    {run : ObjectRecord → State} {r : ObjectRecord} (hr : s.resolve h = some r)
    (hc : r.check = .agrees ∨ r.quarantined = true) (hk : c.kind r.part = true)
    (ha : (accessHas r.access q.port || (c.adminPasses && (s.rightsOf q.port).admin)) = true)
    (hq : r.quarantined = false ∨ c.onQuarantined = true) (hright : c.right s r = true) (hrange : c.range s = true) :
    s.withObject q code h c run = run r := by
  unfold State.withObject
  have hf : r.failsCheck = false := by
    unfold ObjectRecord.failsCheck
    rcases hc with hc | hc <;> simp [hc]
  have hq' : (r.quarantined && !c.onQuarantined) = false := by rcases hq with hq | hq <;> simp [hq]
  rw [hr]
  simp only [hf, hk, ha, hq', hright, hrange]
  rfl

/-- A request of one kind on an object that is usable. -/
theorem State.withObject_usable {s : State} {q : Sender} {code : RequestCode} {h : Handle} {kind : KindPart → Bool}
    {range : State → Bool} {run : ObjectRecord → State} {r : ObjectRecord} (hu : s.usable q h r)
    (hk : kind r.part = true) (hrange : range s = true) :
    s.withObject q code h (Checks.ofKind kind range) run = run r :=
  State.withObject_runs hu.1 (.inl hu.2.1) hk (by simp [hu.2.2.2]) (.inl hu.2.2.1) rfl hrange

end Sys2Proof.Machine
end

