-- ==== Sys2Proof/Laws/Pool.lean ====
section
/-! SUPPORT. The two sums of the entry pool under a change of one queue, the records under a rewrite, the waits
and records under dismissals, and a deletion in the words of the statements. -/

namespace Sys2Proof.Machine

/-! ### The sums of the pool (R67, R68) -/

/-- A sum over a list with one member replaced. -/
theorem sum_map_list_set {α : Type} (f : α → Nat) (l : List α) (i : Nat) (x : α) (h : i < l.length) :
    ((l.set i x).map f).sum + f l[i] = (l.map f).sum + f x := by
  induction l generalizing i with
  | nil => simp at h
  | cons y ys ih =>
    cases i with
    | zero =>
      simp only [List.set_cons_zero, List.map_cons, List.sum_cons, List.getElem_cons_zero]
      omega
    | succ i =>
      have := ih i (by simpa using h)
      simp only [List.set_cons_succ, List.map_cons, List.sum_cons, List.getElem_cons_succ]
      omega

/-- A sum over a vector with one member replaced. -/
theorem sum_map_vector_set {α : Type} {n : Nat} (f : α → Nat) (v : Vector α n) (i : Fin n) (x : α) :
    ((v.set i.val x i.isLt).toArray.toList.map f).sum + f (v.get i) = (v.toArray.toList.map f).sum + f x := by
  have h : i.val < v.toArray.toList.length := by simp
  have := sum_map_list_set f v.toArray.toList i.val x h
  simpa [Vector.get, Vector.set] using this

/-- The outstanding reserve when one queue's accounting changes. -/
theorem State.outstanding_setQueue (s : State) (i : SlotNo) (x : Option QueueAccount) :
    (s.setQueue i x).outstanding + promisedBy (s.queue i) = s.outstanding + promisedBy x :=
  sum_map_vector_set promisedBy s.queues i x

/-- The entries held when one queue's accounting changes. -/
theorem State.entriesHeld_setQueue (s : State) (i : SlotNo) (x : Option QueueAccount) :
    (s.setQueue i x).entriesHeld + depthOf (s.queue i) = s.entriesHeld + depthOf x :=
  sum_map_vector_set depthOf s.queues i x

/-- The sums depend on the accounting alone. -/
theorem State.outstanding_congr {s t : State} (h : t.queues = s.queues) : t.outstanding = s.outstanding := by
  unfold State.outstanding
  rw [h]

theorem State.entriesHeld_congr {s t : State} (h : t.queues = s.queues) : t.entriesHeld = s.entriesHeld := by
  unfold State.entriesHeld
  rw [h]

theorem State.queue_congr {s t : State} (h : t.queues = s.queues) (i : SlotNo) : t.queue i = s.queue i := by
  unfold State.queue
  rw [h]

/-- A put is grantable: below its reserve, or with an entry that no reserve holds back (R69). -/
theorem State.grantable_iff (s : State) (a : QueueAccount) :
    s.grantable a = true ↔ a.chain.length < a.reserve ∨ s.outstanding < s.free := by
  unfold State.grantable QueueAccount.depth
  simp only [Bool.or_eq_true, decide_eq_true_eq]
  omega

/-- An entry linked keeps entry conservation and the law of reserves, where the put was grantable (R67, R68). -/
theorem State.linkEntry_sums {s : State} {i : SlotNo} {a : QueueAccount} (side : QueueEnd) (e : Entry)
    (ha : s.queue i = some a) (hg : s.grantable a = true) (hc : s.free + s.entriesHeld = 2048)
    (hr : s.outstanding ≤ s.free) :
    (s.linkEntry i a side e).free + (s.linkEntry i a side e).entriesHeld = 2048 ∧
      (s.linkEntry i a side e).outstanding ≤ (s.linkEntry i a side e).free := by
  have hl : (linkAt side e a.chain).length = a.chain.length + 1 := by cases side <;> simp [linkAt]
  have ho := s.outstanding_setQueue i (some { a with chain := linkAt side e a.chain })
  have he := s.entriesHeld_setQueue i (some { a with chain := linkAt side e a.chain })
  rw [ha] at ho he
  simp only [promisedBy, depthOf, QueueAccount.promised, QueueAccount.depth, hl] at ho he
  rw [State.grantable_iff] at hg
  have hf : (s.linkEntry i a side e).free = s.free - 1 := rfl
  have ho' : (s.linkEntry i a side e).outstanding =
      (s.setQueue i (some { a with chain := linkAt side e a.chain })).outstanding := rfl
  have he' : (s.linkEntry i a side e).entriesHeld =
      (s.setQueue i (some { a with chain := linkAt side e a.chain })).entriesHeld := rfl
  rw [hf, ho', he']
  omega

/-! ### Records (R10) -/

/-- A write of a record, slot by slot. -/
theorem State.object_writeRecord (s : State) (i j : SlotNo) (r : ObjectRecord) :
    (s.writeRecord i r).object j = if i = j then some { r with check := .agrees } else s.object j := by
  unfold State.writeRecord
  rw [State.object_setSlot]

/-- A rewrite makes a record agree with its check and changes nothing else of it. -/
theorem State.object_rewriteRecord (s : State) (i j : SlotNo) :
    (s.rewriteRecord i).object j =
      if i = j then (s.object j).map fun r => { r with check := .agrees } else s.object j := by
  unfold State.rewriteRecord
  split
  · next r h =>
    rw [State.object_writeRecord]
    split
    · next hij =>
      subst hij
      rw [h]
      rfl
    · rfl
  · next h =>
    split
    · next hij =>
      subst hij
      rw [h]
      rfl
    · rfl

/-! ### Dismissals (R13, R19, R53) -/

theorem State.dismiss_waits (st : Status) (s : State) (w : WaitRecord) :
    (State.dismiss st s w).waits = s.waits.erase w := by
  unfold State.dismiss
  simp only [State.complete_waits]
  unfold State.removeWaiter
  simp only [State.withdraw_waits, State.listWritten_waits]

/-- Dismissals take exactly the records named off the list. -/
theorem State.dismissAll_waits (st : Status) (s : State) (ws : List WaitRecord) :
    (State.dismissAll st s ws).waits = ws.foldl List.erase s.waits := by
  unfold State.dismissAll
  induction ws generalizing s with
  | nil => rfl
  | cons w ws ih =>
    simp only [List.foldl_cons]
    rw [ih, State.dismiss_waits]

/-- A record erased that is not the first of the list leaves the first in place. -/
theorem foldl_erase_cons_ne (x : WaitRecord) (xs ws : List WaitRecord) (h : ∀ w ∈ ws, w ≠ x) :
    ws.foldl List.erase (x :: xs) = x :: ws.foldl List.erase xs := by
  induction ws generalizing xs with
  | nil => rfl
  | cons w ws ih =>
    have hw : w ≠ x := h w (by simp)
    simp only [List.foldl_cons]
    rw [List.erase_cons_tail (by simpa using Ne.symm hw), ih _ fun v hv => h v (by simp [hv])]

/-- The records of a kind erased one after another leave the others, in order. -/
theorem foldl_erase_filter (p : WaitRecord → Bool) (ws : List WaitRecord) :
    (ws.filter p).foldl List.erase ws = ws.filter fun w => !p w := by
  induction ws with
  | nil => rfl
  | cons x xs ih =>
    by_cases hp : p x = true
    · rw [List.filter_cons_of_pos hp, List.filter_cons_of_neg (by simp [hp])]
      simp only [List.foldl_cons, List.erase_cons_head]
      exact ih
    · rw [List.filter_cons_of_neg hp, List.filter_cons_of_pos (by simp [hp]), foldl_erase_cons_ne, ih]
      intro w hw hx
      rw [hx] at hw
      exact hp (List.mem_filter.mp hw).2

/-- The dismissal of every waiter of a list leaves the waiters of the other lists, in order. -/
theorem State.dismissAll_waitList (st : Status) (s : State) (l : WaitList) :
    (State.dismissAll st s (s.waitList l)).waits = s.waits.filter fun w => !(w.list == l) := by
  rw [State.dismissAll_waits]
  exact foldl_erase_filter _ _

/-! ### Deletion (R6, R13, R14) -/

/-- Dismissals of waiters of one object or of the pool's list write that object's record alone, and keep its stamp. -/
theorem State.dismissAll_slots (st : Status) (s : State) (i : SlotNo) (ws : List WaitRecord)
    (h : ∀ w ∈ ws, w.list = .object i ∨ w.list = .pool) :
    ∃ y : Slot, (State.dismissAll st s ws).slots = s.slots.set i.val y i.isLt ∧ y.stamp = (s.slot i).stamp := by
  unfold State.dismissAll
  induction ws generalizing s with
  | nil => exact ⟨s.slot i, by simp [State.slot, Vector.get], rfl⟩
  | cons w ws ih =>
    have one : ∃ y : Slot, (State.dismiss st s w).slots = s.slots.set i.val y i.isLt ∧ y.stamp = (s.slot i).stamp := by
      have hs : (State.dismiss st s w).slots = (s.listWritten w.list).slots := by
        unfold State.dismiss State.removeWaiter
        simp only [State.complete_slots, State.withdraw_slots]
        rcases h w (by simp) with hw | hw <;> rw [hw]
        · simp only [State.listWritten, State.rewriteRecord, State.object, State.slot]
          split <;> rfl
        · rfl
      rw [hs]
      rcases h w (by simp) with hw | hw <;> rw [hw]
      · simp only [State.listWritten, State.rewriteRecord]
        split
        · exact ⟨_, rfl, rfl⟩
        · exact ⟨s.slot i, by simp [State.slot, Vector.get], rfl⟩
      · exact ⟨s.slot i, by simp [State.slot, Vector.get, State.listWritten], rfl⟩
    obtain ⟨y, hy, hys⟩ := one
    obtain ⟨z, hz, hzs⟩ := ih (State.dismiss st s w) fun v hv => h v (by simp [hv])
    refine ⟨z, ?_, ?_⟩
    · simp only [List.foldl_cons]
      rw [hz, hy]
      simp
    · rw [hzs]
      show ((State.dismiss st s w).slots.get i).stamp = _
      rw [hy, vector_get_set, if_pos rfl, hys]

/-- The deletion of an object in the words of the statements (R6, R13, R14). -/
theorem State.deleteObject_eq_deleted (s : State) (i : SlotNo) : s.deleteObject i = s.deleted i := by
  obtain ⟨y, hy, hys⟩ := State.dismissAll_slots .deleted s i (s.deletionWaiters i) (by
    intro w hw
    simp only [State.deletionWaiters, State.waitList, State.poolPuts, List.mem_append, List.mem_filter, beq_iff_eq,
      Bool.and_eq_true] at hw
    rcases hw with ⟨-, hw⟩ | ⟨-, hw, -⟩
    · exact .inl hw
    · exact .inr hw)
  have hst : ((State.dismissAll .deleted s (s.deletionWaiters i)).slot i).stamp = (s.slot i).stamp := by
    show ((State.dismissAll .deleted s (s.deletionWaiters i)).slots.get i).stamp = _
    rw [hy, vector_get_set, if_pos rfl, hys]
  unfold State.deleteObject State.dispose State.deleted
  have hq : (State.dismissAll .deleted s (s.deletionWaiters i)).queue i = s.queue i :=
    State.queue_congr (by simp) i
  simp only [hst, hq, State.setSlot, State.setQueue, hy, State.dismissAll_queues, State.dismissAll_free,
    State.dismissAll_labelMap]
  congr 1
  · simp [nextStamp]
  · apply List.filter_congr
    intro e _
    by_cases he : e.2 = i <;> simp [he]

end Sys2Proof.Machine
end

