-- ==== Sys2Proof/Tests/Slice0.lean ====
section
/-! SUPPORT. Tests: the well-formedness check refuses ill-formed terms, the worked examples of the spec, and for each
statement with hypotheses a concrete state and operands that meet them (test_meets_…), at the boundaries of its
clauses. -/

namespace Sys2Proof.Tests

open Sys2Proof.Machine

set_option maxRecDepth 100000
set_option Elab.async false

/-! ### Small states -/

/-- A port with an open session of number 1 and no silence limit. -/
def opened (s : State) (p : Port) : State :=
  s.setPort p { s.port p with session := ⟨.opened, 1#16, 0#16, none, .none, .stopped⟩ }

/-- A sender's request at the head of its port's pending list, its session open and its tag PENDING. -/
def asked (s : State) (q : Sender) (r : Request) : State :=
  (opened s q.port).setPort q.port
    { ((opened s q.port).port q.port).setTagState q.tag (.pending q.gen) with requests := [⟨q.tag, q.gen, r⟩] }

/-- An object in a slot with stamp 1, open to every port, made by port 0 in session 1. -/
def with_ (s : State) (i : SlotNo) (part : KindPart) (isScoped : Bool := false) (check : RecordCheck := .agrees)
    (quarantined : Bool := false) : State :=
  s.setSlot i ⟨1#8, some ⟨none, 0xFF#8, ⟨0, 1#16⟩, isScoped, quarantined, check, part⟩⟩

/-- A queue in a slot. -/
def withQueue (s : State) (i : SlotNo) (a : QueueAccount) : State := (with_ s i .queue).setQueue i (some a)

/-- A waiter at the tail of a list, its tag WAITING in an open session. -/
def waiter (s : State) (w : WaitRecord) : State :=
  { (opened s w.sender.port).setPort w.sender.port
      (((opened s w.sender.port).port w.sender.port).setTagState w.sender.tag (.waiting w.sender.gen)) with
    waits := s.waits ++ [w] }

/-- The state after a command, which here always answers one. -/
def after (c : Instr) (s : State) : State :=
  match exec c s with
  | .next t => t
  | .fault _ => s
  | .refused _ => s

/-- What the frames of a port's transmit queue say: status, flags and data. -/
def told (s : State) (p : Port) : List (Status × Flags × ReplyData) :=
  (s.port p).queue.map fun f => (f.reply.status, f.reply.flags, f.reply.data)

/-- The sender of most tests: port 0 on tag 0 with generation 1. -/
def q0 : Sender := ⟨0, 0, 1⟩

/-- The handle of the object in slot 5. -/
def h5 : Handle := ⟨5, 1#8⟩

/-- The guard that always holds. -/
def always : Guard := ⟨.none, 0#32⟩

/-! ### Well-formedness -/

theorem test_wellFormed_label_of_8 :
    (Instr.openSession q0 500#16 [65#8, 65#8, 65#8, 65#8, 65#8, 65#8, 65#8, 65#8]).wellFormed = true := by decide

theorem test_wellFormed_refuses_open_label_of_9 :
    (Instr.openSession q0 500#16 [65#8, 65#8, 65#8, 65#8, 65#8, 65#8, 65#8, 65#8, 65#8]).wellFormed = false := by decide

theorem test_wellFormed_refuses_create_label_of_9 :
    (Instr.create q0 .any 0#8 false .lock [65#8, 65#8, 65#8, 65#8, 65#8, 65#8, 65#8, 65#8, 65#8]).wellFormed =
      false := by decide

theorem test_wellFormed_refuses_find_label_of_9 :
    (Instr.find q0 [65#8, 65#8, 65#8, 65#8, 65#8, 65#8, 65#8, 65#8, 65#8]).wellFormed = false := by decide

/-! ### Frames and bodies, byte by byte -/

theorem test_check_reference :
    frameCheck [0x31#8, 0x32#8, 0x33#8, 0x34#8, 0x35#8, 0x36#8, 0x37#8, 0x38#8, 0x39#8] = 0x29B1#16 := by decide

theorem test_frame_reference :
    frameBytes [0x00#8, 0x00#8] = [0x5A#8, 0x02#8, 0x00#8, 0x00#8, 0xA2#8, 0xFC#8] := by decide

/-- The ACQUIRE re-entry of the Message Reference: its frame, and its body decoded. -/
theorem test_acquire_frame :
    frameBytes [0x40#8, 0x85#8, 0x05#8, 0x02#8, 0x00#8, 0x00#8] =
      [0x5A#8, 0x06#8, 0x40#8, 0x85#8, 0x05#8, 0x02#8, 0x00#8, 0x00#8, 0xE9#8, 0x59#8] ∧
    decodeBody [0x40#8, 0x85#8, 0x05#8, 0x02#8, 0x00#8, 0x00#8] = .request 2 5 (.acquire ⟨5, 2#8⟩ 0#16) := by decide

theorem test_acquire_reply_frame :
    frameBytes (Reply.body ⟨0x40#8, 2, 5, .ok, Flags.clear, false, .lock (some 3) 2⟩) =
      [0x5A#8, 0x06#8, 0x40#8, 0x85#8, 0x00#8, 0x00#8, 0x03#8, 0x02#8, 0x4E#8, 0x6D#8] := by decide

/-- The guarded claim of the Message Reference. -/
theorem test_add_frame :
    frameBytes (encodeBody 0 5 (.cell ⟨3, 1#8⟩ (.add 0xFFFFFFFF#32) ⟨.gt, 0#32⟩ 200#16)) =
      [0x5A#8, 0x14#8, 0x20#8, 0x05#8, 0x03#8, 0x01#8, 0x02#8, 0x05#8, 0x00#8, 0x00#8, 0x00#8, 0x00#8, 0x00#8, 0xC8#8,
        0xFF#8, 0xFF#8, 0xFF#8, 0xFF#8, 0x00#8, 0x00#8, 0x00#8, 0x00#8, 0x0D#8, 0x04#8] := by decide

theorem test_add_reply_frame :
    frameBytes (Reply.body ⟨0x20#8, 0, 5, .ok, ⟨false, true, false, true, true, false⟩, false, .cell 1#32 0#32⟩) =
      [0x5A#8, 0x0C#8, 0x20#8, 0x05#8, 0x00#8, 0x2C#8, 0x00#8, 0x00#8, 0x00#8, 0x01#8, 0x00#8, 0x00#8, 0x00#8, 0x00#8,
        0x79#8, 0xE8#8] := by decide

theorem test_session_bodies :
    decodeBody [0x01#8, 0x41#8] = .request 1 1 .nop ∧ decodeBody [0x02#8, 0xFF#8] = .request 3 63 .identify ∧
    decodeBody [0x03#8, 0x00#8, 0x01#8, 0xF4#8, 0x41#8] = .request 0 0 (.openSession 500#16 [0x41#8]) ∧
    decodeBody [0x04#8, 0x02#8] = .request 0 2 .closeSession ∧ decodeBody [0x05#8, 0x80#8] = .request 2 0 .queryTags := by
  decide

theorem test_object_bodies :
    decodeBody [0x10#8, 0x00#8, 0x02#8, 0xFF#8, 0xFF#8, 0x06#8, 0x01#8, 0x00#8, 0x04#8, 0x00#8, 0x02#8, 0x77#8, 0x88#8,
      0x4A#8] = .request 0 0 (.create .any 0x06#8 true (.queue 4#16 2#16) [0x4A#8]) ∧
    decodeBody [0x10#8, 0x00#8, 0x01#8, 0x00#8, 0xFF#8, 0x06#8, 0x00#8, 0x12#8, 0x34#8, 0x56#8, 0x78#8, 0x01#8, 0x00#8] =
      .request 0 0 (.create (.slot 255) 0x06#8 false (.cell 0x12345678#32 .passing) []) ∧
    decodeBody [0x11#8, 0x00#8, 0x07#8, 0x01#8] = .request 0 0 (.delete ⟨7, 1#8⟩) ∧
    decodeBody [0x12#8, 0x00#8, 0x07#8, 0x01#8] = .request 0 0 (.describe ⟨7, 1#8⟩) ∧
    decodeBody [0x13#8, 0x00#8, 0x4A#8] = .request 0 0 (.find [0x4A#8]) ∧
    decodeBody [0x14#8, 0x00#8, 0x07#8, 0x01#8, 0x0F#8] = .request 0 0 (.setAccess ⟨7, 1#8⟩ 0x0F#8) := by decide

theorem test_cell_queue_lock_bodies :
    decodeBody [0x20#8, 0x00#8, 0x07#8, 0x01#8, 0x06#8, 0x00#8, 0x00#8, 0x00#8, 0x00#8, 0x00#8, 0x00#8, 0x00#8, 0x08#8,
      0x04#8, 0x01#8, 0x99#8, 0x99#8, 0x99#8, 0x99#8, 0x99#8] =
        .request 0 0 (.cell ⟨7, 1#8⟩ (.extract 8#8 4#8 true) always 0#16) ∧
    decodeBody [0x21#8, 0x00#8, 0x07#8, 0x01#8, 0x01#8] = .request 0 0 (.setOrder ⟨7, 1#8⟩ .passing) ∧
    decodeBody [0x30#8, 0x00#8, 0x07#8, 0x01#8, 0x01#8, 0x00#8, 0x00#8, 0x00#8, 0x65#8, 0xFF#8, 0xFF#8] =
      .request 0 0 (.put ⟨7, 1#8⟩ .tail 101#32 0xFFFF#16) ∧
    decodeBody [0x31#8, 0x00#8, 0x07#8, 0x01#8, 0x00#8, 0x01#8, 0xF4#8] = .request 0 0 (.take ⟨7, 1#8⟩ .head 500#16) ∧
    decodeBody [0x32#8, 0x00#8, 0x07#8, 0x01#8, 0x00#8, 0x03#8] = .request 0 0 (.peek ⟨7, 1#8⟩ 3#16) ∧
    decodeBody [0x34#8, 0x00#8, 0x07#8, 0x01#8, 0x00#8, 0x04#8, 0x00#8, 0x02#8] =
      .request 0 0 (.setQueueLimits ⟨7, 1#8⟩ 4#16 2#16) ∧
    decodeBody [0x41#8, 0x00#8, 0x05#8, 0x02#8] = .request 0 0 (.release ⟨5, 2#8⟩) := by decide

theorem test_admin_bodies :
    decodeBody [0x48#8, 0x00#8, 0x03#8] = .request 0 0 (.cancel 3) ∧
    decodeBody [0x50#8, 0x00#8, 0x02#8, 0x05#8] = .request 0 0 (.setRights 2#8 ⟨true, false, true⟩) ∧
    decodeBody [0x51#8, 0x00#8, 0x09#8] = .request 0 0 (.forceClose 9#8) ∧
    decodeBody [0x54#8, 0x00#8, 0x03#8, 0x01#8] = .request 0 0 (.stats 3#8 true) ∧
    decodeBody [0x55#8, 0x00#8, 0x01#8, 0x00#8] = .request 0 0 (.setPoolMark 256#16) ∧
    decodeBody [0x56#8, 0x00#8] = .request 0 0 .partReset := by decide

theorem test_malformed_bodies :
    decodeBody [0x00#8, 0x41#8] = .malformed 0x00#8 1 1 ∧ decodeBody [0x01#8, 0x41#8, 0x00#8] = .malformed 0x01#8 1 1 ∧
    decodeBody [0x50#8, 0x00#8, 0x02#8, 0x08#8] = .malformed 0x50#8 0 0 ∧
    decodeBody [0x48#8, 0x00#8, 0x04#8] = .malformed 0x48#8 0 0 ∧
    decodeBody [0x21#8, 0x00#8, 0x07#8, 0x01#8, 0x02#8] = .malformed 0x21#8 0 0 := by decide

/-- The bit times of a character: start bit, data bits least significant first, stop bit (R146). -/
theorem test_character_levels :
    characterLevels 0x5A#8 = [.space, .space, .mark, .space, .mark, .mark, .space, .mark, .space, .mark] := by decide

/-! ### The table of results and flags of the Cells chapter -/

theorem test_add_rows :
    cellAct (.add 1#32) 0x7FFFFFFF#32 = ⟨0x80000000#32, 0x80000000#32, ⟨true, false, true, false, false, false⟩⟩ ∧
    cellAct (.add 1#32) 0xFFFFFFFF#32 = ⟨0#32, 0#32, ⟨false, true, false, true, false, false⟩⟩ ∧
    cellAct (.add 0xFFFFFFFF#32) 5#32 = ⟨4#32, 4#32, ⟨false, false, false, true, false, false⟩⟩ ∧
    cellAct (.add 0xFFFFFFFF#32) 0#32 = ⟨0xFFFFFFFF#32, 0xFFFFFFFF#32, ⟨true, false, false, false, false, false⟩⟩ ∧
    cellAct (.add 0xFFFFFFFF#32) 0x80000000#32 =
      ⟨0x7FFFFFFF#32, 0x7FFFFFFF#32, ⟨false, false, true, true, false, false⟩⟩ := by decide

theorem test_mask_rows :
    cellAct (.setmask 0x101#32) 0xF0#32 = ⟨0x1F1#32, 0x1F1#32, ⟨false, true, false, false, false, false⟩⟩ ∧
    cellAct (.setmask 1#32) 0x1F1#32 = ⟨0x1F1#32, 0x1F1#32, ⟨false, false, false, false, false, false⟩⟩ ∧
    cellAct (.clearmask 0xF0#32) 0x1F1#32 = ⟨0x101#32, 0x101#32, ⟨false, false, false, false, false, false⟩⟩ ∧
    cellAct (.clearmask 0#32) 0x101#32 = ⟨0x101#32, 0x101#32, ⟨false, true, false, false, false, false⟩⟩ := by decide

theorem test_compareswap_rows :
    cellAct (.compareswap 10#32 11#32) 10#32 = ⟨11#32, 11#32, ⟨false, true, false, false, false, false⟩⟩ ∧
    cellAct (.compareswap 10#32 11#32) 12#32 = ⟨12#32, 12#32, ⟨false, false, false, false, false, false⟩⟩ ∧
    cellAct (.compareswap 1#32 0#32) 0xFFFFFFFF#32 =
      ⟨0xFFFFFFFF#32, 0xFFFFFFFF#32, ⟨true, false, false, false, false, false⟩⟩ ∧
    cellAct (.compareswap 0xFFFFFFFF#32 0#32) 1#32 = ⟨1#32, 1#32, ⟨false, false, false, true, false, false⟩⟩ := by
  decide

theorem test_extract_rows :
    cellAct (.extract 8#8 8#8 false) 0x12345678#32 =
      ⟨0x12345678#32, 0x56#32, ⟨false, false, false, false, false, false⟩⟩ ∧
    cellAct (.extract 8#8 8#8 true) 0xB400#32 =
      ⟨0xB400#32, 0xFFFFFFB4#32, ⟨true, false, false, false, false, false⟩⟩ ∧
    cellAct (.extract 28#8 4#8 false) 0x12345678#32 =
      ⟨0x12345678#32, 1#32, ⟨false, false, false, false, false, false⟩⟩ ∧
    cellAct (.extract 5#8 0#8 true) 0x12345678#32 =
      ⟨0x12345678#32, 0#32, ⟨false, true, false, false, false, false⟩⟩ := by decide

theorem test_insert_rows :
    cellAct (.insert 8#8 8#8 0x9A#32) 0x12345678#32 =
      ⟨0x12349A78#32, 0x12349A78#32, ⟨false, false, false, false, false, false⟩⟩ ∧
    cellAct (.insert 8#8 8#8 0x1AB#32) 0x12345678#32 =
      ⟨0x1234AB78#32, 0x1234AB78#32, ⟨false, false, true, false, false, false⟩⟩ ∧
    cellAct (.insert 28#8 4#8 8#32) 0x12345678#32 =
      ⟨0x82345678#32, 0x82345678#32, ⟨true, false, false, false, false, false⟩⟩ ∧
    cellAct (.insert 0#8 0#8 3#32) 0x12345678#32 =
      ⟨0x12345678#32, 0x12345678#32, ⟨false, false, true, false, false, false⟩⟩ := by decide

/-! ### Witnesses: the step, the resets, time and the arbiter -/

theorem test_meets_StepRunsFrontCommand :
    ({ State.reset with pending := [.timebaseTick, .deadlineDue] } : State).pending = .timebaseTick :: [.deadlineDue] ∧
    State.reset.pending = [] := ⟨rfl, rfl⟩

theorem test_meets_EveryCommandAnswersNext :
    ({ State.reset with resetn := .space } : State).resetn = .space ∧
    (∀ l st, Instr.timebaseTick ≠ .supplyPowerUp l st) ∧ (∀ st, Instr.timebaseTick ≠ .powerOnReset st) ∧
    ∀ p l, Instr.timebaseTick ≠ .inputLevelChange p l :=
  ⟨rfl, fun _ _ h => (nomatch h), fun _ h => (nomatch h), fun _ _ h => (nomatch h)⟩

/-- The straps change while the part runs and are sampled by its next reset (R147). -/
theorem test_straps_are_sampled_at_a_reset :
    (after (.inputLevelChange .ratesel1 .mark) State.reset).lineRate = .half ∧
    (after (.inputLevelChange .ratesel1 .mark) State.reset).resetPart.lineRate = .two ∧
    (after (.inputLevelChange .ratesel0 .mark) State.reset).resetPart.lineRate = .one := by decide +kernel

/-- A deadline list of one entry at a time, and the timebase. -/
def due (time now : Word) : State := { State.reset with timebase := now, deadlines := [⟨time, q0⟩] }

theorem test_meets_TimebaseTickAndDeadlineDue :
    (due 7#32 7#32).resetn = .mark ∧ (due 7#32 7#32).expiry = none ∧ (due 7#32 7#32).deadlines = ⟨7#32, q0⟩ :: [] ∧
    ((due 7#32 7#32).timebase - 7#32).toNat ≤ 2147483647 ∧
    ((due 0#32 2147483647#32).timebase - 0#32).toNat ≤ 2147483647 ∧
    2147483647 < ((due 0#32 2147483648#32).timebase - 0#32).toNat ∧ 2147483647 < ((due 8#32 7#32).timebase - 8#32).toNat ∧
    ({ State.reset with expiry := some q0 } : State).expiry = some q0 ∧ State.reset.deadlines = [] := by decide +kernel

theorem test_meets_TimebaseTickAndDeadlineDue_order :
    (∀ e ∈ [(⟨0#32, q0⟩ : DeadlineEntry), ⟨0xFFFFFFFF#32, q0⟩, ⟨0x7FFFFFFE#32, q0⟩],
      (e.time - 0xFFFFFFFF#32).toNat ≤ 2147483647) ∧
    [(⟨0xFFFFFFFF#32, q0⟩ : DeadlineEntry), ⟨0x7FFFFFFE#32, q0⟩].Pairwise DeadlineEntry.notAfter := by
  unfold DeadlineEntry.notAfter
  decide +kernel

/-- Equal times: port before tag; an earlier time across the wrap stands first (R56, R57). -/
theorem test_deadline_order :
    insertDeadline ⟨5#32, ⟨1, 3, 0⟩⟩ [⟨0xFFFFFFFF#32, ⟨2, 0, 0⟩⟩, ⟨5#32, ⟨1, 2, 0⟩⟩, ⟨5#32, ⟨2, 0, 0⟩⟩] =
      [⟨0xFFFFFFFF#32, ⟨2, 0, 0⟩⟩, ⟨5#32, ⟨1, 2, 0⟩⟩, ⟨5#32, ⟨1, 3, 0⟩⟩, ⟨5#32, ⟨2, 0, 0⟩⟩] := by decide +kernel

theorem test_deadline_at_its_time_is_presented :
    (after .deadlineDue (due 7#32 7#32)).expiry = some q0 ∧ (after .deadlineDue (due 7#32 7#32)).deadlines = [] ∧
    (after .deadlineDue (due 8#32 7#32)).expiry = none := by decide +kernel

/-- The claim of the counting semaphore, waiting on a cell in slot 5 with a deadline at 1201. -/
def claim : WaitRecord :=
  ⟨⟨1, 0, 5⟩, .cell (.add 0xFFFFFFFF#32) ⟨.gt, 0#32⟩, h5, some 1201#32, .object 5⟩

/-- A second claim behind it, without a deadline. -/
def claim2 : WaitRecord :=
  ⟨⟨2, 1, 9⟩, .cell (.add 0xFFFFFFFF#32) ⟨.gt, 0#32⟩, h5, none, .object 5⟩

/-- A cell of a value and policy in slot 5 with two claims waiting, at time 1201. -/
def claims (value : Word) (order : Order) : State :=
  { waiter (waiter (with_ State.reset 5 (.cell value order)) claim) claim2 with
    timebase := 1201#32, deadlines := [⟨1201#32, claim.sender⟩] }

/-- A wait of each other kind on the object of slot 5, alone. -/
def waitAs (request : WaitRequest) (l : WaitList) : WaitRecord := ⟨⟨1, 0, 5⟩, request, h5, some 9#32, l⟩

/-- A queue of limit 1 with one entry and a put waiting at its limit. -/
def fullQueue : State :=
  { waiter (withQueue { State.reset with free := 2047 } 5 ⟨[⟨7#32, 2⟩], 1, 0⟩) (waitAs (.put 3#32 .head) (.object 5)) with
    expiry := some ⟨1, 0, 5⟩ }

/-- An empty queue with a take waiting. -/
def emptyQueue : State :=
  { waiter (withQueue State.reset 5 ⟨[], 1, 0⟩) (waitAs (.take .tail) (.object 5)) with expiry := some ⟨1, 0, 5⟩ }

/-- A damaged lock held by port 3 with an acquire waiting. -/
def heldLock : State :=
  { waiter (with_ State.reset 5 (.lock (some ⟨3, 1#16⟩) 2 true)) (waitAs .acquire (.object 5)) with
    expiry := some ⟨1, 0, 5⟩ }

theorem test_meets_ExpiryJobTimesOutOrIsStale_stale :
    ({ State.reset with expiry := some q0 } : State).resetn = .mark ∧
    ({ State.reset with expiry := some q0 } : State).nextJob = some (.expiry q0) ∧
    ∀ w, ({ State.reset with expiry := some q0 } : State).waiterOf 0 0 = some w → w.sender.gen ≠ q0.gen :=
  ⟨rfl, by decide +kernel, fun w h => (nomatch h)⟩

theorem test_meets_ExpiryJobTimesOutOrIsStale_cell :
    ({ claims 0#32 .strict with expiry := some claim.sender } : State).nextJob = some (.expiry claim.sender) ∧
    (claims 0#32 .strict).waiterOf 1 0 = some claim ∧ claim.sender.gen = 5 ∧
    ((claims 0#32 .strict).object 5).map ObjectRecord.check = some .agrees ∧ claim.list = .object claim.target.slot ∧
    (∃ r, (claims 0#32 .strict).object 5 = some r ∧ (claims 0#32 .strict).timesOutWith claim r
      ⟨.timeout, ⟨false, true, false, false, true, false⟩, .cell 0#32 0#32⟩) ∧
    (claims 0#32 .strict).isStrictHead claim 5 ∧ ∀ i, ¬ (claims 0#32 .passing).isStrictHead claim i := by
  refine ⟨by decide +kernel, by decide +kernel, rfl, by decide +kernel, rfl, ?_, ?_, ?_⟩
  · exact ⟨⟨none, 0xFF#8, ⟨0, 1#16⟩, false, false, .agrees, .cell 0#32 .strict⟩, by decide +kernel,
      Or.inl ⟨_, _, 0#32, .strict, rfl, rfl, rfl⟩⟩
  · exact ⟨rfl, ⟨⟨none, 0xFF#8, ⟨0, 1#16⟩, false, false, .agrees, .cell 0#32 .strict⟩, 0#32, by decide +kernel, rfl⟩,
      by decide +kernel⟩
  · rintro i ⟨hl, ⟨r, v, ho, hp⟩, -⟩
    cases hl
    have h : (claims 0#32 .passing).object 5 =
        some ⟨none, 0xFF#8, ⟨0, 1#16⟩, false, false, .agrees, .cell 0#32 .passing⟩ := by decide +kernel
    rw [h] at ho
    cases ho
    cases hp

theorem test_meets_ExpiryJobTimesOutOrIsStale_put_take_acquire :
    (fullQueue.nextJob = some (.expiry ⟨1, 0, 5⟩) ∧ (∃ r, fullQueue.object 5 = some r ∧
      fullQueue.timesOutWith (waitAs (.put 3#32 .head) (.object 5)) r ⟨.timeout, Flags.waited, .depth 1⟩)) ∧
    (emptyQueue.nextJob = some (.expiry ⟨1, 0, 5⟩) ∧ (∃ r, emptyQueue.object 5 = some r ∧
      emptyQueue.timesOutWith (waitAs (.take .tail) (.object 5)) r ⟨.timeout, Flags.waited, .depth 0⟩)) ∧
    (heldLock.nextJob = some (.expiry ⟨1, 0, 5⟩) ∧ (∃ r, heldLock.object 5 = some r ∧
      heldLock.timesOutWith (waitAs .acquire (.object 5)) r
        ⟨.timeout, ⟨false, false, false, false, true, true⟩, .lock (some 3) 2⟩)) := by
  refine ⟨⟨by decide +kernel, ?_⟩, ⟨by decide +kernel, ?_⟩, ⟨by decide +kernel, ?_⟩⟩
  · exact ⟨⟨none, 0xFF#8, ⟨0, 1#16⟩, false, false, .agrees, .queue⟩, by decide +kernel,
      Or.inr (Or.inl ⟨_, _, ⟨[⟨7#32, 2⟩], 1, 0⟩, rfl, by decide +kernel, rfl⟩)⟩
  · exact ⟨⟨none, 0xFF#8, ⟨0, 1#16⟩, false, false, .agrees, .queue⟩, by decide +kernel,
      Or.inr (Or.inr (Or.inl ⟨_, ⟨[], 1, 0⟩, rfl, by decide +kernel, rfl⟩))⟩
  · exact ⟨⟨none, 0xFF#8, ⟨0, 1#16⟩, false, false, .agrees, .lock (some ⟨3, 1#16⟩) 2 true⟩, by decide +kernel,
      Or.inr (Or.inr (Or.inr ⟨some ⟨3, 1#16⟩, 2, true, rfl, rfl, rfl⟩))⟩

/-- A queue whose record fails its check, with a reserve term of 2, and the take of port 1 on it expiring. -/
def failingQueue : State :=
  { with_ emptyQueue 5 .queue false .fails with queues := emptyQueue.queues.set 5 (some ⟨[], 4, 2⟩) }

theorem test_meets_ExpiryJobTimesOutOrIsStale_fails :
    failingQueue.nextJob = some (.expiry ⟨1, 0, 5⟩) ∧
    failingQueue.waiterOf 1 0 = some (waitAs (.take .tail) (.object 5)) ∧
    failingQueue.object 5 = some ⟨none, 0xFF#8, ⟨0, 1#16⟩, false, false, .fails, .queue⟩ ∧
    failingQueue.promisesEntries 5 ⟨none, 0xFF#8, ⟨0, 1#16⟩, false, false, .fails, .queue⟩ ∧
    ¬ (with_ emptyQueue 5 .queue false .fails).promisesEntries 5
      ⟨none, 0xFF#8, ⟨0, 1#16⟩, false, false, .fails, .queue⟩ := by
  refine ⟨by decide +kernel, by decide +kernel, by decide +kernel, ⟨rfl, ⟨[], 4, 2⟩, by decide +kernel, by decide⟩, ?_⟩
  rintro ⟨-, a, h, h'⟩
  have ha : (with_ emptyQueue 5 .queue false .fails).queue 5 = some ⟨[], 1, 0⟩ := by decide +kernel
  rw [ha] at h
  cases h
  exact absurd h' (by decide)

/-- Two deadlines due together: the next is presented as the first job is taken, and stays presented when that job's scan
serves its waiter (R58, R59). -/
theorem test_next_deadline_is_presented_as_the_job_is_taken :
    (after .expiryJob { claims 1#32 .strict with
      expiry := some claim.sender, deadlines := [⟨1201#32, claim2.sender⟩] }).expiry = some claim2.sender ∧
    told (after .expiryJob { claims 1#32 .strict with
      expiry := some claim.sender, deadlines := [⟨1201#32, claim2.sender⟩] }) 2 =
        [(.ok, ⟨false, true, false, true, true, false⟩, .cell 1#32 0#32)] ∧
    told (after .expiryJob failingQueue) 1 = [(.fault, Flags.waited, .none)] := by decide +kernel

theorem test_expiry_of_the_head_claim :
    told (after .expiryJob { claims 0#32 .strict with expiry := some claim.sender }) 1 =
      [(.timeout, ⟨false, true, false, false, true, false⟩, .cell 0#32 0#32)] ∧
    (after .expiryJob { claims 0#32 .strict with expiry := some claim.sender }).waits = [claim2] := by decide +kernel

theorem test_meets_ArbiterTakesFirstPresentingSource :
    (asked (asked State.reset ⟨2, 0, 1⟩ .storeClear) ⟨6, 0, 1⟩ .partReset).resetPending = false ∧
    ({ asked (asked State.reset ⟨2, 0, 1⟩ .storeClear) ⟨6, 0, 1⟩ .partReset with searchStart := 3 } : State).nextJob =
      some (.request 6 ⟨0, 1, .partReset⟩) ∧
    ({ asked State.reset q0 .storeClear with resetPending := true } : State).nextJob = none ∧
    (∀ k, State.reset.presents k = none) ∧ isStoreJob .storeClear = true ∧
    State.reset.nextJob ≠ some (.request 0 ⟨0, 1, .storeClear⟩) ∧ (∀ q, State.reset.nextJob ≠ some (.expiry q)) ∧
    ∀ j, State.reset.nextJob ≠ some (.teardown 0 j) := by
  have h : State.reset.nextJob = none := by decide +kernel
  refine ⟨by decide +kernel, by decide +kernel, by decide +kernel, by decide +kernel, rfl, ?_, ?_, ?_⟩ <;> simp [h]

/-! ### Witnesses: the port unit -/

theorem test_meets_OpenSessionAnswersAtOnce : (opened State.reset 3).accepts ⟨3, 2, 63⟩ := by decide +kernel

theorem test_nop_and_its_replay :
    told (after (.nop ⟨3, 2, 5⟩) (opened State.reset 3)) 3 = [(.ok, Flags.clear, .none)] ∧
    ((after (.nop ⟨3, 2, 5⟩) (opened State.reset 3)).port 3).tag 2 =
      ⟨.replying 5, some ⟨0x01#8, 2, 5, .ok, Flags.clear, false, .none⟩⟩ := by decide +kernel

/-- A port CLOSING after a CLOSE, or after a lapse. -/
def closing (cause : EndCause) (p : Port) : State :=
  State.reset.setPort p { State.reset.port p with
    session := ⟨.closing, 4#16, 0#16, none, cause, .stopped⟩, teardown := some ⟨4#16, cause, none, []⟩ }

/-- A port with four untracked frames in its queue. -/
def crowded : State :=
  after (.identify ⟨2, 0, 0⟩) (after (.nop ⟨2, 0, 0⟩) (after (.nop ⟨2, 0, 0⟩) (after (.nop ⟨2, 0, 0⟩) State.reset)))

theorem test_meets_SessionStateDecidesDecode :
    State.reset.resetn = .mark ∧ (State.reset.port 2).session.state = .closed ∧
    ((State.reset.port 2).queue.filter (fun f => f.tag.isNone)).length < 4 ∧
    (crowded.port 2).session.state = .closed ∧ 4 ≤ ((crowded.port 2).queue.filter (fun f => f.tag.isNone)).length ∧
    ((closing .lapsed 2).port 2).session.state = .closing ∧ isStoreJob .nop = false ∧
    Request.wellFormed .nop = true := by decide +kernel

theorem test_fifth_untracked_frame_is_dropped :
    (after (.nop ⟨2, 0, 0⟩) crowded).port 2 =
      { crowded.port 2 with stats := { (crowded.port 2).stats with refusalsDropped := 1#16 } } := by decide +kernel

theorem test_meets_OpenOpensSession :
    State.reset.resetn = .mark ∧ (State.reset.port 3).session.state = .closed ∧
    (10 ≤ (10#16 : Half).toNat ∧ (60000#16 : Half).toNat ≤ 60000) ∧ (9#16 : Half).toNat < 10 ∧
    60000 < (60001#16 : Half).toNat ∧
    (∀ b ∈ ([0x21#8, 0x7E#8] : Label), 0x21 ≤ b.toNat ∧ b.toNat ≤ 0x7E) ∧
    (∃ b ∈ ([0x20#8] : Label), b.toNat < 0x21 ∨ 0x7E < b.toNat) ∧
    8 < ([65#8, 65#8, 65#8, 65#8, 65#8, 65#8, 65#8, 65#8, 65#8] : Label).length := by decide +kernel

theorem test_open_opens_a_session :
    ((after (.openSession ⟨3, 1, 9⟩ 500#16 [0x41#8]) State.reset).port 3).session =
      ⟨.opened, 1#16, 500#16, some [0x41#8], .none, .running 500#32⟩ := by decide +kernel

theorem test_meets_CloseEndsSession : (asked State.reset ⟨3, 2, 7⟩ .storeClear).accepts ⟨3, 1, 7⟩ := by decide +kernel

/-- Tag 2 of port 3 IDLE with a cached reply of generation 5. -/
def cached : State :=
  (opened State.reset 3).setPort 3 (((opened State.reset 3).port 3).setTag 2
    ⟨.idle, some ⟨0x01#8, 2, 5, .ok, Flags.clear, false, .none⟩⟩)

theorem test_meets_TagTableDecidesRepeats :
    (cached.port 3).session.state = .opened ∧
    (cached.port 3).tag 2 = ⟨.idle, some ⟨0x01#8, 2, 5, .ok, Flags.clear, false, .none⟩⟩ ∧
    ((cached.port 3).tag 2).cache.map Reply.gen ≠ some 6 ∧
    (((asked State.reset ⟨3, 2, 5⟩ .storeClear).port 3).tag 2).state.gen? = some 5 ∧ isStoreJob .storeClear = true := by
  decide +kernel

theorem test_meets_MalformedBodyIsRefused :
    (0x85#8 : Byte).toNat = (2 : Tag).val * 64 + (5 : Gen).val ∧
    (∀ c : RequestCode, c.byte = 0x07#8 → lengthAllowed c (0 + 2) = false) ∧
    (∀ c : RequestCode, c.byte = 0x01#8 → lengthAllowed c (1 + 2) = false) ∧
    RequestCode.setOrder.byte = 0x21#8 ∧ requestOf .setOrder [7#8, 1#8, 2#8] = none := by
  refine ⟨by decide, ?_, ?_, by decide, by decide⟩ <;> (intro c h; cases c <;> first | rfl | exact absurd h (by decide))

/-- A value outside a code field's list, and bodies with every code field in its list (R181). -/
theorem test_meets_MalformedBodyIsRefused_codes :
    holdsUndefinedCode 0x50#8 [2#8, 8#8] ∧ ¬ holdsUndefinedCode 0x50#8 [2#8, 7#8] ∧
    holdsUndefinedCode 0x10#8 [2#8, 1#8, 0#8, 0#8, 0#8, 0#8, 0#8, 0#8, 0#8, 9#8, 0#8] ∧
    ¬ holdsUndefinedCode 0x10#8 [2#8, 255#8, 255#8, 0#8, 1#8, 0#8, 0#8, 0#8, 0#8, 9#8, 0#8] ∧
    lengthAllowed .create (11 + 2) = true ∧ lengthAllowed .setRights (2 + 2) = true := by
  refine ⟨?_, ?_, ?_, ?_, rfl, rfl⟩ <;> (unfold holdsUndefinedCode; decide)

theorem test_meets_CompletionIsTaken :
    ((opened State.reset 2).port 2).session.state = .opened ∧
    (((closing .closed 2).port 2).session.state = .closing ∧ ((closing .closed 2).port 2).session.cause = .closed) ∧
    (((closing .lapsed 2).port 2).session.state = .closing ∧ ((closing .lapsed 2).port 2).session.cause ≠ .closed) ∧
    (State.reset.port 2).session.state = .closed := by decide +kernel

/-! ### Witnesses: the links -/

/-- A receiver of port 1 in a state, with the bytes collected and a body count. -/
def collecting (state : ReceiveState) (bytes : List Byte) (count : Nat) : State :=
  State.reset.setPort 1 { State.reset.port 1 with
    rx := ⟨state, bytes, count, .running 5#32, .atMark, .waiting⟩ }

/-- Port 1 with its input at space, its receiver in a character, the break detector measuring since a time. -/
def atSpace (since now : Word) : State :=
  { State.reset.setPort 1 { State.reset.port 1 with
      rxd := .space, rx := ⟨.hunt, [], 0, .stopped, .measuring since, .inCharacter⟩ } with timebase := now }

theorem test_meets_CharacterIsCollected :
    (State.reset.port 1).rxd = .mark ∧ (State.reset.port 1).rx.phase ≠ .awaitingMark ∧
    (State.reset.port 1).rx.state = .hunt ∧ ((collecting .length [] 0).port 1).rx.state = .length ∧
    (2 ≤ (2#8 : Byte).toNat ∧ (64#8 : Byte).toNat ≤ 64) ∧ ¬ (2 ≤ (1#8 : Byte).toNat ∧ (1#8 : Byte).toNat ≤ 64) ∧
    ¬ (2 ≤ (65#8 : Byte).toNat ∧ (65#8 : Byte).toNat ≤ 64) ∧ (1#8 : Byte) ≠ 0x5A#8 ∧
    ((collecting .body [2#8] 2).port 1).rx.state = .body ∧
    ((collecting .check [2#8, 0#8, 0#8] 0).port 1).rx.state = .check ∧
    ((collecting .check [2#8, 0#8, 0#8] 0).port 1).rx.partialFrame = 2#8 :: [0#8, 0#8] ∧
    ((atSpace 0#32 0#32).port 1).rxd = .space ∧ ((atSpace 0#32 0#32).port 1).rx.phase = .inCharacter ∧
    ((after (.characterReceived 1 0x5A#8) (atSpace 0#32 0#32)).port 1).rx.phase = .awaitingMark ∧
    (((atSpace 0#32 0#32).setPort 1 (((atSpace 0#32 0#32).port 1).withPhase .waiting)).port 1).rxd = .space := by
  decide +kernel

theorem test_start_byte_in_the_length_place :
    ((after (.characterReceived 1 0x5A#8) (collecting .length [] 0)).port 1).rx.state = .length ∧
    ((after (.characterReceived 1 0x5A#8) (collecting .length [] 0)).port 1).stats.lengthErrors = 1#16 ∧
    ((after (.characterReceived 1 0x41#8) (collecting .length [] 0)).port 1).rx.state = .hunt := by decide +kernel

/-- The frame of body 01h 41h but for its last check byte. -/
def almost : State := collecting .check [0x02#8, 0x01#8, 0x41#8, (frameCheck [0x02#8, 0x01#8, 0x41#8]).extractLsb' 8 8] 0

theorem test_meets_LastCheckByteEndsFrame :
    decodeBody [0x01#8, 0x41#8] = .request 1 1 .nop ∧
    almost.resetn = .mark ∧ (almost.port 1).rxd = .mark ∧ (almost.port 1).rx.phase ≠ .awaitingMark ∧
    (almost.port 1).rx.state = .check ∧
    (almost.port 1).rx.partialFrame =
      0x02#8 :: ([0x01#8, 0x41#8] ++ [(frameCheck [0x02#8, 0x01#8, 0x41#8]).extractLsb' 8 8]) ∧
    ([0x01#8, 0x41#8] : List Byte).length = (0x02#8 : Byte).toNat ∧
    ((frameCheck [0x02#8, 0x01#8, 0x41#8]).extractLsb' 8 8 ++ (frameCheck [0x02#8, 0x01#8, 0x41#8]).extractLsb' 0 8 :
      Half) = frameCheck [0x02#8, 0x01#8, 0x41#8] ∧
    ((frameCheck [0x02#8, 0x01#8, 0x41#8]).extractLsb' 8 8 ++ 0x00#8 : Half) ≠ frameCheck [0x02#8, 0x01#8, 0x41#8] := by
  decide +kernel

theorem test_good_frame_is_decoded_and_bad_one_counted :
    told (after (.frameReceived 1 ((frameCheck [0x02#8, 0x01#8, 0x41#8]).extractLsb' 0 8)) almost) 1 =
      [(.ok, Flags.clear, .none)] ∧
    ((after (.frameReceived 1 ((frameCheck [0x02#8, 0x01#8, 0x41#8]).extractLsb' 0 8)) almost).port 1).stats =
      ⟨1#16, 0#16, 0#16, 0#16, 0#16, 0#16, 0#16, 0#16, 0#16, 0#16, 0#16⟩ ∧
    ((after (.frameReceived 1 0x00#8) almost).port 1).stats.checkErrors = 1#16 := by decide +kernel

/-- Port 1 with an open session of silence limit 10, running out at 10, with the PART_RESET reply in its queue or not. -/
def silent (now : Word) (purpose : Purpose) : State :=
  { State.reset.setPort 1 { State.reset.port 1 with
      session := ⟨.opened, 1#16, 10#16, none, .none, .running 10#32⟩
      queue := [⟨some 2, ⟨0x56#8, 2, 5, .ok, Flags.clear, false, .none⟩, purpose⟩]
      tags := Vector.replicate 4 ⟨.replying 5, none⟩ } with
    timebase := now }

/-- The same port with its input at space since time 8. -/
def breaking (purpose : Purpose) : State :=
  (silent 10#32 purpose).setPort 1 { (silent 10#32 purpose).port 1 with
    rxd := .space, rx := ⟨.hunt, [], 0, .stopped, .measuring 8#32, .awaitingMark⟩ }

/-- A break in the middle of a frame counts once as a gap error and once as a break (R155). -/
theorem test_break_in_a_frame :
    ((after (.lineBreak 1) ((breaking .plain).setPort 1 (((breaking .plain).port 1).withRx
      ⟨.body, [2#8], 2, .running 9#32, .measuring 8#32, .awaitingMark⟩))).port 1).stats =
        ⟨0#16, 0#16, 0#16, 1#16, 1#16, 0#16, 0#16, 0#16, 0#16, 0#16, 0#16⟩ ∧
    ((after (.lineBreak 1) (breaking .plain)).port 1).stats.gapErrors = 0#16 := by decide +kernel

theorem test_meets_GapErrorsLevelsAndBreaks :
    ((collecting .body [2#8] 2).port 1).rx.gapTimer = .running 5#32 ∧
    (({ collecting .body [2#8] 2 with timebase := 5#32 } : State).timebase - 5#32).toNat ≤ 2147483647 ∧
    2147483647 < (({ collecting .body [2#8] 2 with timebase := 4#32 } : State).timebase - 5#32).toNat ∧
    (State.reset.port 1).rx.gapTimer = .stopped ∧ (State.reset.port 1).rxd = .mark ∧
    ((atSpace 3#32 5#32).port 1).rxd = .space ∧
    ((atSpace 3#32 5#32).port 1).rx.breakDetector = .measuring 3#32 ∧
    ((atSpace 3#32 5#32).timebase - (3#32 + 2#32)).toNat ≤ 2147483647 ∧
    2147483647 < ((atSpace 3#32 4#32).timebase - (3#32 + 2#32)).toNat ∧
    ((atSpace 3#32 5#32).port 1).session.state ≠ .opened ∧
    ((breaking .plain).port 1).session.state = .opened ∧
    (∀ f ∈ ((breaking .plain).port 1).unsent, f.purpose ≠ .partResetReply) ∧
    (∃ f ∈ ((breaking .partResetReply).port 1).unsent, f.purpose = .partResetReply) ∧
    (State.reset.port 1).rx.breakDetector = .atMark ∧
    (({ (State.reset.port 1).rx with breakDetector := .reported } : Receiver)).breakDetector = .reported := by
  decide +kernel

/-- Held in reset, with port 1's input at space. -/
def heldAtSpace : State := { atSpace 0#32 0#32 with resetn := .space }

theorem test_meets_GapErrorsLevelsAndBreaks_held :
    heldAtSpace.resetn = .space ∧ (heldAtSpace.port 1).rxd ≠ .mark ∧ (heldAtSpace.port 1).rxd = .space ∧
    (heldAtSpace.port 2).rxd ≠ .space ∧
    ((after (.inputLevelChange (.link 2) .space) heldAtSpace).port 2).rxd = .space ∧
    ((after (.inputLevelChange (.link 2) .space) heldAtSpace).port 2).rx =
      ⟨.hunt, [], 0, .stopped, .measuring 0#32, .waiting⟩ ∧
    ((after (.inputLevelChange (.link 1) .mark) heldAtSpace).port 1).rx =
      ⟨.hunt, [], 0, .stopped, .atMark, .waiting⟩ := by decide +kernel

theorem test_break_ends_the_session_and_gap_ends_the_frame :
    ((after (.lineBreak 1) (breaking .plain)).port 1).session.state = .closing ∧
    ((after (.lineBreak 1) (breaking .plain)).port 1).session.cause = .broken ∧
    ((after (.lineBreak 1) (breaking .plain)).port 1).queue = [] ∧
    ((after (.lineBreak 1) (breaking .plain)).port 1).stats.breaks = 1#16 ∧
    ((after (.gapError 1) { collecting .body [2#8] 2 with timebase := 5#32 }).port 1).rx.state = .hunt := by
  decide +kernel

theorem test_meets_LapseEndsSession :
    (silent 10#32 .plain).resetn = .mark ∧ ((silent 10#32 .plain).port 1).session.state = .opened ∧
    ((silent 10#32 .plain).port 1).session.timer = .running 10#32 ∧
    ((silent 10#32 .plain).timebase - 10#32).toNat ≤ 2147483647 ∧
    (∀ f ∈ ((silent 10#32 .plain).port 1).unsent, f.purpose ≠ .partResetReply) ∧
    (∃ f ∈ ((silent 10#32 .partResetReply).port 1).unsent, f.purpose = .partResetReply) ∧
    2147483647 < ((silent 9#32 .plain).timebase - 10#32).toNat ∧
    (State.reset.port 1).session.timer = .stopped := by decide +kernel

theorem test_lapse :
    ((after (.lapse 1) (silent 10#32 .plain)).port 1).session = ⟨.closing, 1#16, 10#16, none, .lapsed, .stopped⟩ ∧
    ((after (.lapse 1) (silent 10#32 .plain)).port 1).stats.lapses = 1#16 ∧
    (after (.lapse 1) (silent 10#32 .partResetReply)).timebase = 0#32 := by decide +kernel

/-- Port 1 sending the head frame of its queue, its session in a state. -/
def sending (state : SessionState) (tag : Option Tag) (purpose : Purpose) : State :=
  State.reset.setPort 1 { State.reset.port 1 with
    session := ⟨state, 1#16, 0#16, none, .closed, .stopped⟩
    tx := .sending [0x5A#8]
    queue := [⟨tag, ⟨0x04#8, 2, 5, .ok, Flags.clear, false, .closed 0 0 0⟩, purpose⟩]
    tags := Vector.replicate 4 ⟨.replying 5, none⟩ }

theorem test_meets_FrameIsSentFromTheHead :
    ((crowded.port 2).tx = .free ∧ ∃ f rest, (crowded.port 2).queue = f :: rest) ∧
    ((sending .opened (some 2) .plain).port 1).tx = .sending [0x5A#8] ∧
    ((sending .opened none .plain).port 1).queue.map (fun f => (f.tag, f.purpose)) = [(none, .plain)] ∧
    ((sending .opened (some 2) .plain).port 1).queue.map (fun f => (f.tag, f.purpose)) = [(some 2, .plain)] ∧
    ((sending .closing (some 2) .closeReply).port 1).queue.map TxFrame.purpose = [.closeReply] ∧
    ((sending .closing (some 2) .closeReply).port 1).session.state = .closing ∧
    ((sending .opened (some 2) .partResetReply).port 1).queue.map TxFrame.purpose = [.partResetReply] := by
  refine ⟨⟨by decide +kernel, _, _, rfl⟩, ?_⟩
  decide +kernel

theorem test_meets_FrameIsSentFromTheHead_body :
    (Status.timeout, 0x24) ∈ statusCodes ∧
    (∀ i < 8, (0x2C#8 : Byte).getLsbD i =
      (([false, false, true, true, false, true, false, false] : List Bool).getD i false)) ∧
    ([(.idle, none), (.pending 3, some 5), (.idle, none), (.idle, none)] : List (TagState × Option Gen)).length = 4 ∧
    (ReplyData.tagBusy (.waiting 9)).layout.flatMap (fun f => numberBytes f.1 f.2) = [0x02#8, 0x09#8] ∧
    numberBytes 4 0x12345678 = [0x12#8, 0x34#8, 0x56#8, 0x78#8] := by decide +kernel

theorem test_every_status_has_a_code : ∀ status, ∃ code, (status, code) ∈ statusCodes := by
  intro status
  cases status <;> exact ⟨_, by simp [statusCodes]; rfl⟩

theorem test_last_byte_of_a_close_reply :
    ((after (.frameSent 1) (sending .closing (some 2) .closeReply)).port 1).session.state = .closed ∧
    ((after (.frameSent 1) (sending .closing (some 2) .closeReply)).port 1).tag 3 = ⟨.idle, none⟩ ∧
    ((after (.frameSent 1) (sending .opened (some 2) .plain)).port 1).tag 2 = ⟨.idle, none⟩ ∧
    ((after (.transmitStart 2) crowded).port 2).tx =
      .sending (frameBytes [0x01#8, 0x00#8, 0x00#8, 0x00#8]) := by decide +kernel

theorem test_meets_FrameIsCollectedWhole :
    State.reset.resetn = .mark ∧ (State.reset.port 7).rxd = .mark ∧ (State.reset.port 7).rx.state = .hunt ∧
    (State.reset.port 7).rx.phase ≠ .awaitingMark ∧ 2 ≤ ([0x01#8, 0x00#8] : List Byte).length ∧
    (List.replicate 64 0x01#8).length ≤ 64 := by decide +kernel

theorem test_meets_DecodeOfEncodeIsTheRequest :
    (Request.create .any 0x06#8 true (.queue 4#16 2#16) [0x4A#8]).wellFormed = true ∧
    decodeBody (encodeBody 3 63 (.create .any 0x06#8 true (.queue 4#16 2#16) [0x4A#8])) =
      .request 3 63 (.create .any 0x06#8 true (.queue 4#16 2#16) [0x4A#8]) := by decide

/-! ### Witnesses: requests that name an object -/

/-- A cell of value 7 in slot 5. -/
def aCell (order : Order) : State := with_ State.reset 5 (.cell 7#32 order)

/-- A record as `with_` writes it. -/
def made (part : KindPart) (check : RecordCheck := .agrees) (quarantined : Bool := false) : ObjectRecord :=
  ⟨none, 0xFF#8, ⟨0, 1#16⟩, false, quarantined, check, part⟩

/-- The refusals of steps 2 to 7: no object, another stamp, kind, access, quarantine, right, range. -/
theorem test_meets_FirstFailingCheckDecides :
    requestHandle (.peek h5 0#16) = some h5 ∧ (asked State.reset q0 (.peek h5 0#16)).serves q0 (.peek h5 0#16) ∧
    (asked State.reset q0 (.peek h5 0#16)).object 5 = none ∧ ((aCell .strict).slot 5).stamp ≠ 2#8 ∧
    (asked (aCell .strict) q0 (.peek h5 0#16)).serves q0 (.peek h5 0#16) ∧
    ((asked (aCell .strict) q0 (.peek h5 0#16)).slot h5.slot).stamp = h5.stamp ∧
    (aCell .strict).object 5 = some (made (.cell 7#32 .strict)) ∧
    (aCell .strict).firstRefusal q0 (.peek h5 0#16) (made (.cell 7#32 .strict)) = some .wrongKind ∧
    (aCell .strict).firstRefusal q0 (.setOrder h5 .passing) { made (.cell 7#32 .strict) with access := 0#8 } =
      some .noAccess ∧
    (aCell .strict).firstRefusal q0 (.setOrder h5 .passing) (made (.cell 7#32 .strict) .fails true) = some .fault ∧
    (aCell .strict).firstRefusal ⟨3, 0, 1⟩ (.setAccess h5 0#8) (made (.cell 7#32 .strict)) = some .noRight ∧
    (aCell .strict).firstRefusal q0 (.cell h5 (.extract 31#8 2#8 true) always 0#16) (made (.cell 7#32 .strict)) =
      some .range ∧
    (aCell .strict).firstRefusal q0 (.cell h5 (.extract 31#8 1#8 true) always 0#16) (made (.cell 7#32 .strict)) = none ∧
    (withQueue State.reset 5 ⟨[⟨7#32, 2⟩], 4, 0⟩).firstRefusal q0 (.peek h5 1#16) (made .queue) = some .range ∧
    (withQueue State.reset 5 ⟨[⟨7#32, 2⟩], 4, 0⟩).firstRefusal q0 (.peek h5 0#16) (made .queue) = none ∧
    (withQueue State.reset 5 ⟨[⟨7#32, 2⟩], 4, 0⟩).firstRefusal q0 (.setQueueLimits h5 2048#16 2048#16) (made .queue) =
      none ∧
    (withQueue State.reset 5 ⟨[⟨7#32, 2⟩], 4, 0⟩).firstRefusal q0 (.setQueueLimits h5 2049#16 0#16) (made .queue) =
      some .range := by
  decide +kernel

theorem test_refusals_reach_the_port :
    told (after (.peek q0 h5 0#16) (asked State.reset q0 (.peek h5 0#16))) 0 = [(.noObject, Flags.clear, .none)] ∧
    told (after (.peek q0 h5 0#16) (asked (aCell .strict) q0 (.peek h5 0#16))) 0 =
      [(.wrongKind, Flags.clear, .none)] := by decide +kernel

/-- A cell whose record fails its check, with the claim waiting on it. -/
def failing : State := waiter (with_ State.reset 5 (.cell 7#32 .strict) false .fails) claim

theorem test_meets_FailingRecordIsQuarantined :
    failing.object 5 = some (made (.cell 7#32 .strict) .fails) ∧ requestHandle (.describe h5) = some h5 ∧
    (asked failing q0 (.describe h5)).serves q0 (.describe h5) ∧
    (asked failing q0 (.describe h5)).resolve h5 = some (made (.cell 7#32 .strict) .fails) ∧
    KindPart.cell 7#32 .strict ≠ .queue := by decide +kernel

/-- A record agrees with its check: what the removal of a waiter of the cell in slot 5 needs. -/
theorem listAgrees_of_agrees {s : State} {i : SlotNo} (h : (s.object i).map ObjectRecord.check ≠ some .fails) :
    s.listAgrees (.object i) := by
  rintro k r hk ho
  cases hk
  rw [ho] at h
  cases hc : r.check with
  | agrees => rfl
  | fails => simp [hc] at h

theorem test_meets_FailingRecordIsQuarantined_dismissal :
    (claims 0#32 .strict).listAgrees claim.list ∧ State.reset.listAgrees .pool :=
  ⟨listAgrees_of_agrees (by decide +kernel), fun _ _ h => (nomatch h)⟩

/-- The failing queue with a reserve term, named by a request. -/
theorem test_meets_FailingRecordIsQuarantined_queue :
    (asked failingQueue q0 (.flush h5)).nextJob = some (.request 0 ⟨0, 1, .flush h5⟩) ∧
    (asked failingQueue q0 (.flush h5)).resolve h5 = some (made .queue .fails) ∧
    (asked failingQueue q0 (.flush h5)).promisesEntries 5 (made .queue .fails) :=
  ⟨by decide +kernel, by decide +kernel, rfl, ⟨[], 4, 2⟩, by decide +kernel, by decide⟩

/-- FIND by port 0 of a label that leads to slot 5. -/
def finding (s : State) : State := { asked s q0 (.find [0x4A#8]) with labelMap := [([0x4B#8], 6), ([0x4A#8], 5)] }

/-- FIND whose label leads to a failing cell, or to a failing queue with a reserve term. -/
theorem test_meets_FailingRecordIsQuarantined_find :
    (finding failing).serves q0 (.find [0x4A#8]) ∧ (∀ b ∈ [0x4A#8], 0x21 ≤ (b : Byte).toNat ∧ b.toNat ≤ 0x7E) ∧
    (finding failing).labelMap = [([0x4B#8], 6)] ++ ([0x4A#8], 5) :: [] ∧
    (∀ e ∈ ([([0x4B#8], 6)] : List (Label × SlotNo)), e.1 ≠ [0x4A#8]) ∧
    (finding failing).object 5 = some (made (.cell 7#32 .strict) .fails) ∧
    (finding failingQueue).nextJob = some (.request 0 ⟨0, 1, .find [0x4A#8]⟩) ∧
    (finding failingQueue).object 5 = some (made .queue .fails) ∧
    (finding failingQueue).promisesEntries 5 (made .queue .fails) :=
  ⟨by decide +kernel, by decide +kernel, by decide +kernel, by decide +kernel, by decide +kernel, by decide +kernel,
    by decide +kernel, rfl, ⟨[], 4, 2⟩, by decide +kernel, by decide⟩

theorem test_find_quarantines_what_its_label_leads_to :
    told (after (.find q0 [0x4A#8]) (finding failing)) 0 = [(.fault, Flags.clear, .none)] ∧
    told (after (.find q0 [0x4A#8]) (finding failing)) 1 = [(.fault, Flags.waited, .none)] ∧
    (after (.find q0 [0x4A#8]) (finding failing)).alerts = [⟨.quarantine h5, 0#32⟩] ∧
    ((after (.find q0 [0x4A#8]) (finding failingQueue)).queue 5).map QueueAccount.reserve = some 0 := by decide +kernel

theorem test_quarantine_faults_the_request_and_the_waiter :
    told (after (.describe q0 h5) (asked failing q0 (.describe h5))) 0 = [(.fault, Flags.clear, .none)] ∧
    told (after (.describe q0 h5) (asked failing q0 (.describe h5))) 1 = [(.fault, Flags.waited, .none)] ∧
    (after (.describe q0 h5) (asked failing q0 (.describe h5))).alerts = [⟨.quarantine h5, 0#32⟩] := by decide +kernel

/-- The quarantine of a queue: outstanding reserve 5 and free count 5, a put of port 4 to queue 20 on the pool list. -/
def q12 : State :=
  waiter (withQueue (withQueue (withQueue { State.reset with free := 5 } 12 ⟨[⟨7#32, 2⟩], 4, 3⟩) 30 ⟨[], 8, 3⟩) 20
    ⟨List.replicate 6 ⟨1#32, 1⟩, 16, 3⟩) ⟨⟨4, 2, 1⟩, .put 9#32 .tail, ⟨20, 1#8⟩, none, .pool⟩

/-- That state after the TAKE that finds the record of queue 12 failing. -/
def q12Taken : State :=
  after (.take q0 ⟨12, 1#8⟩ .head 0#16) (asked (with_ q12 12 .queue false .fails) q0 (.take ⟨12, 1#8⟩ .head 0#16))

theorem test_quarantine_of_a_queue :
    q12Taken.queue 12 = some ⟨[⟨7#32, 2⟩], 4, 0⟩ ∧ q12Taken.free = 4 ∧
    (q12Taken.queue 20).map (fun a => a.chain.length) = some 7 ∧ q12Taken.waits = [] ∧
    told q12Taken 0 = [(.fault, Flags.clear, .none)] ∧ told q12Taken 4 = [(.ok, Flags.waited, .depth 7)] := by
  decide +kernel

theorem test_meets_CreatePlacesObjectOrIsRefused_placed :
    (asked (aCell .strict) q0 (.create .any 0#8 false (.queue 4#16 2#16) [0x4A#8])).serves q0
      (.create .any 0#8 false (.queue 4#16 2#16) [0x4A#8]) ∧
    ((aCell .strict).rightsOf 0).create = true ∧ createFieldsInRange (.queue 4#16 2#16) [0x4A#8] = true ∧
    (aCell .strict).usesSlot .any 0 ∧ (aCell .strict).usesSlot (.slot 6) 6 ∧
    (∀ e ∈ (aCell .strict).labelMap, e.1 ≠ [0x4A#8]) ∧
    (aCell .strict).outstanding + reserveAsked (.queue 2048#16 2048#16) ≤ (aCell .strict).free := by
  refine ⟨by decide +kernel, by decide +kernel, by decide +kernel, ⟨by decide +kernel, ?_⟩, ⟨by decide +kernel, rfl⟩,
    by decide +kernel, by decide +kernel⟩
  exact fun j h => absurd h (Fin.not_lt_zero j)

theorem test_meets_CreatePlacesObjectOrIsRefused_refused :
    (asked (aCell .strict) q0 (.create (.slot 5) 0#8 false .lock [])).serves q0 (.create (.slot 5) 0#8 false .lock []) ∧
    (({ aCell .strict with rights := Vector.replicate 8 ⟨false, false, true⟩ } : State).rightsOf 0).create = false ∧
    createFieldsInRange (.queue 0#16 0#16) [] = false ∧ createFieldsInRange (.queue 2048#16 2048#16) [] = true ∧
    createFieldsInRange (.queue 2049#16 0#16) [] = false ∧ createFieldsInRange (.queue 4#16 5#16) [] = false ∧
    createFieldsInRange .lock [0x20#8] = false ∧ (aCell .strict).object 5 ≠ none ∧
    (∀ n, ({ State.reset with slots := Vector.replicate 256 ⟨1#8, some (made (.lock none 0 false))⟩ } : State).object n ≠
      none) ∧
    (∃ e ∈ ({ aCell .strict with labelMap := [([0x4A#8], 5)] } : State).labelMap, e.1 = [0x4A#8]) ∧
    ({ aCell .strict with free := 1 } : State).free <
      ({ aCell .strict with free := 1 } : State).outstanding + reserveAsked (.queue 4#16 2#16) := by decide +kernel

/-- The life of a slot: a CREATE in slot 7, whose stamp is 2 after a deletion. -/
theorem test_create_and_delete :
    told (after (.create q0 (.slot 7) 0#8 false (.cell 1#32 .strict) [0x4A#8])
      (asked (State.reset.setSlot 7 ⟨2#8, none⟩) q0 (.create (.slot 7) 0#8 false (.cell 1#32 .strict) [0x4A#8]))) 0 =
        [(.ok, Flags.clear, .handle ⟨7, 2#8⟩)] ∧
    (after (.create q0 (.slot 7) 0#8 false (.cell 1#32 .strict) [0x4A#8])
      (asked (State.reset.setSlot 7 ⟨2#8, none⟩) q0
        (.create (.slot 7) 0#8 false (.cell 1#32 .strict) [0x4A#8]))).labelMap = [([0x4A#8], 7)] ∧
    (after (.delete q0 h5) (asked (aCell .strict) q0 (.delete h5))).slot 5 = ⟨2#8, none⟩ := by decide +kernel

theorem test_meets_DeleteEmptiesSlot :
    (asked (aCell .strict) q0 (.delete h5)).serves q0 (.delete h5) ∧
    (aCell .strict).resolve h5 = some (made (.cell 7#32 .strict)) ∧
    accessHas (made (.cell 7#32 .strict)).access 0 = true ∧ ((aCell .strict).rightsOf 0).delete = true ∧
    (aCell .strict).waitList (.object 5) = [] ∧ (aCell .strict).poolPuts 5 = [] ∧
    (withQueue State.reset 5 ⟨[], 4, 0⟩).queue 5 = some ⟨[], 4, 0⟩ := by decide +kernel

/-- A queue with an entry, and its deletion: entries come back, and a take that waits is dismissed. -/
theorem test_meets_DeleteEmptiesSlot_gives_back :
    fullQueue.givesBackEntries 5 ∧ ¬ (aCell .strict).givesBackEntries 5 ∧
    (after (.delete q0 h5) (asked { fullQueue with expiry := none } q0 (.delete h5))).free = 2048 ∧
    told (after (.delete q0 h5) (asked { fullQueue with expiry := none } q0 (.delete h5))) 1 =
      [(.deleted, Flags.waited, .none)] ∧
    told (after (.delete q0 h5) (asked { fullQueue with expiry := none } q0 (.delete h5))) 0 =
      [(.ok, Flags.clear, .deletedWaiters 1)] := by
  refine ⟨⟨⟨[⟨7#32, 2⟩], 1, 0⟩, by decide +kernel, .inl (by decide)⟩, ?_, by decide +kernel, by decide +kernel,
    by decide +kernel⟩
  rintro ⟨a, h, -⟩
  have hn : (aCell .strict).queue 5 = none := by decide +kernel
  rw [hn] at h
  cases h

theorem test_meets_DescribeFindAndSetAccess :
    (asked (aCell .strict) q0 (.describe h5)).serves q0 (.describe h5) ∧
    (aCell .strict).resolve h5 = some (made (.cell 7#32 .strict)) ∧
    (withQueue State.reset 5 ⟨[], 4, 1⟩).queue 5 = some ⟨[], 4, 1⟩ ∧
    (asked (aCell .strict) q0 (.find [0x4A#8])).serves q0 (.find [0x4A#8]) ∧
    (∃ b ∈ ([0x7F#8] : Label), b.toNat < 0x21 ∨ 0x7E < b.toNat) ∧
    (∀ b ∈ ([0x4A#8] : Label), 0x21 ≤ b.toNat ∧ b.toNat ≤ 0x7E) ∧
    (∀ e ∈ (aCell .strict).labelMap, e.1 ≠ [0x4A#8]) ∧
    ({ aCell .strict with labelMap := [([0x4A#8], 5)] } : State).labelMap = [] ++ ([0x4A#8], 5) :: [] ∧
    accessHas (made (.cell 7#32 .strict)).access 0 = true ∧
    accessHas { made (.cell 7#32 .strict) with access := 1#8 }.access 3 = false ∧
    (asked (aCell .strict) q0 (.setAccess h5 0#8)).serves q0 (.setAccess h5 0#8) ∧
    (made (.cell 7#32 .strict)).creator.port = 0 ∧ ((aCell .strict).rightsOf 0).admin = true := by decide +kernel

theorem test_find_and_set_access :
    told (after (.find q0 [0x4A#8]) (asked { aCell .strict with labelMap := [([0x4A#8], 5)] } q0 (.find [0x4A#8]))) 0 =
      [(.ok, Flags.clear, .handle h5)] ∧
    told (after (.setAccess q0 h5 0x80#8) (asked (aCell .strict) q0 (.setAccess h5 0x80#8))) 0 =
      [(.ok, Flags.clear, .access 0x81#8)] := by decide +kernel

/-! ### Witnesses: cells -/

/-- The cell of value 7 usable by port 0, and a cell request on it as the next job. -/
theorem test_meets_ReadAndExchangeCells :
    (asked (aCell .strict) q0 (.cell h5 .read always 0#16)).usable q0 h5 (made (.cell 7#32 .strict)) ∧
    guardHolds always 7#32 = true ∧
    (asked (aCell .strict) q0 (.cell h5 .read always 0#16)).serves q0 (.cell h5 .read always 0#16) ∧
    (asked (aCell .strict) q0 (.cell h5 (.exchange 9#32) always 0#16)).serves q0
      (.cell h5 (.exchange 9#32) always 0#16) := by decide +kernel

theorem test_exchange :
    told (after (.exchange q0 h5 always 0#16 0#32)
      (asked (aCell .strict) q0 (.cell h5 (.exchange 0#32) always 0#16))) 0 =
      [(.ok, ⟨false, true, false, false, false, false⟩, .cell 7#32 0#32)] := by decide +kernel

theorem test_meets_AddSetsSumAndFlags :
    (asked (aCell .strict) q0 (.cell h5 (.add 3#32) always 0#16)).usable q0 h5 (made (.cell 7#32 .strict)) ∧
    (asked (aCell .strict) q0 (.cell h5 (.add 3#32) always 0#16)).serves q0 (.cell h5 (.add 3#32) always 0#16) ∧
    (1#32 : Word) ≠ 0#32 := by decide +kernel

/-- The ADD 1 at time 1050 of the counting semaphore: the reply, then the head claim served. -/
theorem test_add_serves_the_claim :
    told (after (.add q0 h5 always 0#16 1#32) (asked (claims 0#32 .strict) q0 (.cell h5 (.add 1#32) always 0#16))) 0 =
      [(.ok, Flags.clear, .cell 0#32 1#32)] ∧
    told (after (.add q0 h5 always 0#16 1#32) (asked (claims 0#32 .strict) q0 (.cell h5 (.add 1#32) always 0#16))) 1 =
      [(.ok, ⟨false, true, false, true, true, false⟩, .cell 1#32 0#32)] ∧
    (after (.add q0 h5 always 0#16 1#32)
      (asked (claims 0#32 .strict) q0 (.cell h5 (.add 1#32) always 0#16))).waits = [claim2] ∧
    (after (.add q0 h5 always 0#16 1#32)
      (asked (claims 0#32 .strict) q0 (.cell h5 (.add 1#32) always 0#16))).deadlines = [] := by decide +kernel

theorem test_meets_MasksSetAndClearBits :
    (asked (aCell .strict) q0 (.cell h5 (.setmask 8#32) always 0#16)).usable q0 h5 (made (.cell 7#32 .strict)) ∧
    (asked (aCell .strict) q0 (.cell h5 (.setmask 8#32) always 0#16)).serves q0 (.cell h5 (.setmask 8#32) always 0#16) ∧
    (∀ i < 32, (15#32).getLsbD i = ((7#32).getLsbD i || (8#32).getLsbD i)) ∧
    (asked (aCell .strict) q0 (.cell h5 (.clearmask 1#32) always 0#16)).serves q0
      (.cell h5 (.clearmask 1#32) always 0#16) ∧
    ∀ i < 32, (6#32).getLsbD i = ((7#32).getLsbD i && !(1#32).getLsbD i) := by decide +kernel

theorem test_meets_CompareswapWritesOnMatch :
    (asked (aCell .strict) q0 (.cell h5 (.compareswap 7#32 9#32) always 0#16)).usable q0 h5
      (made (.cell 7#32 .strict)) ∧
    (asked (aCell .strict) q0 (.cell h5 (.compareswap 7#32 9#32) always 0#16)).serves q0
      (.cell h5 (.compareswap 7#32 9#32) always 0#16) ∧ (7#32 : Word) ≠ 8#32 := by decide +kernel

theorem test_meets_ExtractAndInsertFields :
    (asked (aCell .strict) q0 (.cell h5 (.extract 1#8 2#8 true) always 0#16)).usable q0 h5
      (made (.cell 7#32 .strict)) ∧
    (asked (aCell .strict) q0 (.cell h5 (.extract 1#8 2#8 true) always 0#16)).serves q0
      (.cell h5 (.extract 1#8 2#8 true) always 0#16) ∧
    (31#8 : Byte).toNat + (1#8 : Byte).toNat ≤ 32 ∧ (0#8 : Byte).toNat + (32#8 : Byte).toNat ≤ 32 ∧
    (∀ i < 32, (0xFFFFFFFF#32).getLsbD i =
      if i < (2#8 : Byte).toNat then (7#32).getLsbD ((1#8 : Byte).toNat + i)
      else true && decide (0 < (2#8 : Byte).toNat) && (7#32).getLsbD ((1#8 : Byte).toNat + (2#8 : Byte).toNat - 1)) ∧
    (asked (aCell .strict) q0 (.cell h5 (.insert 1#8 2#8 4#32) always 0#16)).serves q0
      (.cell h5 (.insert 1#8 2#8 4#32) always 0#16) ∧
    ∀ i < 32, (1#32).getLsbD i =
      if (1#8 : Byte).toNat ≤ i ∧ i < (1#8 : Byte).toNat + (2#8 : Byte).toNat then
        (4#32).getLsbD (i - (1#8 : Byte).toNat) else (7#32).getLsbD i := by decide +kernel

/-- The claim of 1000: placed with a deadline at 1201, or replied GUARD_FALSE with wait limit 0. -/
theorem test_meets_FalseGuardRepliesOrWaits :
    (asked (aCell .strict) q0 (.cell h5 (.add 1#32) ⟨.eq, 8#32⟩ 200#16)).serves q0
      (.cell h5 (.add 1#32) ⟨.eq, 8#32⟩ 200#16) ∧
    (asked (aCell .strict) q0 (.cell h5 (.add 1#32) ⟨.eq, 8#32⟩ 200#16)).usable q0 h5 (made (.cell 7#32 .strict)) ∧
    State.reset.inRange (.cell h5 (.add 1#32) ⟨.eq, 8#32⟩ 200#16) = true ∧ guardHolds ⟨.eq, 8#32⟩ 7#32 = false ∧
    (((asked (aCell .strict) q0 (.cell h5 (.add 1#32) ⟨.eq, 8#32⟩ 200#16)).port 0).tag 0).state = .pending 1 ∧
    (asked (aCell .strict) q0 (.cell h5 .read ⟨.eq, 8#32⟩ 0#16)).serves q0 (.cell h5 .read ⟨.eq, 8#32⟩ 0#16) := by
  decide +kernel

theorem test_placement :
    (after (.add q0 h5 ⟨.eq, 8#32⟩ 200#16 1#32)
      { asked (aCell .strict) q0 (.cell h5 (.add 1#32) ⟨.eq, 8#32⟩ 200#16) with timebase := 1000#32 }).waits =
        [⟨q0, .cell (.add 1#32) ⟨.eq, 8#32⟩, h5, some 1201#32, .object 5⟩] ∧
    told (after (.read q0 h5 ⟨.eq, 8#32⟩ 0#16) (asked (aCell .strict) q0 (.cell h5 .read ⟨.eq, 8#32⟩ 0#16))) 0 =
      [(.guardFalse, Flags.clear, .cell 7#32 7#32)] := by decide +kernel

theorem test_meets_SetOrderWritesPolicyAndScans :
    (asked (aCell .strict) q0 (.setOrder h5 .passing)).serves q0 (.setOrder h5 .passing) ∧
    (asked (aCell .strict) q0 (.setOrder h5 .passing)).usable q0 h5 (made (.cell 7#32 .strict)) := by decide +kernel

/-- The cell STAGE of the worked sequence: a READ with GE 5 before an ADD 3 with GE 2, and value 2 just written. -/
def stage (order : Order) : State :=
  waiter (waiter (with_ State.reset 5 (.cell 2#32 order)) ⟨⟨5, 0, 1⟩, .cell .read ⟨.ge, 5#32⟩, h5, none, .object 5⟩)
    ⟨⟨6, 1, 1⟩, .cell (.add 3#32) ⟨.ge, 2#32⟩, h5, none, .object 5⟩

theorem test_passing_scan_needs_a_second_pass :
    told ((stage .passing).scan 5) 6 = [(.ok, ⟨false, false, false, false, true, false⟩, .cell 2#32 5#32)] ∧
    told ((stage .passing).scan 5) 5 = [(.ok, ⟨false, false, false, false, true, false⟩, .cell 5#32 5#32)] ∧
    ((stage .strict).scan 5).waits = (stage .strict).waits := by decide +kernel

theorem test_meets_ScanLeavesNoSatisfiableWaiter :
    ((stage .passing).scan 5).object 5 = some (made (.cell 5#32 .passing)) ∧
    (((claims 0#32 .strict).scan 5).waitList (.object 5)).head? = some claim ∧
    ((claims 0#32 .strict).scan 5).object 5 = some (made (.cell 0#32 .strict)) ∧
    claim ∈ ((claims 0#32 .passing).scan 5).waitList (.object 5) ∧
    (aCell .strict).waitList (.object 5) = [] := by decide +kernel

theorem test_meets_ScanServesAWaiter :
    (claims 1#32 .strict).object 5 = some (made (.cell 1#32 .strict)) ∧ claim.list = .object 5 ∧
    claim.request = .cell (.add 0xFFFFFFFF#32) ⟨.gt, 0#32⟩ ∧ guardHolds ⟨.gt, 0#32⟩ 1#32 = true ∧
    guardHolds ⟨.gt, 0#32⟩ 0#32 = false := by decide +kernel

/-- The scan of a STRICT cell stops at its head waiter; the first pass over STAGE serves the second waiter only, and the
pass after it the first. -/
theorem test_meets_ScanServesAWaiter_walk :
    (stage .strict).object 5 = some (made (.cell 2#32 .strict)) ∧
    (stage .passing).object 5 = some (made (.cell 2#32 .passing)) ∧
    (((stage .passing).waitList (.object 5)).foldl (scanPassRecord 5) (stage .passing, false)).2 = true ∧
    (((stage .passing).waitList (.object 5)).foldl (scanPassRecord 5) (stage .passing, false)).1.waits.map
      (fun w => w.sender.port) = [5] ∧
    (((claims 0#32 .passing).waitList (.object 5)).foldl (scanPassRecord 5) (claims 0#32 .passing, false)).2 =
      false := by decide +kernel

/-! ### Witnesses: queues -/

/-- Queue JOBS in slot 5 and queue LOG in slot 8, with a free count. -/
def jobs (a : QueueAccount) (free : Nat) : State :=
  withQueue (withQueue { State.reset with free := free } 8 ⟨List.replicate 6 ⟨1#32, 3⟩, 16, 0⟩) 5 a

/-- A PUT to JOBS by port 0. -/
def putting (s : State) (wait : Half) : State := asked s q0 (.put h5 .tail 101#32 wait)

theorem test_meets_PutByCases :
    (putting emptyQueue 0#16).usable q0 h5 (made .queue) ∧
    ({ putting emptyQueue 0#16 with expiry := none } : State).serves q0 (.put h5 .tail 101#32 0#16) ∧
    (putting emptyQueue 0#16).queue 5 = some ⟨[], 1, 0⟩ ∧
    emptyQueue.waitList (.object 5) = [] ++ waitAs (.take .tail) (.object 5) :: [] ∧
    (putting (jobs ⟨[⟨7#32, 2⟩], 1, 0⟩ 5) 9#16).serves q0 (.put h5 .tail 101#32 9#16) ∧
    (jobs ⟨[⟨7#32, 2⟩], 1, 0⟩ 5).waitList (.object 5) = [] ∧
    (jobs ⟨[⟨7#32, 2⟩], 4, 1⟩ 1).free = 1 ∧ (jobs ⟨[⟨7#32, 2⟩], 4, 1⟩ 0).free ≤ (jobs ⟨[⟨7#32, 2⟩], 4, 1⟩ 0).outstanding ∧
    (jobs ⟨[⟨7#32, 2⟩], 4, 1⟩ 1).outstanding < (jobs ⟨[⟨7#32, 2⟩], 4, 1⟩ 1).free ∧
    (((putting (jobs ⟨[⟨7#32, 2⟩], 4, 1⟩ 0) 9#16).port 0).tag 0).state = .pending 1 := by decide +kernel

/-- JOBS with its reserve held back: the put of 102 takes the last entry, and the put of 103 waits for the pool. -/
theorem test_put_by_the_pool :
    told (after (.put q0 h5 .tail 101#32 0#16) (putting (jobs ⟨[⟨7#32, 2⟩], 4, 2⟩ 1) 0#16)) 0 =
      [(.ok, Flags.clear, .depth 2)] ∧
    (after (.put q0 h5 .tail 101#32 9#16) (putting (jobs ⟨[⟨7#32, 2⟩, ⟨8#32, 2⟩], 4, 2⟩ 0) 9#16)).waits =
      [⟨q0, .put 101#32 .tail, h5, some 10#32, .pool⟩] ∧
    told (after (.put q0 h5 .tail 101#32 0#16) (putting (jobs ⟨[⟨7#32, 2⟩, ⟨8#32, 2⟩], 4, 2⟩ 0) 0#16)) 0 =
      [(.noSpace, Flags.clear, .depth 2)] ∧
    told (after (.put q0 h5 .tail 101#32 0#16) (putting (jobs ⟨[⟨7#32, 2⟩], 1, 0⟩ 5) 0#16)) 0 =
      [(.full, Flags.clear, .depth 1)] := by decide +kernel

/-- The first TAKE of the producer and consumer: 3/1 waits for LOG and 1/1 for JOBS, and JOBS is served past LOG. -/
def exhausted : State :=
  waiter (waiter (jobs ⟨[⟨101#32, 1⟩, ⟨102#32, 1⟩], 4, 2⟩ 0) ⟨⟨3, 1, 1⟩, .put 903#32 .tail, ⟨8, 1#8⟩, none, .pool⟩)
    ⟨⟨1, 1, 1⟩, .put 103#32 .tail, h5, none, .pool⟩

theorem test_take_serves_the_pool :
    told (after (.take q0 h5 .head 0#16) (asked exhausted q0 (.take h5 .head 0#16))) 0 =
      [(.ok, Flags.clear, .entry 101#32 1 1)] ∧
    told (after (.take q0 h5 .head 0#16) (asked exhausted q0 (.take h5 .head 0#16))) 1 =
      [(.ok, Flags.waited, .depth 2)] ∧
    (after (.take q0 h5 .head 0#16) (asked exhausted q0 (.take h5 .head 0#16))).waits.map (fun w => w.sender.port) =
      [3] := by decide +kernel

theorem test_meets_TakeByCases :
    (asked exhausted q0 (.take h5 .head 0#16)).serves q0 (.take h5 .head 0#16) ∧
    (asked exhausted q0 (.take h5 .head 0#16)).usable q0 h5 (made .queue) ∧
    exhausted.queue 5 = some ⟨⟨101#32, 1⟩ :: [⟨102#32, 1⟩], 4, 2⟩ ∧
    ([⟨101#32, 1⟩, ⟨102#32, 1⟩] : List Entry) = [⟨101#32, 1⟩] ++ [⟨102#32, 1⟩] ∧
    (asked (jobs ⟨[], 4, 0⟩ 0) q0 (.take h5 .tail 9#16)).serves q0 (.take h5 .tail 9#16) ∧
    (waiter (jobs ⟨[], 4, 0⟩ 0) ⟨⟨1, 1, 1⟩, .put 103#32 .tail, h5, none, .pool⟩).poolPuts 5 =
      ⟨⟨1, 1, 1⟩, .put 103#32 .tail, h5, none, .pool⟩ :: [] ∧
    (jobs ⟨[], 4, 0⟩ 0).poolPuts 5 = [] ∧
    (((asked (jobs ⟨[], 4, 0⟩ 0) q0 (.take h5 .tail 9#16)).port 0).tag 0).state = .pending 1 := by decide +kernel

theorem test_meets_PeekAndFlushQueues :
    (asked exhausted q0 (.peek h5 1#16)).usable q0 h5 (made .queue) ∧
    (asked exhausted q0 (.peek h5 1#16)).serves q0 (.peek h5 1#16) ∧
    ([⟨101#32, 1⟩, ⟨102#32, 1⟩] : List Entry)[(1#16 : Half).toNat]? = some ⟨102#32, 1⟩ ∧
    (asked exhausted q0 (.flush h5)).serves q0 (.flush h5) ∧
    exhausted.queue 5 = some ⟨[⟨101#32, 1⟩, ⟨102#32, 1⟩], 4, 2⟩ ∧
    (jobs ⟨[], 4, 0⟩ 0).queue 5 = some ⟨[], 4, 0⟩ ∧
    (asked (jobs ⟨[], 4, 0⟩ 0) q0 (.flush h5)).usable q0 h5 (made .queue) := by decide +kernel

theorem test_flush :
    told (after (.flush q0 h5) (asked (jobs ⟨[⟨7#32, 2⟩, ⟨8#32, 2⟩], 4, 2⟩ 0) q0 (.flush h5))) 0 =
      [(.ok, Flags.clear, .flushed 2 0)] ∧
    (after (.flush q0 h5) (asked (jobs ⟨[⟨7#32, 2⟩, ⟨8#32, 2⟩], 4, 2⟩ 0) q0 (.flush h5))).free = 2 := by decide +kernel

theorem test_meets_SetQueueLimitsWritesOrRefuses :
    (asked (jobs ⟨[⟨7#32, 2⟩], 4, 0⟩ 3) q0 (.setQueueLimits h5 2048#16 5#16)).serves q0
      (.setQueueLimits h5 2048#16 5#16) ∧
    (asked (jobs ⟨[⟨7#32, 2⟩], 4, 0⟩ 3) q0 (.setQueueLimits h5 2048#16 5#16)).usable q0 h5 (made .queue) ∧
    (jobs ⟨[⟨7#32, 2⟩], 4, 0⟩ 3).queue 5 = some ⟨[⟨7#32, 2⟩], 4, 0⟩ ∧
    3 < ((jobs ⟨[⟨7#32, 2⟩], 4, 0⟩ 3).poolBecomes 5 ⟨[⟨7#32, 2⟩], 2048, 5⟩ 3).outstanding ∧
    ((jobs ⟨[⟨7#32, 2⟩], 4, 0⟩ 3).poolBecomes 5 ⟨[⟨7#32, 2⟩], 2048, 4⟩ 3).outstanding ≤ 3 ∧
    4 < (2048#16 : Half).toNat ∧ (1#16 : Half).toNat ≤ 4 := by decide +kernel

theorem test_set_queue_limits :
    told (after (.setQueueLimits q0 h5 2048#16 5#16)
      (asked (jobs ⟨[⟨7#32, 2⟩], 4, 0⟩ 3) q0 (.setQueueLimits h5 2048#16 5#16))) 0 = [(.noSpace, Flags.clear, .none)] ∧
    told (after (.setQueueLimits q0 h5 2048#16 4#16)
      (asked (jobs ⟨[⟨7#32, 2⟩], 4, 0⟩ 3) q0 (.setQueueLimits h5 2048#16 4#16))) 0 =
      [(.ok, Flags.clear, .limits 2048 4 1)] := by decide +kernel

/-- A put waiting on the own list of JOBS, or on the pool wait list. -/
def waitingPut (a : QueueAccount) (free : Nat) (l : WaitList) : State :=
  waiter (jobs a free) (waitAs (.put 3#32 .head) l)

theorem test_meets_WaitingPutsAreServed :
    (waitingPut ⟨[⟨7#32, 2⟩], 1, 0⟩ 5 (.object 5)).queue 5 = some ⟨[⟨7#32, 2⟩], 1, 0⟩ ∧
    (waitingPut ⟨[⟨7#32, 2⟩], 1, 0⟩ 5 (.object 5)).object 5 = some (made .queue) ∧
    (waitAs (.put 3#32 .head) (.object 5)).request = .put 3#32 .head ∧
    (waitAs (.put 3#32 .head) (.object 5)).target.slot = 5 ∧ (waitAs (.put 3#32 .head) .pool).list = .pool ∧
    (waitingPut ⟨[⟨7#32, 2⟩], 2, 0⟩ 1 .pool).outstanding < (waitingPut ⟨[⟨7#32, 2⟩], 2, 0⟩ 1 .pool).free ∧
    (waitingPut ⟨[⟨7#32, 2⟩], 2, 1⟩ 0 .pool).free ≤ (waitingPut ⟨[⟨7#32, 2⟩], 2, 1⟩ 0 .pool).outstanding := by
  decide +kernel

theorem test_meets_PoolServiceLeavesNoGrantablePut :
    waitAs (.put 3#32 .head) .pool ∈ ((waitingPut ⟨[⟨7#32, 2⟩], 2, 1⟩ 0 .pool).poolService).waitList .pool ∧
    ((waitingPut ⟨[⟨7#32, 2⟩], 2, 1⟩ 0 .pool).poolService).queue 5 = some ⟨[⟨7#32, 2⟩], 2, 1⟩ ∧
    (jobs ⟨[], 4, 0⟩ 0).waitList .pool = [] ∧
    ((waitingPut ⟨[⟨7#32, 2⟩], 2, 1⟩ 1 .pool).poolService).waits = [] := by decide +kernel

/-- A pass of the pool's list that grants one put, and one that does nothing. -/
theorem test_meets_PoolServiceLeavesNoGrantablePut_pass :
    (((waitingPut ⟨[⟨7#32, 2⟩], 2, 0⟩ 1 .pool).waitList .pool).foldl poolPassRecord
      (waitingPut ⟨[⟨7#32, 2⟩], 2, 0⟩ 1 .pool, false)).2 = true ∧
    (((waitingPut ⟨[⟨7#32, 2⟩], 2, 1⟩ 0 .pool).waitList .pool).foldl poolPassRecord
      (waitingPut ⟨[⟨7#32, 2⟩], 2, 1⟩ 0 .pool, false)).2 = false := by decide +kernel

/-! ### Witnesses: locks, CANCEL and administration -/

/-- A lock in slot 5 and an ACQUIRE by port 0. -/
def acquiring (holder : Option SessionId) (count : Nat) (wait : Half) : State :=
  asked (with_ State.reset 5 (.lock holder count true)) q0 (.acquire h5 wait)

theorem test_meets_AcquireByCases :
    (acquiring none 0 0#16).serves q0 (.acquire h5 0#16) ∧
    (acquiring none 0 0#16).usable q0 h5 (made (.lock none 0 true)) ∧
    ((acquiring none 0 0#16).port 0).session.number = 1#16 ∧
    (acquiring (some ⟨0, 1#16⟩) 254 0#16).usable q0 h5 (made (.lock (some ⟨0, 1#16⟩) 254 true)) ∧
    (acquiring (some ⟨0, 1#16⟩) 255 0#16).usable q0 h5 (made (.lock (some ⟨0, 1#16⟩) 255 true)) ∧
    (acquiring (some ⟨0, 2#16⟩) 1 9#16).usable q0 h5 (made (.lock (some ⟨0, 2#16⟩) 1 true)) ∧
    (acquiring (some ⟨0, 2#16⟩) 1 9#16).serves q0 (.acquire h5 9#16) ∧ (⟨0, 2#16⟩ : SessionId) ≠ ⟨0, 1#16⟩ ∧
    (((acquiring (some ⟨0, 2#16⟩) 1 9#16).port 0).tag 0).state = .pending 1 := by decide +kernel

theorem test_acquire_at_its_limit :
    told (after (.acquire q0 h5 0#16) (acquiring (some ⟨0, 1#16⟩) 254 0#16)) 0 =
      [(.ok, ⟨false, false, false, false, false, true⟩, .lock (some 0) 255)] ∧
    told (after (.acquire q0 h5 0#16) (acquiring (some ⟨0, 1#16⟩) 255 0#16)) 0 =
      [(.limit, ⟨false, false, false, false, false, true⟩, .lock (some 0) 255)] ∧
    told (after (.acquire q0 h5 0#16) (acquiring (some ⟨3, 1#16⟩) 2 0#16)) 0 =
      [(.held, ⟨false, false, false, false, false, true⟩, .lock (some 3) 2)] := by decide +kernel

/-- A lock held once by port 0, with port 1 waiting twice and port 2 between. -/
def handing (count : Nat) : State :=
  waiter (waiter (waiter (with_ State.reset 5 (.lock (some ⟨0, 1#16⟩) count false)) (waitAs .acquire (.object 5)))
    ⟨⟨2, 0, 1⟩, .acquire, h5, none, .object 5⟩) ⟨⟨1, 3, 1⟩, .acquire, h5, none, .object 5⟩

theorem test_meets_ReleaseAndRestoreLocks :
    (asked (handing 1) q0 (.release h5)).usable q0 h5 (made (.lock (some ⟨0, 1#16⟩) 1 false)) ∧
    (asked (handing 1) q0 (.release h5)).serves q0 (.release h5) ∧
    ((asked (handing 1) q0 (.release h5)).port 0).session.number = 1#16 ∧
    (asked (handing 2) q0 (.release h5)).usable q0 h5 (made (.lock (some ⟨0, 1#16⟩) 2 false)) ∧
    (acquiring (some ⟨0, 1#16⟩) 1 0#16).waitList (.object 5) = [] ∧
    ((handing 1).waitList (.object 5)).head? = some (waitAs .acquire (.object 5)) ∧
    (asked (handing 1) q0 (.restore h5)).serves q0 (.restore h5) ∧
    (some ⟨0, 2#16⟩ : Option SessionId) ≠ some ⟨0, 1#16⟩ := by decide +kernel

theorem test_release_hands_the_lock_on :
    told (after (.release q0 h5) (asked (handing 1) q0 (.release h5))) 0 =
      [(.ok, Flags.clear, .lock (some 1) 0)] ∧
    told (after (.release q0 h5) (asked (handing 1) q0 (.release h5))) 1 =
      [(.ok, Flags.waited, .lock (some 1) 1), (.ok, Flags.waited, .lock (some 1) 2)] ∧
    (after (.release q0 h5) (asked (handing 1) q0 (.release h5))).object 5 =
      some (made (.lock (some ⟨1, 1#16⟩) 2 false)) := by decide +kernel

/-- The claim of port 0, on tag 3, on a cell or with its record failing. -/
def cancelling (order : Order) (check : RecordCheck) : State :=
  asked (waiter (with_ State.reset 5 (.cell 0#32 order) false check)
    ⟨⟨0, 3, 5⟩, .cell .read ⟨.gt, 0#32⟩, h5, none, .object 5⟩) q0 (.cancel 3)

theorem test_meets_CancelRemovesWaiter :
    (cancelling .strict .agrees).serves q0 (.cancel 3) ∧
    (asked State.reset q0 (.cancel 3)).waiterOf 0 3 = none ∧
    (cancelling .strict .agrees).waiterOf 0 3 = some ⟨⟨0, 3, 5⟩, .cell .read ⟨.gt, 0#32⟩, h5, none, .object 5⟩ ∧
    (cancelling .strict .agrees).object 5 = some (made (.cell 0#32 .strict)) ∧
    (cancelling .strict .fails).object 5 = some (made (.cell 0#32 .strict) .fails) ∧
    (cancelling .strict .agrees).isStrictHead ⟨⟨0, 3, 5⟩, .cell .read ⟨.gt, 0#32⟩, h5, none, .object 5⟩ 5 ∧
    ∀ i, ¬ exhausted.isStrictHead ⟨⟨1, 1, 1⟩, .put 103#32 .tail, h5, none, .pool⟩ i := by
  refine ⟨by decide +kernel, by decide +kernel, by decide +kernel, by decide +kernel, by decide +kernel, ?_, ?_⟩
  · exact ⟨rfl, ⟨made (.cell 0#32 .strict), 0#32, by decide +kernel, rfl⟩, by decide +kernel⟩
  · rintro i ⟨h, -, -⟩
    cases h

/-- The put of port 0 on tag 3, on a queue with a reserve term whose record fails. -/
def cancellingPut : State :=
  asked (waiter { with_ State.reset 5 .queue false .fails with
    queues := State.reset.queues.set 5 (some ⟨[], 4, 2⟩) } ⟨⟨0, 3, 5⟩, .take .head, h5, none, .object 5⟩) q0 (.cancel 3)

theorem test_meets_CancelRemovesWaiter_queue :
    cancellingPut.serves q0 (.cancel 3) ∧
    cancellingPut.waiterOf 0 3 = some ⟨⟨0, 3, 5⟩, .take .head, h5, none, .object 5⟩ ∧
    cancellingPut.object 5 = some (made .queue .fails) ∧ cancellingPut.promisesEntries 5 (made .queue .fails) ∧
    told (after (.cancel q0 3) cancellingPut) 0 =
      [(.fault, Flags.waited, .none), (.notWaiting, Flags.clear, .none)] :=
  ⟨by decide +kernel, by decide +kernel, by decide +kernel, ⟨rfl, ⟨[], 4, 2⟩, by decide +kernel, by decide⟩,
    by decide +kernel⟩

theorem test_cancel :
    told (after (.cancel q0 3) (cancelling .strict .agrees)) 0 =
      [(.cancelled, Flags.waited, .none), (.ok, Flags.clear, .none)] ∧
    told (after (.cancel q0 3) (cancelling .strict .fails)) 0 =
      [(.fault, Flags.waited, .none), (.notWaiting, Flags.clear, .none)] := by decide +kernel

theorem test_meets_AdministrativeRefusals :
    (asked State.reset ⟨3, 0, 1⟩ .storeClear).serves ⟨3, 0, 1⟩ .storeClear ∧
    ((asked State.reset ⟨3, 0, 1⟩ .storeClear).rightsOf 3).admin = false ∧
    (asked State.reset q0 (.forceClose 8#8)).administers q0 (.forceClose 8#8) ∧ 8 ≤ (8#8 : Byte).toNat ∧
    (asked State.reset q0 (.forceClose 0#8)).administers q0 (.forceClose 0#8) ∧
    (asked State.reset q0 (.forceClose 7#8)).administers q0 (.forceClose 7#8) ∧
    ((asked State.reset q0 (.forceClose 7#8)).port 7).session.state ≠ .opened ∧
    (asked State.reset q0 (.setPoolMark 2049#16)).administers q0 (.setPoolMark 2049#16) ∧
    2048 < (2049#16 : Half).toNat := by decide +kernel

theorem test_meets_SetRightsAndForceClose :
    (asked State.reset q0 (.setRights 0#8 ⟨true, true, false⟩)).administers q0 (.setRights 0#8 ⟨true, true, false⟩) ∧
    (0#8 : Byte).toNat = (0 : Port).val ∧ (State.reset.rightsOf 0).admin = true ∧
    (∀ x : Port, x ≠ 0 → (State.reset.rightsOf x).admin = false) ∧ (State.reset.rightsOf 7).admin = false ∧
    (asked (opened State.reset 7) q0 (.forceClose 7#8)).administers q0 (.forceClose 7#8) ∧
    ((asked (opened State.reset 7) q0 (.forceClose 7#8)).port 7).session.state = .opened ∧
    (∀ f ∈ ((asked (opened State.reset 7) q0 (.forceClose 7#8)).port 7).unsent, f.purpose ≠ .partResetReply) := by
  decide +kernel

theorem test_last_admin_and_forced_close :
    told (after (.setRights q0 0#8 ⟨true, true, false⟩) (asked State.reset q0 (.setRights 0#8 ⟨true, true, false⟩))) 0 =
      [(.lastAdmin, Flags.clear, .none)] ∧
    told (after (.forceClose q0 7#8) (asked (opened State.reset 7) q0 (.forceClose 7#8))) 0 =
      [(.ok, Flags.clear, .forced 7 1#16)] ∧
    ((after (.forceClose q0 7#8) (asked (opened State.reset 7) q0 (.forceClose 7#8))).port 7).session.cause =
      .forced := by decide +kernel

theorem test_meets_StoreClearEmptiesStore :
    (asked (claims 0#32 .strict) q0 .storeClear).administers q0 .storeClear ∧
    (claims 0#32 .strict).object 5 ≠ none := by decide +kernel

theorem test_store_clear :
    told (after (.storeClear q0) (asked (claims 0#32 .strict) q0 .storeClear)) 0 =
      [(.ok, Flags.clear, .cleared 1 2)] ∧
    told (after (.storeClear q0) (asked (claims 0#32 .strict) q0 .storeClear)) 1 =
      [(.deleted, Flags.waited, .none)] ∧
    (after (.storeClear q0) (asked (claims 0#32 .strict) q0 .storeClear)).slot 5 = ⟨2#8, none⟩ := by decide +kernel

theorem test_meets_AlertsStatisticsMarkAndReset :
    (asked State.reset q0 .readAlerts).administers q0 .readAlerts ∧ (7#8 : Byte).toNat = (7 : Port).val ∧
    (asked State.reset q0 (.stats 7#8 true)).administers q0 (.stats 7#8 true) ∧
    (asked State.reset q0 (.stats 7#8 false)).administers q0 (.stats 7#8 false) ∧
    (asked State.reset q0 (.setPoolMark 2048#16)).administers q0 (.setPoolMark 2048#16) ∧
    (2048#16 : Half).toNat ≤ 2048 ∧ (asked State.reset q0 .partReset).administers q0 .partReset := by decide +kernel

/-! ### Witnesses: the teardown job, the frames and the laws -/

/-- A port whose teardown job is due after a CLOSE on tag 2, and after a lapse. -/
def ending (cause : EndCause) (tag : Option (Tag × Gen)) : State :=
  State.reset.setPort 3 { (State.reset.port 3).setTagState 2 (.pending 5) with
    session := ⟨.closing, 14#16, 500#16, none, cause, .stopped⟩, teardown := some ⟨14#16, cause, tag, []⟩ }

theorem test_meets_TeardownOfIdleSession :
    (ending .closed (some (2, 5))).nextJob = some (.teardown 3 ⟨14#16, .closed, some (2, 5), []⟩) ∧
    (ending .lapsed none).nextJob = some (.teardown 3 ⟨14#16, .lapsed, none, []⟩) ∧
    (ending .closed (some (2, 5))).waits = [] ∧ (∀ i, (ending .closed (some (2, 5))).object i = none) ∧
    ((ending .closed (some (2, 5))).port 3).session.state = .closing ∧
    ((ending .closed (some (2, 5))).port 3).session.cause = .closed := by decide +kernel

/-- The lapse of port 3: it holds the lock twice, port 1 waits for it, and port 3 waits on a queue. -/
def lapsing : State :=
  { waiter (waiter (withQueue (with_ (ending .lapsed none) 5 (.lock (some ⟨3, 14#16⟩) 2 false)) 7 ⟨[], 4, 0⟩)
      (waitAs .acquire (.object 5))) ⟨⟨3, 1, 8⟩, .take .head, ⟨7, 1#8⟩, none, .object 7⟩ with
    ports := (waiter (ending .lapsed none) (waitAs .acquire (.object 5))).ports }

theorem test_teardown_after_a_lapse :
    told (after (.teardown 3) lapsing) 1 = [(.ok, ⟨false, false, false, false, true, true⟩, .lock (some 1) 1)] ∧
    (after (.teardown 3) lapsing).object 5 = some (made (.lock (some ⟨1, 1#16⟩) 1 true)) ∧
    (after (.teardown 3) lapsing).waits = [] ∧ (after (.teardown 3) lapsing).alerts = [⟨.lapsed ⟨3, 14#16⟩, 0#32⟩] ∧
    ((after (.teardown 3) lapsing).port 3).session.state = .closed ∧ told (after (.teardown 3) lapsing) 3 = [] := by
  decide +kernel

theorem test_teardown_after_a_close :
    ((after (.teardown 3) (ending .closed (some (2, 5)))).port 3).queue =
      [⟨some 2, ⟨0x04#8, 2, 5, .ok, Flags.clear, false, .closed 0 0 0⟩, .closeReply⟩] := by decide +kernel

theorem test_meets_PortCommandsChangeOnePort :
    onePortCommand (.nop ⟨3, 2, 5⟩) = some 3 ∧ ∃ t, exec (.nop ⟨3, 2, 5⟩) (opened State.reset 3) = .next t :=
  ⟨rfl, _, rfl⟩

theorem test_meets_CellAndLockRequestsFrame :
    onCellOrLock (.acquire h5 0#16) = true ∧ requestHandle (.acquire h5 0#16) = some h5 ∧
    (∀ o, (acquiring none 0 0#16).resolve h5 = some o → o.check = .agrees ∨ o.quarantined = true) ∧
    ∃ t, exec (requestCommand q0 (.acquire h5 0#16)) (acquiring none 0 0#16) = .next t := by
  refine ⟨rfl, rfl, fun o h => ?_, _, rfl⟩
  have h' : (acquiring none 0 0#16).resolve h5 = some (made (.lock none 0 true)) := by decide +kernel
  rw [h'] at h
  cases h
  exact .inl rfl

theorem test_meets_QueueRequestsFrame :
    onQueue (.put h5 .tail 101#32 0#16) = true ∧ requestHandle (.put h5 .tail 101#32 0#16) = some h5 ∧
    (∀ i o, (putting (jobs ⟨[], 4, 2⟩ 5) 0#16).object i = some o → o.check = .agrees) ∧
    (putting (jobs ⟨[], 4, 2⟩ 5) 0#16).waitList .pool = [] ∧
    ∃ t, exec (requestCommand q0 (.put h5 .tail 101#32 0#16)) (putting (jobs ⟨[], 4, 2⟩ 5) 0#16) = .next t := by
  refine ⟨rfl, rfl, fun i o h => ?_, by decide +kernel, _, rfl⟩
  have all : ∀ i, ((putting (jobs ⟨[], 4, 2⟩ 5) 0#16).object i).map ObjectRecord.check ≠ some .fails := by decide +kernel
  have hi := all i
  rw [h] at hi
  cases hc : o.check with
  | agrees => rfl
  | fails => simp [hc] at hi

/-- What the tag law asks of one tag, as a computation. -/
def tagAgrees (s : State) (p : Port) (t : Tag) : Bool :=
  match ((s.port p).tag t).state with
  | .idle => (s.carriers p t).waits.isEmpty && (s.carriers p t).requests.isEmpty && (s.carriers p t).taken.isEmpty &&
      (s.carriers p t).frames.isEmpty
  | .pending g => (s.carriers p t).waits.isEmpty && (s.carriers p t).frames.isEmpty &&
      (((s.carriers p t).requests.map PendingRequest.gen == [g] && (s.carriers p t).taken.isEmpty) ||
        ((s.carriers p t).requests.isEmpty && (s.carriers p t).taken == [(t, g)]))
  | .waiting g => (s.carriers p t).waits.map (fun w => w.sender.gen) == [g] && (s.carriers p t).requests.isEmpty &&
      (s.carriers p t).taken.isEmpty && (s.carriers p t).frames.isEmpty
  | .replying g => (s.carriers p t).waits.isEmpty && (s.carriers p t).requests.isEmpty &&
      (s.carriers p t).taken.isEmpty && (s.carriers p t).frames.map (fun f => f.reply.gen) == [g]

theorem tagLaw_of_tagAgrees {s : State} (h : ∀ p t, tagAgrees s p t = true) : s.tagLaw := by
  intro p t
  have hpt := h p t
  unfold tagAgrees at hpt
  generalize s.carriers p t = x at hpt ⊢
  obtain ⟨ws, rs, ts, fs⟩ := x
  generalize ((s.port p).tag t).state = st at hpt ⊢
  cases st with
  | idle =>
    simp only [Bool.and_eq_true, List.isEmpty_iff] at hpt
    obtain ⟨⟨⟨rfl, rfl⟩, rfl⟩, rfl⟩ := hpt
    rfl
  | pending g =>
    simp only [Bool.and_eq_true, Bool.or_eq_true, List.isEmpty_iff, beq_iff_eq] at hpt
    obtain ⟨⟨rfl, rfl⟩, ⟨hr, rfl⟩ | ⟨rfl, rfl⟩⟩ := hpt
    · obtain ⟨r, rfl, heq⟩ := List.map_eq_singleton_iff.mp hr
      exact .inl ⟨r, heq, rfl⟩
    · exact .inr rfl
  | waiting g =>
    simp only [Bool.and_eq_true, List.isEmpty_iff, beq_iff_eq] at hpt
    obtain ⟨⟨⟨hw, rfl⟩, rfl⟩, rfl⟩ := hpt
    obtain ⟨w, rfl, heq⟩ := List.map_eq_singleton_iff.mp hw
    exact ⟨w, heq, rfl⟩
  | replying g =>
    simp only [Bool.and_eq_true, List.isEmpty_iff, beq_iff_eq] at hpt
    obtain ⟨⟨⟨rfl, rfl⟩, rfl⟩, hf⟩ := hpt
    obtain ⟨f, rfl, heq⟩ := List.map_eq_singleton_iff.mp hf
    exact ⟨f, heq, rfl⟩

/-- A lock held by session 14 of port 3, in slot 5. -/
def abandoned : State := with_ (ending .lapsed none) 5 (.lock (some ⟨3, 14#16⟩) 2 false)

theorem test_meets_TeardownCleansUp :
    lapsing.resetn = .mark ∧ lapsing.nextJob = some (.teardown 3 ⟨14#16, .lapsed, none, []⟩) ∧
    abandoned.waits = [] ∧ abandoned.object 5 = some (made (.lock (some ⟨3, 14#16⟩) 2 false)) ∧
    abandoned.waitList (.object 5) = [] ∧
    (ending .closed (some (2, 5))).nextJob = some (.teardown 3 ⟨14#16, .closed, some (2, 5), []⟩) ∧
    lapsing.waitList (.object 5) = waitAs .acquire (.object 5) :: [] ∧
    (lapsing.waitList (.object 5)).filter (fun w => w.sender.port != 3) = waitAs .acquire (.object 5) :: [] ∧
    allSlots.all (fun i => (lapsing.object i).all fun o => o.check == .agrees) = true := by decide +kernel

/-- A CLOSE of port 3 with a claim waiting on a STRICT cell, another request taken off, and the CLOSE on tag 2. -/
def closingWith (order : Order) : State :=
  let s := with_ (ending .closed (some (2, 5))) 5 (.cell 0#32 order)
  { s.setPort 3 { ((s.port 3).setTagState 0 (.waiting 8)).setTagState 1 (.pending 9) with
      teardown := some ⟨14#16, .closed, some (2, 5), [⟨1, 9, .storeClear⟩]⟩ } with
    waits := [⟨⟨3, 0, 8⟩, .cell .read ⟨.gt, 0#32⟩, h5, none, .object 5⟩] }

/-- What stage 1 starts from. -/
def begun (s : State) : TeardownRun := ⟨s, 0, 0, 0, [], false⟩

theorem test_meets_TeardownCleansUp_stage_one :
    (begun (closingWith .strict)).state.waiterOf 3 0 =
      some ⟨⟨3, 0, 8⟩, .cell .read ⟨.gt, 0#32⟩, h5, none, .object 5⟩ ∧
    (closingWith .strict).object 5 = some (made (.cell 0#32 .strict)) ∧
    (closingWith .strict).isStrictHead ⟨⟨3, 0, 8⟩, .cell .read ⟨.gt, 0#32⟩, h5, none, .object 5⟩ 5 ∧
    (∀ i, ¬ (closingWith .passing).isStrictHead ⟨⟨3, 0, 8⟩, .cell .read ⟨.gt, 0#32⟩, h5, none, .object 5⟩ i) ∧
    (closingWith .strict).waiterOf 3 1 = none ∧
    ((closingWith .strict).port 3).teardown = some ⟨14#16, .closed, some (2, 5), [] ++ ⟨1, 9, .storeClear⟩ :: []⟩ ∧
    (with_ (closingWith .strict) 5 (.cell 0#32 .strict) false .fails).object 5 =
      some (made (.cell 0#32 .strict) .fails) := by
  refine ⟨by decide +kernel, by decide +kernel, ⟨rfl, ⟨made (.cell 0#32 .strict), 0#32, by decide +kernel, rfl⟩,
    by decide +kernel⟩, ?_, by decide +kernel, by decide +kernel, by decide +kernel⟩
  rintro i ⟨hl, ⟨r, v, ho, hp⟩, -⟩
  cases hl
  have h : (closingWith .passing).object 5 = some (made (.cell 0#32 .passing)) := by decide +kernel
  rw [h] at ho
  cases ho
  cases hp

theorem test_meets_TeardownCleansUp_stages_two_and_three :
    abandoned.object 5 = some (made (.lock (some ⟨3, 14#16⟩) 2 false)) ∧
    (with_ abandoned 5 (.lock (some ⟨3, 14#16⟩) 2 false) false .fails).object 5 =
      some (made (.lock (some ⟨3, 14#16⟩) 2 false) .fails) ∧
    ((with_ fullQueue 5 .queue true).object 5).any (fun r => r.isScoped && r.creator == ⟨0, 1#16⟩) = true ∧
    (with_ fullQueue 5 .queue true).givesBackEntries 5 ∧ ({ begun abandoned with due := true }).due = true :=
  ⟨by decide +kernel, by decide +kernel, by decide +kernel,
    ⟨⟨[⟨7#32, 2⟩], 1, 0⟩, by decide +kernel, .inl (by decide)⟩, rfl⟩

theorem test_teardown_replies_and_counts :
    told (after (.teardown 3) (closingWith .strict)) 3 =
      [(.cancelled, Flags.waited, .none), (.cancelled, Flags.clear, .none), (.ok, Flags.clear, .closed 2 0 0)] ∧
    (after (.teardown 3) (closingWith .strict)).waits = [] := by decide +kernel

/-- The law that the last clauses of the statement rest on holds in the state that CLOSE leaves. -/
theorem test_meets_TeardownCleansUp_law : (closingWith .strict).waitLaw := by
  refine ⟨tagLaw_of_tagAgrees (by decide +kernel), fun p => ?_, fun w h => ?_, ?_⟩
  · have all : ∀ p, (((closingWith .strict).port p).teardown = if p = 3 then
          some ⟨14#16, .closed, some (2, 5), [⟨1, 9, .storeClear⟩]⟩ else none) ∧
        ((closingWith .strict).port p).session.number = (if p = 3 then 14#16 else 0#16) ∧
        ((closingWith .strict).port p).session.cause = (if p = 3 then .closed else .none) ∧
        ((closingWith .strict).port p).session.state = (if p = 3 then .closing else .closed) ∧
        ((closingWith .strict).port p).queue = [] := by decide +kernel
    have hw : (closingWith .strict).waits = [⟨⟨3, 0, 8⟩, .cell .read ⟨.gt, 0#32⟩, h5, none, .object 5⟩] := by
      decide +kernel
    obtain ⟨h1, h2, h3, h4, h5⟩ := all p
    refine ⟨fun j h => ?_, fun h hc => ?_, fun _ ht w h => ?_, fun before f after h => ?_⟩
    · rw [h1] at h
      split at h
      · next hp =>
        cases h
        subst hp
        simpa using ⟨h2.symm, h3.symm⟩
      · cases h
    · rw [h4] at h
      rw [h3] at hc
      split at h
      · next hp => exact absurd (by simp [hp]) hc
      · cases h
    · rw [hw] at h
      rw [h1] at ht
      simp only [List.mem_singleton] at h
      rw [h]
      intro hp
      have hp' : p = 3 := hp.symm
      simp [hp'] at ht
    · rw [h5] at h
      simp at h
  · have hw : (closingWith .strict).waits = [⟨⟨3, 0, 8⟩, .cell .read ⟨.gt, 0#32⟩, h5, none, .object 5⟩] := by
      decide +kernel
    rw [hw] at h
    simp only [List.mem_singleton] at h
    rw [h]
    exact .inl rfl
  · unfold PortState.portLaw
    decide +kernel

/-- A STORE_CLEAR of port 0 about to be taken, beside a labelled queue with one entry. -/
def lawful : State :=
  { asked (withQueue { State.reset with free := 2047 } 5 ⟨[⟨7#32, 2⟩], 4, 2⟩) q0 .storeClear with
    pending := [.storeClear q0] }

theorem lawful_steps : ∃ t, step lawful = .next t := by
  obtain ⟨t, h, -⟩ := perform_next (requestJob q0 .storeClear (jobStoreClear q0)) { lawful with pending := [] }
  exact ⟨t, h⟩

theorem test_meets_PoolLawIsKept : lawful.poolLaw ∧ ∃ t, step lawful = .next t := by
  refine ⟨⟨by decide +kernel, by decide +kernel, fun i a h => ?_, fun i => ?_⟩, lawful_steps⟩
  · have all : ∀ i, lawful.queue i = if i = 5 then some ⟨[⟨7#32, 2⟩], 4, 2⟩ else none := by decide +kernel
    rw [all i] at h
    split at h
    · cases h
      decide
    · cases h
  · have all : ∀ i, ((lawful.queue i).isSome = true ∧ (lawful.object i).map ObjectRecord.part = some .queue) ∨
        ((lawful.queue i).isSome = false ∧ lawful.object i = none) := by decide +kernel
    rcases all i with ⟨h, h'⟩ | ⟨h, h'⟩
    · simpa [h] using h'
    · simp [h, h']

theorem test_meets_PortLawIsKept : (∀ p, (lawful.port p).portLaw) ∧ ∃ t, step lawful = .next t := by
  refine ⟨?_, lawful_steps⟩
  unfold PortState.portLaw
  decide +kernel

theorem test_meets_ObjectLawsAreKept :
    (∃ t, step lawful = .next t) ∧ lawful.tableLaw ∧ lawful.lockLaw := by
  have all : ∀ i, lawful.object i = if i = 5 then some (made .queue) else none := by decide +kernel
  refine ⟨lawful_steps, ⟨by decide +kernel, fun i r h => ?_, fun l i => ?_, fun i j r r' l h _ hl => ?_⟩,
    fun i r holder count damaged h hp => ?_⟩
  · rw [all i] at h
    split at h
    · cases h
      decide
    · cases h
  · have hm : lawful.labelMap = [] := by decide +kernel
    rw [hm, all i]
    constructor
    · intro h
      cases h
    · rintro ⟨r, h, hl⟩
      split at h
      · cases h
        cases hl
      · cases h
  · rw [all i] at h
    split at h
    · cases h
      cases hl
    · cases h
  · rw [all i] at h
    split at h
    · cases h
      cases hp
    · cases h

theorem test_meets_AdminLawIsKept : lawful.adminLaw ∧ ∃ t, step lawful = .next t := by
  refine ⟨?_, lawful_steps⟩
  unfold State.adminLaw
  decide +kernel

theorem test_meets_WaitLawIsKept : lawful.waitLaw ∧ ∃ t, step lawful = .next t := by
  refine ⟨⟨tagLaw_of_tagAgrees (by decide +kernel), fun p => ?_, fun w h => ?_, test_meets_PortLawIsKept.1⟩, lawful_steps⟩
  · have td : ∀ p, (lawful.port p).teardown = none ∧ (lawful.port p).session.state ≠ .closing ∧
        (lawful.port p).queue = [] := by decide +kernel
    have hw : lawful.waits = [] := by decide +kernel
    obtain ⟨h1, h2, h3⟩ := td p
    refine ⟨fun j h => ?_, fun h => absurd h h2, fun _ _ w h => ?_, fun before f after h => ?_⟩
    · rw [h1] at h
      cases h
    · rw [hw] at h
      cases h
    · rw [h3] at h
      simp at h
  · have hw : lawful.waits = [] := by decide +kernel
    rw [hw] at h
    cases h

end Sys2Proof.Tests
end

section
/-! PROOFS. What every service of a job leaves of the object table and of the ports, said once for each shared
operation: the state after it continues the state before. -/

namespace Sys2Proof.Machine

/-! ### The relation -/

/-- The creator's port is in the access set of a record (R8). -/
def ObjectRecord.admitsCreator (r : ObjectRecord) : Prop := accessHas r.access r.creator.port = true

/-- A kind part keeps the law of locks: no holder exactly with count 0 (R104). -/
def KindPart.balanced : KindPart → Prop
  | .lock holder count _ => holder = none ↔ count = 0
  | _ => True

/-- A record written in place of another: the label stays, and the laws of one record are kept. -/
structure ObjectRecord.Succeeds (old new : ObjectRecord) : Prop where
  label : new.label = old.label
  access : old.admitsCreator → new.admitsCreator
  lock : old.part.balanced → new.part.balanced

/-- What the services of a job leave of a port: link, session, pending list, teardown job and statistics stay, and the
transmit queue grows at its tail alone. -/
structure PortState.Continues (x y : PortState) : Prop where
  rxd : y.rxd = x.rxd
  rx : y.rx = x.rx
  tx : y.tx = x.tx
  session : y.session = x.session
  requests : y.requests = x.requests
  teardown : y.teardown = x.teardown
  stats : y.stats = x.stats
  queue : ∃ frames, y.queue = x.queue ++ frames

/-- What the services of a job leave of the part: the label map and the stamps stay, the same slots are occupied, by
records that succeed those before, and every port continues. -/
structure State.Continues (s t : State) : Prop where
  labelMap : t.labelMap = s.labelMap
  stamp : ∀ i, (t.slot i).stamp = (s.slot i).stamp
  object : ∀ i, Option.Rel ObjectRecord.Succeeds (s.object i) (t.object i)
  port : ∀ p, (s.port p).Continues (t.port p)

theorem ObjectRecord.Succeeds.refl (r : ObjectRecord) : r.Succeeds r := ⟨rfl, id, id⟩

theorem ObjectRecord.Succeeds.trans {a b c : ObjectRecord} (h : a.Succeeds b) (h' : b.Succeeds c) : a.Succeeds c :=
  ⟨h'.label.trans h.label, h'.access ∘ h.access, h'.lock ∘ h.lock⟩

theorem PortState.Continues.refl (x : PortState) : x.Continues x :=
  ⟨rfl, rfl, rfl, rfl, rfl, rfl, rfl, [], (List.append_nil _).symm⟩

theorem PortState.Continues.trans {x y z : PortState} (h : x.Continues y) (h' : y.Continues z) : x.Continues z := by
  obtain ⟨fs, hfs⟩ := h.queue
  obtain ⟨gs, hgs⟩ := h'.queue
  exact ⟨h'.rxd.trans h.rxd, h'.rx.trans h.rx, h'.tx.trans h.tx, h'.session.trans h.session,
    h'.requests.trans h.requests, h'.teardown.trans h.teardown, h'.stats.trans h.stats,
    fs ++ gs, by rw [hgs, hfs, List.append_assoc]⟩


/-- A change of neither slots, label map nor ports. -/
theorem State.Continues.of_same {s t : State} (hs : t.slots = s.slots) (hl : t.labelMap = s.labelMap)
    (hp : t.ports = s.ports) :    s.Continues t := by
  have slot : ∀ i, t.slot i = s.slot i := fun i => by unfold State.slot; rw [hs]
  have port : ∀ p, t.port p = s.port p := fun p => by unfold State.port; rw [hp]
  refine ⟨hl, fun i => by rw [slot], fun i => ?_, fun p => by rw [port]; exact .refl _⟩
  unfold State.object
  rw [slot]
  cases (s.slot i).object with
  | none => exact .none
  | some r => exact .some (.refl r)

theorem State.Continues.refl (s : State) : s.Continues s := .of_same rfl rfl rfl

theorem State.Continues.trans {s t u : State} (h : s.Continues t) (h' : t.Continues u) : s.Continues u := by
  refine ⟨h'.labelMap.trans h.labelMap, fun i => (h'.stamp i).trans (h.stamp i), fun i => ?_,
    fun p => (h.port p).trans (h'.port p)⟩
  have hi := h.object i
  have hi' := h'.object i
  generalize s.object i = a, t.object i = b, u.object i = c at hi hi' ⊢
  cases hi with
  | none => cases hi'; exact .none
  | some hab =>
    cases hi' with
    | some hbc => exact .some (hab.trans hbc)

/-- A further change of neither slots, label map nor ports. -/
theorem State.Continues.then_same {s u t : State} (h : s.Continues u) (hs : t.slots = u.slots)
    (hl : t.labelMap = u.labelMap) (hp : t.ports = u.ports) : s.Continues t := h.trans (.of_same hs hl hp)

/-- What each step of a fold continues, the fold continues. -/
theorem State.Continues.foldl {α : Type} {f : State → α → State} (h : ∀ (s : State) a, s.Continues (f s a))
    (l : List α) (s : State) : s.Continues (l.foldl f s) :=
  List.foldlRecOn l f (motive := s.Continues) (.refl s) fun t ht a _ => ht.trans (h t a)

/-- What each record of a pass continues, the pass continues. -/
theorem State.Continues.pass {α : Type} {f : State × Bool → α → State × Bool} 
    (h : ∀ (x : State × Bool) a, x.1.Continues (f x a).1) (l : List α) (x : State × Bool) :
    x.1.Continues (l.foldl f x).1 :=
  List.foldlRecOn l f (motive := fun y => x.1.Continues y.1) (.refl x.1) fun y hy a _ => hy.trans (h y a)

/-! ### Writes of records -/

/-- A record written that succeeds the one the slot held at first. -/
theorem State.Continues.writeRecord {s u : State} {i : SlotNo} {r r' : ObjectRecord} (h : s.Continues u)
    (ho : s.object i = some r) (hr : r.Succeeds r') : s.Continues (u.writeRecord i r') := by
  refine ⟨h.labelMap, fun j => ?_, fun j => ?_, h.port⟩
  · unfold State.writeRecord
    rw [State.slot_setSlot, ← h.stamp j]
    split
    · next hij => rw [hij]
    · rfl
  · rw [State.object_writeRecord]
    split
    · next hij =>
      rw [← hij, ho]
      exact .some ⟨hr.label, hr.access, hr.lock⟩
    · exact h.object j

theorem State.rewriteRecord_continues (s : State) (i : SlotNo) : s.Continues (s.rewriteRecord i) := by
  unfold State.rewriteRecord
  split
  · next r ho => exact (State.Continues.refl s).writeRecord ho (.refl r)
  · exact .refl s

theorem State.listWritten_continues (s : State) (l : WaitList) : s.Continues (s.listWritten l) := by
  cases l with
  | object i => exact s.rewriteRecord_continues i
  | pool => exact .refl s

/-- A change of the waits, followed by the write of the record whose list changed. -/
theorem State.waits_listWritten_continues (s : State) (ws : List WaitRecord) (l : WaitList) :
    s.Continues ({ s with waits := ws }.listWritten l) := by
  have changed : s.Continues { s with waits := ws } := .of_same rfl rfl rfl
  exact changed.trans (State.listWritten_continues _ l)

/-! ### Replies, wait records and alerts -/

/-- A port replaced by one that continues it. -/
theorem State.setPort_continues {s : State} {p : Port} {x : PortState} (h : (s.port p).Continues x) :
    s.Continues (s.setPort p x) := by
  have hs := State.Continues.refl s
  refine ⟨hs.labelMap, hs.stamp, hs.object, fun p' => ?_⟩
  rw [State.port_setPort]
  split
  · next hp => exact hp ▸ h
  · exact .refl _

theorem State.completeFor_continues (s : State) (u : Purpose) (q : Sender) (code : Byte) (x : Answer) :
    s.Continues (s.completeFor u q code x) := by
  obtain ⟨y, h, hrxd, hrx, htx, hsession, hrequests, hteardown, hstats, ⟨fs, hq, -⟩, -⟩ :=
    s.completeFor_port u q code x
  rw [h]
  exact State.setPort_continues ⟨hrxd, hrx, htx, hsession, hrequests, hteardown, hstats, fs, hq⟩

theorem State.complete_continues (s : State) (q : Sender) (code : RequestCode) (x : Answer) :
    s.Continues (s.complete q code x) := s.completeFor_continues _ _ _ _

/-- A waiter notice leaves its port's requests. -/
theorem State.notifyWaiting_continues (s : State) (q : Sender) : s.Continues (s.notifyWaiting q) := by
  obtain ⟨y, h, hrxd, hrx, htx, hsession, hrequests, hteardown, hstats, hq⟩ := s.notifyWaiting_port q
  rw [h]
  exact State.setPort_continues
    ⟨hrxd, hrx, htx, hsession, hrequests, hteardown, hstats, [], by rw [hq, List.append_nil]⟩

theorem State.removeWaiter_continues (s : State) (w : WaitRecord) : s.Continues (s.removeWaiter w) := by
  unfold State.removeWaiter
  exact (s.waits_listWritten_continues _ w.list).then_same (State.withdraw_slots _ _) (State.withdraw_labelMap _ _)
    (State.withdraw_ports _ _)

theorem State.moveWaiter_continues (s : State) (w : WaitRecord) (l : WaitList) : s.Continues (s.moveWaiter w l) := by
  unfold State.moveWaiter
  exact (s.waits_listWritten_continues _ w.list).trans (State.listWritten_continues _ l)

theorem State.place_continues (s : State) (q : Sender) (request : WaitRequest) (target : Handle) (wait : Half)
    (l : WaitList) : s.Continues (s.place q request target wait l) := by
  unfold State.place
  exact ((s.waits_listWritten_continues _ l).then_same (State.addDeadline_slots _ _ _)
    (State.addDeadline_labelMap _ _ _) (State.addDeadline_ports _ _ _)).trans (State.notifyWaiting_continues _ q)

theorem State.dismiss_continues (st : Status) (s : State) (w : WaitRecord) : s.Continues (State.dismiss st s w) :=
  (s.removeWaiter_continues w).trans (State.complete_continues _ _ _ _)

theorem State.dismissAll_continues (st : Status) (s : State) (ws : List WaitRecord) :
    s.Continues (State.dismissAll st s ws) := .foldl (State.dismiss_continues st) ws s

theorem State.appendAlert_continues (s : State) (kind : AlertKind) : s.Continues (s.appendAlert kind) :=
  .of_same (State.appendAlert_slots _ _) (State.appendAlert_labelMap _ _) (State.appendAlert_ports _ _)

theorem State.endsJob_continues (start u : State) : u.Continues (start.endsJob u) :=
  .of_same (State.endsJob_slots _ _) (State.endsJob_labelMap _ _) (State.endsJob_ports _ _)

/-! ### Pool service -/

theorem State.grantPut_continues (s : State) (i : SlotNo) (a : QueueAccount) (w : WaitRecord) (value : Word)
    (side : QueueEnd) : s.Continues (s.grantPut i a w value side) := by
  have linked : s.Continues ((s.removeWaiter w).linkEntry i a side ⟨value, w.sender.port⟩) :=
    (s.removeWaiter_continues w).then_same rfl rfl rfl
  exact linked.trans (State.complete_continues _ _ _ _)

theorem serveOwnPutter_continues (i : SlotNo) (s : State) (w : WaitRecord) : s.Continues (serveOwnPutter i s w) := by
  unfold serveOwnPutter
  split
  · split
    · split
      · exact s.grantPut_continues _ _ _ _ _
      · exact s.moveWaiter_continues _ _
    · exact .refl s
  · exact .refl s

theorem State.serveOwnPutters_continues (s : State) (i : SlotNo) : s.Continues (s.serveOwnPutters i) :=
  .foldl (serveOwnPutter_continues i) _ s

theorem poolPassRecord_continues (x : State × Bool) (w : WaitRecord) : x.1.Continues (poolPassRecord x w).1 := by
  unfold poolPassRecord
  split
  · split
    · exact x.1.moveWaiter_continues w (.object w.target.slot)
    · split
      · exact x.1.grantPut_continues _ _ _ _ _
      · exact .refl _
  · exact .refl _

theorem poolPass_continues (s : State) : s.Continues (poolPass s).1 :=
  State.Continues.pass poolPassRecord_continues _ (s, false)

theorem poolPasses_continues (n : Nat) (s : State) : s.Continues (poolPasses n s) := by
  induction n generalizing s with
  | zero => exact .refl s
  | succ n ih =>
    have pass := poolPass_continues s
    unfold poolPasses
    split
    · next s' h =>
      rw [h] at pass
      exact pass.trans (ih s')
    · next s' h =>
      rw [h] at pass
      exact pass

theorem State.poolService_continues (s : State) : s.Continues s.poolService := poolPasses_continues _ s

theorem State.poolServiceIf_continues (s : State) (due : Bool) : s.Continues (s.poolServiceIf due) := by
  cases due with
  | true => exact s.poolService_continues
  | false => exact .refl s

/-! ### Scans -/

/-- A cell's waiter served writes the cell's value alone. -/
theorem State.serveCellWaiter_continues {s : State} {i : SlotNo} {r : ObjectRecord} (ho : s.object i = some r)
    (value : Word) (order : Order) (w : WaitRecord) (op : CellOp) :
    s.Continues (s.serveCellWaiter i r value order w op) := by
  have written : s.Continues (s.writeRecord i { r with part := .cell (cellAct op value).after order }) :=
    (State.Continues.refl s).writeRecord ho ⟨rfl, id, fun _ => trivial⟩
  exact (written.trans (State.removeWaiter_continues _ w)).trans (State.complete_continues _ _ _ _)

theorem scanStrict_continues (i : SlotNo) (ws : List WaitRecord) (s : State) : s.Continues (scanStrict i ws s) := by
  induction ws generalizing s with
  | nil => exact .refl s
  | cons w ws ih =>
    unfold scanStrict
    split
    · next ho _ =>
      split
      · split
        · exact (State.serveCellWaiter_continues ho _ _ _ _).trans (ih _)
        · exact .refl s
      · exact .refl s
    · exact .refl s

theorem scanPassRecord_continues (i : SlotNo) (x : State × Bool) (w : WaitRecord) :
    x.1.Continues (scanPassRecord i x w).1 := by
  unfold scanPassRecord
  split
  · next ho _ =>
    split
    · split
      · exact State.serveCellWaiter_continues ho _ _ _ _
      · exact .refl _
    · exact .refl _
  · exact .refl _

theorem scanPass_continues (i : SlotNo) (s : State) : s.Continues (scanPass i s).1 :=
  State.Continues.pass (scanPassRecord_continues i) _ (s, false)

theorem scanPasses_continues (i : SlotNo) (n : Nat) (s : State) : s.Continues (scanPasses i n s) := by
  induction n generalizing s with
  | zero => exact .refl s
  | succ n ih =>
    have pass := scanPass_continues i s
    unfold scanPasses
    split
    · next s' h =>
      rw [h] at pass
      exact pass.trans (ih s')
    · next s' h =>
      rw [h] at pass
      exact pass

theorem State.scan_continues (s : State) (i : SlotNo) : s.Continues (s.scan i) := by
  unfold State.scan
  split
  · split
    · exact scanStrict_continues _ _ _
    · exact scanPasses_continues _ _ _
    · exact .refl s
  · exact .refl s

theorem State.scanIf_continues (s : State) (cell : Option SlotNo) : s.Continues (s.scanIf cell) := by
  cases cell with
  | none => exact .refl s
  | some i => exact s.scan_continues i

/-! ### Quarantine -/

/-- The kind part of a quarantined object (R20). -/
def KindPart.quarantined : KindPart → KindPart
  | .lock _ _ damaged => .lock none 0 damaged
  | part => part

/-- The record of a quarantined object. -/
def ObjectRecord.inQuarantine (r : ObjectRecord) : ObjectRecord :=
  { r with quarantined := true, check := .agrees, part := r.part.quarantined }

/-- The accounting of a quarantined queue (R20). -/
def QueueAccount.withoutReserve (a : QueueAccount) : QueueAccount := { a with reserve := 0 }

/-- The reserve of a quarantined queue cleared, and nothing for another kind (R20). -/
def State.reserveCleared (s : State) (i : SlotNo) (part : KindPart) : State :=
  if part = .queue then s.setQueue i ((s.queue i).map QueueAccount.withoutReserve) else s

/-- The kind effects: the reserve, and the record written (R20). -/
theorem State.quarantineKind_eq (s : State) (i : SlotNo) (r : ObjectRecord) :
    s.quarantineKind i r = (s.reserveCleared i r.part).writeRecord i r.inQuarantine := by
  obtain ⟨label, access, creator, isScoped, quarantined, check, part⟩ := r
  cases part with
  | cell value order => rfl
  | lock holder count damaged => rfl
  | queue =>
    unfold State.quarantineKind State.reserveCleared
    dsimp only
    rw [if_pos rfl]
    cases hq : s.queue i with
    | some a => rfl
    | none =>
      have same : s.setQueue i none = s := by
        unfold State.setQueue
        rw [← hq, State.queue, vector_set_get]
      rw [Option.map_none, same]
      rfl

/-- The kind effects of quarantine, on the record that the slot held at first. -/
theorem State.Continues.quarantineKind {s u : State} {i : SlotNo} {r : ObjectRecord} (h : s.Continues u)
    (ho : s.object i = some r) : s.Continues (u.quarantineKind i r) := by
  have cleared : s.Continues (u.reserveCleared i r.part) := by
    unfold State.reserveCleared
    split
    · exact h.then_same rfl rfl rfl
    · exact h
  rw [State.quarantineKind_eq]
  refine cleared.writeRecord ho ⟨rfl, id, fun hb => ?_⟩
  unfold ObjectRecord.inQuarantine
  cases hp : r.part with
  | lock _ _ _ => exact iff_of_true rfl rfl
  | cell _ _ => trivial
  | queue => trivial

theorem State.quarantine_continues {s : State} {i : SlotNo} {r : ObjectRecord} (ho : s.object i = some r) :
    s.Continues (s.quarantine i r) := by
  have flagged : s.Continues (s.writeRecord i { r with quarantined := true }) :=
    (State.Continues.refl s).writeRecord ho ⟨rfl, id, id⟩
  unfold State.quarantine
  exact (((flagged.trans (State.dismissAll_continues .fault _ _)).trans
    (State.dismissAll_continues .fault _ _)).quarantineKind ho).trans (State.appendAlert_continues _ _)

theorem State.verify_continues (s : State) (i : SlotNo) : s.Continues (s.verify i).state := by
  unfold State.verify
  split
  · next ho =>
    split
    · exact State.quarantine_continues ho
    · exact .refl s
  · exact .refl s

/-! ### The hand-off of a lock (R97) -/

/-- The slot holds a lock that some session holds. -/
def State.heldAt (s : State) (i : SlotNo) : Prop :=
  ∃ holder count damaged, (s.object i).map ObjectRecord.part = some (.lock (some holder) count damaged)

/-- A change of a wait list leaves every part as it was. -/
theorem State.listWritten_part (s : State) (l : WaitList) (i : SlotNo) :
    ((s.listWritten l).object i).map ObjectRecord.part = (s.object i).map ObjectRecord.part := by
  cases l with
  | pool => rfl
  | object j =>
    show ((s.rewriteRecord j).object i).map ObjectRecord.part = _
    rw [State.object_rewriteRecord]
    split
    · rw [Option.map_map]
      rfl
    · rfl

theorem State.removeWaiter_part (s : State) (w : WaitRecord) (i : SlotNo) :
    ((s.removeWaiter w).object i).map ObjectRecord.part = (s.object i).map ObjectRecord.part := by
  have hs : (s.removeWaiter w).object i = ({ s with waits := s.waits.erase w }.listWritten w.list).object i := by
    unfold State.object State.slot State.removeWaiter
    rw [State.withdraw_slots]
  rw [hs, State.listWritten_part]
  rfl

theorem State.complete_object (s : State) (q : Sender) (code : RequestCode) (x : Answer) (i : SlotNo) :
    (s.complete q code x).object i = s.object i := by
  unfold State.object State.slot
  rw [State.complete_slots]

/-- A held lock written as held, and a waiter gone from a list: the lock is held still. -/
theorem State.heldAt_of_written (s : State) (i : SlotNo) (r : ObjectRecord) (holder : SessionId) (count : Nat)
    (damaged : Bool) (w : WaitRecord) :
    ((s.writeRecord i (r.withLock (some holder) count damaged)).removeWaiter w).heldAt i :=
  ⟨holder, count, damaged, by rw [State.removeWaiter_part, State.object_writeRecord, if_pos rfl]; rfl⟩

/-- A waiter of the new holder's port served as a re-entry: the lock was held and is held still. -/
theorem serveReentry_continues {i : SlotNo} {s : State} (hs : s.heldAt i) (w : WaitRecord) :
    s.Continues (serveReentry i s w) ∧ (serveReentry i s w).heldAt i := by
  obtain ⟨holder, count, damaged, hp⟩ := hs
  obtain ⟨r, ho, hr⟩ := Option.map_eq_some_iff.mp hp
  unfold serveReentry
  simp only [ho, hr]
  have written : s.Continues (s.writeRecord i (r.withLock (some holder) (count + 1) damaged)) :=
    (State.Continues.refl s).writeRecord ho ⟨rfl, id, fun _ => by simp [ObjectRecord.withLock, KindPart.balanced]⟩
  refine ⟨(written.trans (State.removeWaiter_continues _ w)).trans (State.complete_continues _ _ _ _), ?_⟩
  unfold State.heldAt
  simp only [State.complete_object]
  exact s.heldAt_of_written i r holder (count + 1) damaged w

theorem State.replyHandOff_continues {s : State} {i : SlotNo} (hs : s.heldAt i) (damaged : Bool) (w : WaitRecord) :
    s.Continues (s.replyHandOff i damaged w) := by
  unfold State.replyHandOff
  refine (List.foldlRecOn (motive := fun t => s.Continues t ∧ t.heldAt i) _ _
    ⟨s.complete_continues _ _ _, ?_⟩ fun t ht v _ => ?_).1
  · simpa only [State.heldAt, State.complete_object] using hs
  · have served := serveReentry_continues ht.2 v
    exact ⟨ht.1.trans served.1, served.2⟩

/-- A lock assigned to a waiter is held with count 1. -/
theorem State.assignLock_continues {s : State} {i : SlotNo} {r : ObjectRecord} (ho : s.object i = some r)
    (damaged : Bool) (w : WaitRecord) : s.Continues (s.assignLock i r damaged w) := by
  have written : s.Continues (s.writeRecord i (r.withLock (some (s.sessionOf w.sender.port)) 1 damaged)) :=
    (State.Continues.refl s).writeRecord ho ⟨rfl, id, fun _ => by simp [ObjectRecord.withLock, KindPart.balanced]⟩
  exact written.trans (State.removeWaiter_continues _ w)

theorem State.assignLock_heldAt (s : State) (i : SlotNo) (r : ObjectRecord) (damaged : Bool) (w : WaitRecord) :
    (s.assignLock i r damaged w).heldAt i := s.heldAt_of_written _ _ _ _ _ w

/-- An abandoned lock is free, or its oldest waiter holds it (R100). -/
theorem abandonLock_continues {s : State} {i : SlotNo} {r : ObjectRecord} (ho : s.object i = some r) :
    s.Continues (abandonLock i r s) := by
  unfold abandonLock
  split
  · exact (State.Continues.refl s).writeRecord ho ⟨rfl, id, fun _ => iff_of_true rfl rfl⟩
  · exact (State.assignLock_continues ho true _).trans
      (State.replyHandOff_continues (s.assignLock_heldAt _ _ _ _) true _)

end Sys2Proof.Machine
end

section
/-! PROOFS. The commands by what they are: a job of the store, a request that the port unit answers, or an event; and
the operations that replace one port and nothing else. -/

namespace Sys2Proof.Machine

/-! ### The jobs of the store -/

/-- The job of each request that the arbiter takes (R1); the requests of the port unit have none. -/
def storeJob (q : Sender) : Request → State → State
  | .create slot access isScoped kind label => jobCreate q slot access isScoped kind label
  | .delete h => jobDelete q h
  | .describe h => jobDescribe q h
  | .find label => jobFind q label
  | .setAccess h access => jobSetAccess q h access
  | .cell h op guard wait => jobCell q h op guard wait
  | .setOrder h order => jobSetOrder q h order
  | .put h side value wait => jobPut q h side value wait
  | .take h side wait => jobTake q h side wait
  | .peek h index => jobPeek q h index
  | .flush h => jobFlush q h
  | .setQueueLimits h limit reserve => jobSetQueueLimits q h limit reserve
  | .acquire h wait => jobAcquire q h wait
  | .release h => jobRelease q h
  | .restore h => jobRestore q h
  | .cancel target => jobCancel q target
  | .setRights target rights => jobSetRights q target rights
  | .forceClose target => jobForceClose q target
  | .storeClear => jobStoreClear q
  | .readAlerts => jobReadAlerts q
  | .stats target clear => jobStats q target clear
  | .setPoolMark mark => jobSetPoolMark q mark
  | .partReset => jobPartReset q
  | .nop => id
  | .identify => id
  | .queryTags => id
  | .openSession _ _ => id
  | .closeSession => id

/-- The command of a request carries that request. -/
theorem request?_requestCommand (q : Sender) (r : Request) : (requestCommand q r).request? = some (q, r) := by
  cases r with
  | cell h op guard wait => cases op <;> rfl
  | _ => rfl

/-- A command that carries a request of the store runs its job, when the arbiter takes it next (log 1). -/
theorem exec_storeCommand {c : Instr} {q : Sender} {r : Request} (hc : c.request? = some (q, r))
    (hr : isStoreJob r = true) (s : State) : exec c s = perform (requestJob q r (storeJob q r)) s := by
  cases c <;> cases hc
  case nop | identify | queryTags | openSession | closeSession => cases hr
  all_goals rfl

/-- The command of a request of the store. -/
theorem exec_requestCommand {r : Request} (hr : isStoreJob r = true) (q : Sender) (s : State) :
    exec (requestCommand q r) s = perform (requestJob q r (storeJob q r)) s :=
  exec_storeCommand (request?_requestCommand q r) hr s

/-- A command that the arbiter takes next. -/
theorem exec_served {q : Sender} {r : Request} {s : State} (hr : isStoreJob r = true) (h : s.serves q r) :
    exec (requestCommand q r) s = .next (s.endsJob (storeJob q r (s.takeRequest q.port))) := by
  rw [exec_requestCommand hr, perform_requestJob _ h]

/-- A command that the arbiter takes next and that lowers no free count. -/
theorem exec_served_of_free_le {q : Sender} {r : Request} {s : State} (hr : isStoreJob r = true) (h : s.serves q r)
    (hf : s.free ≤ (storeJob q r (s.takeRequest q.port)).free) :
    exec (requestCommand q r) s = .next (storeJob q r (s.takeRequest q.port)) := by
  rw [exec_requestCommand hr, perform_running _ h.1, requestJob_taken _ h.2.1, runJob_of_free_le]
  simpa using hf

/-! ### The checks of a request that names an object (R9) -/

/-- What the checks of R9 are for each request that names an object. -/
def objectChecks (q : Sender) : Request → Checks
  | .delete _ => deleteChecks q
  | .describe _ => describeChecks
  | .setAccess _ _ => setAccessChecks q
  | .cell _ op _ _ => Checks.ofKind KindPart.isCell fun _ => cellInRange op
  | .setOrder _ _ => Checks.ofKind KindPart.isCell fun _ => true
  | .peek h index => queueChecks fun s => index.toNat < (s.account h.slot).depth
  | .setQueueLimits h limit reserve => queueChecks (limitsInRange h limit reserve)
  | .acquire _ _ => lockChecks
  | .release _ => lockChecks
  | .restore _ => lockChecks
  | _ => queueChecks fun _ => true

/-- A request that names an object is a job of the store. -/
theorem isStoreJob_of_requestHandle {r : Request} {h : Handle} (hr : requestHandle r = some h) :
    isStoreJob r = true := by
  cases r <;> cases hr <;> rfl

/-- The job of a request that names an object begins with its checks. -/
theorem storeJob_eq_withObject {r : Request} {h : Handle} (hr : requestHandle r = some h) (q : Sender) (s : State) :
    ∃ run, storeJob q r s = s.withObject q r.code h (objectChecks q r) run := by
  cases r <;> cases hr <;> exact ⟨_, rfl⟩

/-! ### Operations that replace one port -/

/-- A port replaced, and nothing else. -/
def State.ReplacesPort (s : State) (p : Port) (t : State) : Prop := ∃ x, t = s.setPort p x

theorem State.ReplacesPort.refl (s : State) (p : Port) : s.ReplacesPort p s := ⟨s.port p, (s.setPort_port p).symm⟩

theorem State.setPort_replacesPort (s : State) (p : Port) (x : PortState) : s.ReplacesPort p (s.setPort p x) := ⟨x, rfl⟩

theorem State.ReplacesPort.trans {s t u : State} {p : Port} (h : s.ReplacesPort p t) (h' : t.ReplacesPort p u) :
    s.ReplacesPort p u := by
  obtain ⟨x, rfl⟩ := h
  obtain ⟨y, rfl⟩ := h'
  exact ⟨y, s.setPort_setPort p x y⟩

theorem State.completeFor_replacesPort (s : State) (u : Purpose) (q : Sender) (code : Byte) (x : Answer) :
    s.ReplacesPort q.port (s.completeFor u q code x) := by
  obtain ⟨y, h, -⟩ := s.completeFor_port u q code x
  exact ⟨y, h⟩

theorem State.complete_replacesPort (s : State) (q : Sender) (code : RequestCode) (x : Answer) :
    s.ReplacesPort q.port (s.complete q code x) := s.completeFor_replacesPort _ _ _ _

theorem State.restartTimer_replacesPort (s : State) (p : Port) : s.ReplacesPort p (s.restartTimer p) := by
  unfold State.restartTimer
  split
  · exact s.setPort_replacesPort _ _
  · exact .refl s p

theorem State.openSession_replacesPort (s : State) (q : Sender) (silence : Half) (label : Label) :
    s.ReplacesPort q.port (s.openSession q silence label) := by
  unfold State.openSession
  split
  · exact s.setPort_replacesPort _ _
  · exact s.setPort_replacesPort _ _

/-- A request accepted is answered, ends the session, or joins the pending list of its port. -/
theorem State.accept_replacesPort (s : State) (q : Sender) (r : Request) : s.ReplacesPort q.port (s.accept q r) := by
  unfold State.accept
  split
  case h_1 | h_2 | h_3 | h_4 => exact s.complete_replacesPort _ _ _
  all_goals exact s.setPort_replacesPort _ _

theorem State.checkTag_replacesPort (s : State) (q : Sender) (r : Request) :
    s.ReplacesPort q.port (s.checkTag q r) := by
  have accepted : s.ReplacesPort q.port ((s.pendTag q).accept q r) :=
    (s.setPort_replacesPort _ _).trans (State.accept_replacesPort _ q r)
  unfold State.checkTag
  split
  · split
    · split
      · exact s.setPort_replacesPort _ _
      · exact accepted
    · exact accepted
  · split
    · exact s.setPort_replacesPort _ _
    · exact s.setPort_replacesPort _ _

theorem State.decodeClosed_replacesPort (s : State) (q : Sender) (r : Request) :
    s.ReplacesPort q.port (s.decodeClosed q r) := by
  unfold State.decodeClosed
  split
  · exact s.setPort_replacesPort _ _
  · exact s.setPort_replacesPort _ _
  · exact s.openSession_replacesPort _ _ _
  · exact s.setPort_replacesPort _ _

/-- The decode of a request changes its port alone (R108). -/
theorem decodeRequest_replacesPort (q : Sender) (r : Request) (s : State) :
    s.ReplacesPort q.port (decodeRequest q r s) := by
  unfold decodeRequest
  split
  · exact s.decodeClosed_replacesPort q r
  · exact (s.restartTimer_replacesPort q.port).trans (State.checkTag_replacesPort _ q r)
  · exact s.setPort_replacesPort _ _

theorem decodeFrame_replacesPort (p : Port) (body : List Byte) (s : State) :
    s.ReplacesPort p (decodeFrame p body s) := by
  unfold decodeFrame
  split
  · exact .refl s p
  · exact (s.restartTimer_replacesPort p).trans (State.setPort_replacesPort _ _ _)
  · exact decodeRequest_replacesPort ⟨p, _, _⟩ _ s

theorem takeLastByte_replacesPort (p : Port) (b : Byte) (s : State) : s.ReplacesPort p (takeLastByte p b s) := by
  unfold takeLastByte
  dsimp only
  split
  · exact (s.setPort_replacesPort p _).trans (decodeFrame_replacesPort p _ _)
  · exact s.setPort_replacesPort p _

theorem takeByte_replacesPort (p : Port) (b : Byte) (s : State) : s.ReplacesPort p (takeByte p b s) := by
  unfold takeByte
  dsimp only
  split
  · exact s.setPort_replacesPort p _
  · split
    · exact s.setPort_replacesPort p _
    · exact s.setPort_replacesPort p _
  · exact s.setPort_replacesPort p _
  · split
    · exact takeLastByte_replacesPort p b s
    · exact s.setPort_replacesPort p _

/-- A character received changes the port of its link alone (R148, R152). -/
theorem receiveCharacter_replacesPort (p : Port) (b : Byte) (s : State) :
    s.ReplacesPort p (receiveCharacter p b s) := by
  unfold receiveCharacter
  split
  · exact .refl s p
  · exact (s.setPort_replacesPort p _).trans (takeByte_replacesPort p b _)
  · exact s.setPort_replacesPort p _
  · exact .refl s p

theorem receiveLastByte_replacesPort (p : Port) (b : Byte) (s : State) : s.ReplacesPort p (receiveLastByte p b s) := by
  unfold receiveLastByte
  split
  · exact receiveCharacter_replacesPort p b s
  · exact .refl s p

theorem changeLevel_replacesPort (p : Port) (level : Level) (s : State) : s.ReplacesPort p (changeLevel p level s) := by
  unfold changeLevel
  split
  · exact .refl s p
  · dsimp only
    split
    · exact s.setPort_replacesPort p _
    · exact s.setPort_replacesPort p _
    · exact s.setPort_replacesPort p _

theorem gapExpires_replacesPort (p : Port) (s : State) : s.ReplacesPort p (gapExpires p s) := by
  unfold gapExpires
  split
  · exact s.setPort_replacesPort p _
  · exact .refl s p

theorem startTransmit_replacesPort (p : Port) (s : State) : s.ReplacesPort p (startTransmit p s) := by
  unfold startTransmit
  split
  · exact s.setPort_replacesPort p _
  · exact .refl s p

/-- A request that the port unit answers itself changes its port alone (R108, R113). -/
theorem exec_portCommand {c : Instr} {q : Sender} {r : Request} (hc : c.request? = some (q, r))
    (hr : isStoreJob r = false) :
    ∃ f, (∀ s, exec c s = perform f s) ∧ ∀ s : State, s.ReplacesPort q.port (f s) := by
  cases c <;> cases hc <;> cases hr
  case nop | identify | queryTags | closeSession => exact ⟨_, fun _ => rfl, decodeRequest_replacesPort q _⟩
  case openSession silence label =>
    refine ⟨_, fun _ => rfl, fun s => ?_⟩
    split
    · exact decodeRequest_replacesPort q _ s
    · exact (s.restartTimer_replacesPort q.port).trans (State.setPort_replacesPort _ _ _)

end Sys2Proof.Machine
end

section
/-! PROOFS. The laws of the object table and of locks are kept by every step (O58): by the services that continue the
state, by the deletion, the placement and the access change of an object, by each job from these, and by the events. -/

namespace Sys2Proof.Machine

/-! ### The two laws together -/

/-- The laws of the object table and of locks hold of the second state where they hold of the first. -/
structure State.KeepsObjectLaws (s t : State) : Prop where
  table : s.tableLaw → t.tableLaw
  lock : s.lockLaw → t.lockLaw

theorem State.KeepsObjectLaws.refl (s : State) : s.KeepsObjectLaws s := ⟨id, id⟩

theorem State.KeepsObjectLaws.trans {s t u : State} (h : s.KeepsObjectLaws t) (h' : t.KeepsObjectLaws u) :
    s.KeepsObjectLaws u := ⟨h'.table ∘ h.table, h'.lock ∘ h.lock⟩

/-- The law of locks, record by record (R104). -/
theorem State.lockLaw_iff (s : State) : s.lockLaw ↔ ∀ i r, s.object i = some r → r.part.balanced := by
  constructor
  · intro h i r ho
    cases hp : r.part with
    | lock holder count damaged => exact h i r holder count damaged ho hp
    | cell _ _ => trivial
    | queue => trivial
  · intro h i r holder count damaged ho hp
    have hb := h i r ho
    rw [hp] at hb
    exact hb

/-- The services of a job keep the laws. -/
theorem State.Continues.keepsObjectLaws {s t : State} (h : s.Continues t) : s.KeepsObjectLaws t := by
  have before : ∀ i r', t.object i = some r' → ∃ r, s.object i = some r ∧ r.Succeeds r' := fun i r' ho => by
    have hi := h.object i
    rw [ho] at hi
    generalize s.object i = a at hi ⊢
    cases hi with
    | some hr => exact ⟨_, rfl, hr⟩
  constructor
  · rintro ⟨hstamp, haccess, hmap, hunique⟩
    refine ⟨fun i => by rw [h.stamp]; exact hstamp i, fun i r' ho => ?_, fun l i => ?_,
      fun i j r₁ r₂ l hi hj h₁ h₂ => ?_⟩
    · obtain ⟨r, hr, hs⟩ := before i r' ho
      exact hs.access (haccess i r hr)
    · rw [h.labelMap, hmap]
      constructor
      · rintro ⟨r, ho, hl⟩
        have hi := h.object i
        rw [ho] at hi
        generalize t.object i = b at hi ⊢
        cases hi with
        | some hs => exact ⟨_, rfl, hs.label.trans hl⟩
      · rintro ⟨r', ho, hl⟩
        obtain ⟨r, hr, hs⟩ := before i r' ho
        exact ⟨r, hr, hs.label.symm.trans hl⟩
    · obtain ⟨o₁, ho₁, hs₁⟩ := before i r₁ hi
      obtain ⟨o₂, ho₂, hs₂⟩ := before j r₂ hj
      exact hunique i j o₁ o₂ l ho₁ ho₂ (hs₁.label.symm.trans h₁) (hs₂.label.symm.trans h₂)
  · intro hl
    rw [State.lockLaw_iff] at hl ⊢
    intro i r' ho
    obtain ⟨r, hr, hs⟩ := before i r' ho
    exact hs.lock (hl i r hr)

/-- A change of neither slots nor label map keeps the laws. -/
theorem State.keepsObjectLaws_of_same {s t : State} (hs : t.slots = s.slots) (hl : t.labelMap = s.labelMap) :
    s.KeepsObjectLaws t := by
  have same : s.Continues { t with ports := s.ports } := .of_same hs hl rfl
  exact ⟨same.keepsObjectLaws.table, same.keepsObjectLaws.lock⟩

theorem State.ReplacesPort.keepsObjectLaws {s t : State} {p : Port} (h : s.ReplacesPort p t) : s.KeepsObjectLaws t := by
  obtain ⟨x, rfl⟩ := h
  exact State.keepsObjectLaws_of_same rfl rfl

theorem State.complete_keepsObjectLaws (s : State) (q : Sender) (code : RequestCode) (x : Answer) :
    s.KeepsObjectLaws (s.complete q code x) := (s.complete_continues q code x).keepsObjectLaws

/-- What each step of a fold keeps of a run's state, the fold keeps. -/
theorem keepsObjectLaws_foldl {σ α : Type} (state : σ → State) {f : σ → α → σ}
    (h : ∀ x a, (state x).KeepsObjectLaws (state (f x a))) (l : List α) (x : σ) :
    (state x).KeepsObjectLaws (state (l.foldl f x)) :=
  List.foldlRecOn l f (motive := fun y => (state x).KeepsObjectLaws (state y)) (.refl _)
    fun y hy a _ => hy.trans (h y a)

/-! ### Changes of the table itself -/

/-- A stamp that has advanced is not 0 (R6). -/
theorem nextStamp_ne_zero (stamp : Byte) : nextStamp stamp ≠ 0#8 := by
  unfold nextStamp
  split
  · decide
  · next h => bv_omega

/-- A set with a port added holds that port (R8, R17). -/
theorem accessHas_accessWith (set : Byte) (p : Port) : accessHas (accessWith set p) p = true := by
  simp [accessHas, accessWith]

/-- The disposal of an object empties its slot and takes its label off the map (R6, R14). -/
theorem State.dispose_keepsObjectLaws (s : State) (i : SlotNo) : s.KeepsObjectLaws (s.dispose i) := by
  have slot : ∀ j, (s.dispose i).slot j = if i = j then ⟨nextStamp (s.slot i).stamp, none⟩ else s.slot j :=
    fun j => State.slot_setSlot _ _ _ _
  have object : ∀ j r, (s.dispose i).object j = some r ↔ i ≠ j ∧ s.object j = some r := fun j r => by
    unfold State.object
    rw [slot]
    split
    · next hij => exact iff_of_false nofun fun h => h.1 hij
    · next hij => exact (and_iff_right hij).symm
  have labels : ∀ l j, (l, j) ∈ (s.dispose i).labelMap ↔ i ≠ j ∧ (l, j) ∈ s.labelMap := fun l j => by
    show (l, j) ∈ s.labelMap.filter (fun e => e.2 != i) ↔ _
    rw [List.mem_filter, and_comm, bne_iff_ne, ne_comm]
  constructor
  · rintro ⟨hstamp, haccess, hmap, hunique⟩
    refine ⟨fun j => ?_, fun j r ho => ?_, fun l j => ?_, fun j k r r' l hj hk => ?_⟩
    · rw [slot]
      split
      · exact nextStamp_ne_zero _
      · exact hstamp j
    · exact haccess j r ((object j r).mp ho).2
    · simp only [labels, hmap, object, and_assoc, exists_and_left]
    · exact hunique j k r r' l ((object j r).mp hj).2 ((object k r').mp hk).2
  · intro h
    rw [State.lockLaw_iff] at h ⊢
    exact fun j r ho => h j r ((object j r).mp ho).2

theorem State.deleteObject_keepsObjectLaws (s : State) (i : SlotNo) : s.KeepsObjectLaws (s.deleteObject i) :=
  (State.dismissAll_continues _ _ _).keepsObjectLaws.trans (State.dispose_keepsObjectLaws _ i)

/-- The record of a new object (R12). -/
def State.newRecord (s : State) (q : Sender) (access : Byte) (isScoped : Bool) (kind : KindParams) (label : Label) :
    ObjectRecord :=
  ⟨labelGiven label, accessWith access q.port, s.sessionOf q.port, isScoped, false, .agrees, kindPartOf kind⟩

/-- A label is on the map after a placement as it was before, or it is the new object's (R12). -/
theorem State.mem_placeObject_labelMap (s : State) (q : Sender) (i : SlotNo) (access : Byte) (isScoped : Bool)
    (kind : KindParams) (label l : Label) (j : SlotNo) :
    (l, j) ∈ (s.placeObject q i access isScoped kind label).labelMap ↔
      (l, j) ∈ s.labelMap ∨ (labelGiven label = some l ∧ i = j) := by
  unfold State.placeObject
  cases labelGiven label <;> simp [eq_comm]

/-- A label that may be given is on no entry of the map (R11). -/
theorem State.not_mem_of_labelInMap {s : State} {label l : Label} (h : s.labelInMap label = false)
    (hl : labelGiven label = some l) (j : SlotNo) : (l, j) ∉ s.labelMap := by
  unfold State.labelInMap at h
  rw [hl] at h
  intro hm
  have := List.any_eq_false.mp h _ hm
  simp at this

/-- The placement of an object in an empty slot, under a label not on the map (R11, R12). -/
theorem State.placeObject_keepsObjectLaws {s : State} {i : SlotNo} {label : Label} (he : s.object i = none)
    (hl : s.labelInMap label = false) (q : Sender) (access : Byte) (isScoped : Bool) (kind : KindParams) :
    s.KeepsObjectLaws (s.placeObject q i access isScoped kind label) := by
  have slot : ∀ j, ((s.placeObject q i access isScoped kind label).slot j).stamp = (s.slot j).stamp := fun j => by
    show (((s.setQueue i (accountOf kind)).setSlot i _).slot j).stamp = _
    rw [State.slot_setSlot]
    split
    · next hij => rw [← hij]; rfl
    · rfl
  have object : ∀ j r, (s.placeObject q i access isScoped kind label).object j = some r ↔
      (i = j ∧ s.newRecord q access isScoped kind label = r) ∨ s.object j = some r := fun j r => by
    have written : (s.placeObject q i access isScoped kind label).object j =
        if i = j then some (s.newRecord q access isScoped kind label) else s.object j :=
      State.object_writeRecord _ i j _
    rw [written]
    split
    · next hij => simp [← hij, he]
    · next hij => simp [hij]
  constructor
  · rintro ⟨hstamp, haccess, hmap, hunique⟩
    have fresh : ∀ j r l, s.object j = some r → r.label = some l → labelGiven label ≠ some l :=
      fun j r l ho hr hg => State.not_mem_of_labelInMap hl hg j ((hmap l j).mpr ⟨r, ho, hr⟩)
    refine ⟨fun j => by rw [slot]; exact hstamp j, fun j r ho => ?_, fun l j => ?_, fun j k r r' l hj hk h h' => ?_⟩
    · rcases (object j r).mp ho with ⟨-, rfl⟩ | ho
      · exact accessHas_accessWith access q.port
      · exact haccess j r ho
    · rw [State.mem_placeObject_labelMap, hmap]
      constructor
      · rintro (⟨r, ho, hr⟩ | ⟨hg, hij⟩)
        · exact ⟨r, (object j r).mpr (.inr ho), hr⟩
        · exact ⟨_, (object j _).mpr (.inl ⟨hij, rfl⟩), hg⟩
      · rintro ⟨r, ho, hr⟩
        rcases (object j r).mp ho with ⟨hij, rfl⟩ | ho
        · exact .inr ⟨hr, hij⟩
        · exact .inl ⟨r, ho, hr⟩
    · rcases (object j r).mp hj with ⟨hij, rfl⟩ | hj <;> rcases (object k r').mp hk with ⟨hik, rfl⟩ | hk
      · exact hij.symm.trans hik
      · exact absurd h (fresh k r' l hk h')
      · exact absurd h' (fresh j r l hj h)
      · exact hunique j k r r' l hj hk h h'
  · intro h
    rw [State.lockLaw_iff] at h ⊢
    intro j r ho
    rcases (object j r).mp ho with ⟨-, rfl⟩ | ho
    · cases kind with
      | lock => exact iff_of_true rfl rfl
      | cell _ _ => trivial
      | queue _ _ => trivial
    · exact h j r ho

/-- After a reset of the part the table is empty and every stamp is 1 (R176). -/
theorem State.resetPart_keepsObjectLaws (s : State) : s.KeepsObjectLaws s.resetPart := by
  have slot : ∀ i, s.resetPart.slot i = ⟨1#8, none⟩ := fun i => by
    show (Vector.replicate 256 (⟨1#8, none⟩ : Slot))[i.val] = _
    rw [Vector.getElem_replicate]
  have object : ∀ i r, s.resetPart.object i ≠ some r := fun i r => by
    unfold State.object
    rw [slot]
    simp
  refine ⟨fun _ => ⟨fun i => by rw [slot]; decide, fun i r ho => absurd ho (object i r), fun l i => ?_,
    fun i _ r _ _ ho => absurd ho (object i r)⟩, fun _ i r _ _ _ ho => absurd ho (object i r)⟩
  exact iff_of_false List.not_mem_nil fun ⟨r, ho, _⟩ => object i r ho

/-- The end of a session by lapse, break or forced close leaves the table, or resets the part (R132, R175). -/
theorem State.endAbruptly_keepsObjectLaws (s : State) (cause : EndCause) (p : Port) :
    s.KeepsObjectLaws (s.endAbruptly cause p) := by
  have ended := (s.setPort_replacesPort p ((s.port p).endAbruptly cause)).keepsObjectLaws
  unfold State.endAbruptly
  dsimp only
  split
  · exact ended.trans (State.resetPart_keepsObjectLaws _)
  · exact ended

/-! ### Jobs that continue the state -/

/-- A request that names an object, where what it does continues the state (R9, R10). -/
theorem State.withObject_continues {s : State} {q : Sender} {code : RequestCode} {h : Handle} {c : Checks}
    {run : ObjectRecord → State} (hrun : ∀ r, s.object h.slot = some r → s.Continues (run r)) :
    s.Continues (s.withObject q code h c run) := by
  have refused := fun status => s.complete_continues q code (.refuse status)
  unfold State.withObject
  split
  · exact refused _
  · next r hr =>
    have ho := (State.object_of_resolve hr).1
    split
    · exact ((State.quarantine_continues ho).trans (State.complete_continues _ _ _ _)).trans
        (State.poolServiceIf_continues _ _)
    · iterate 5 (split; exact refused _)
      exact hrun r ho

theorem runCell_continues {s : State} {h : Handle} {r : ObjectRecord} (ho : s.object h.slot = some r) (q : Sender)
    (op : CellOp) (guard : Guard) (wait : Half) (value : Word) (order : Order) :
    s.Continues (runCell q h op guard wait s r value order) := by
  unfold runCell
  split
  · have written : s.Continues (s.writeRecord h.slot { r with part := .cell (cellAct op value).after order }) :=
      (State.Continues.refl s).writeRecord ho ⟨rfl, id, fun _ => trivial⟩
    exact (written.trans (State.complete_continues _ _ _ _)).trans (State.scanIf_continues _ _)
  · split
    · exact s.complete_continues _ _ _
    · exact s.place_continues _ _ _ _ _

theorem jobCell_continues (q : Sender) (h : Handle) (op : CellOp) (guard : Guard) (wait : Half) (s : State) :
    s.Continues (jobCell q h op guard wait s) := by
  refine State.withObject_continues fun r ho => ?_
  split
  · exact runCell_continues ho _ _ _ _ _ _
  · exact .refl s

theorem jobSetOrder_continues (q : Sender) (h : Handle) (order : Order) (s : State) :
    s.Continues (jobSetOrder q h order s) := by
  refine State.withObject_continues fun r ho => ?_
  split
  · next value _ _ =>
    have written : s.Continues (s.writeRecord h.slot { r with part := .cell value order }) :=
      (State.Continues.refl s).writeRecord ho ⟨rfl, id, fun _ => trivial⟩
    exact (written.trans (State.complete_continues _ _ _ _)).trans (State.scan_continues _ _)
  · exact .refl s

theorem jobDescribe_continues (q : Sender) (h : Handle) (s : State) : s.Continues (jobDescribe q h s) :=
  State.withObject_continues fun _ _ => s.complete_continues _ _ _

theorem jobFind_continues (q : Sender) (label : Label) (s : State) : s.Continues (jobFind q label s) := by
  unfold jobFind
  split
  · exact s.complete_continues _ _ _
  · split
    · exact s.complete_continues _ _ _
    · split
      · exact s.complete_continues _ _ _
      · next r ho =>
        split
        · exact ((State.quarantine_continues ho).trans (State.complete_continues _ _ _ _)).trans
            (State.poolServiceIf_continues _ _)
        · split
          · exact s.complete_continues _ _ _
          · exact s.complete_continues _ _ _

/-- The creator's port stays in the access set that SET_ACCESS writes (R17). -/
theorem jobSetAccess_continues (q : Sender) (h : Handle) (access : Byte) (s : State) :
    s.Continues (jobSetAccess q h access s) := by
  refine State.withObject_continues fun r ho => ?_
  have written : s.Continues (s.writeRecord h.slot { r with access := accessWith access r.creator.port }) :=
    (State.Continues.refl s).writeRecord ho ⟨rfl, fun _ => accessHas_accessWith access r.creator.port, id⟩
  exact written.trans (State.complete_continues _ _ _ _)

theorem waitOrReport_continues (q : Sender) (code : RequestCode) (request : WaitRequest) (h : Handle) (wait : Half)
    (l : WaitList) (status : Status) (depth : Nat) (s : State) :
    s.Continues (waitOrReport q code request h wait l status depth s) := by
  unfold waitOrReport
  split
  · exact s.complete_continues _ _ _
  · exact s.place_continues _ _ _ _ _

theorem runPut_continues (q : Sender) (h : Handle) (side : QueueEnd) (value : Word) (wait : Half) (s : State) :
    s.Continues (runPut q h side value wait s) := by
  unfold runPut
  split
  · exact ((s.removeWaiter_continues _).trans (State.complete_continues _ _ _ _)).trans
      (State.complete_continues _ _ _ _)
  · split
    · exact waitOrReport_continues _ _ _ _ _ _ _ _ s
    · split
      · exact waitOrReport_continues _ _ _ _ _ _ _ _ s
      · have linked : s.Continues (s.linkEntry h.slot (s.account h.slot) side ⟨value, q.port⟩) := .of_same rfl rfl rfl
        exact linked.trans (State.complete_continues _ _ _ _)

/-- An accounting and the free count written, the request replied, and the queue's putters and the pool served
(R75, R79, R81). -/
theorem State.entriesTaken_continues (s : State) (i : SlotNo) (a : Option QueueAccount) (free : Nat) (q : Sender)
    (code : RequestCode) (x : Answer) :
    s.Continues ((({ s.setQueue i a with free := free }.complete q code x).serveOwnPutters i).poolService) := by
  have written : s.Continues { s.setQueue i a with free := free } := .of_same rfl rfl rfl
  exact ((written.trans (State.complete_continues _ _ _ _)).trans (State.serveOwnPutters_continues _ _)).trans
    (State.poolService_continues _)

theorem runTake_continues (q : Sender) (h : Handle) (side : QueueEnd) (wait : Half) (s : State) :
    s.Continues (runTake q h side wait s) := by
  unfold runTake
  split
  · exact s.entriesTaken_continues _ _ _ _ _ _
  · split
    · exact ((s.removeWaiter_continues _).trans (State.complete_continues _ _ _ _)).trans
        (State.complete_continues _ _ _ _)
    · exact waitOrReport_continues _ _ _ _ _ _ _ _ s

theorem jobPeek_continues (q : Sender) (h : Handle) (index : Half) (s : State) : s.Continues (jobPeek q h index s) := by
  refine State.withObject_continues fun r _ => ?_
  split
  · exact s.complete_continues _ _ _
  · exact .refl s

theorem runFlush_continues (q : Sender) (h : Handle) (s : State) : s.Continues (runFlush q h s) := by
  unfold runFlush
  split
  · exact s.complete_continues _ _ _
  · exact s.entriesTaken_continues _ _ _ _ _ _

theorem runSetQueueLimits_continues (q : Sender) (h : Handle) (limit reserve : Half) (s : State) :
    s.Continues (runSetQueueLimits q h limit reserve s) := by
  unfold runSetQueueLimits
  split
  · exact s.complete_continues _ _ _
  · have written : s.Continues (s.withLimits h.slot limit reserve) := .of_same rfl rfl rfl
    dsimp only
    split
    · exact ((written.trans (State.complete_continues _ _ _ _)).trans (State.serveOwnPutters_continues _ _)).trans
        (State.poolService_continues _)
    · exact (written.trans (State.complete_continues _ _ _ _)).trans (State.poolService_continues _)

/-- A lock's holder, count and damaged flag written, the law of locks holding of them (R104). -/
theorem State.withLock_continues {s : State} {i : SlotNo} {r : ObjectRecord} (ho : s.object i = some r)
    {holder : Option SessionId} {count : Nat} {damaged : Bool}
    (hb : r.part.balanced → (holder = none ↔ count = 0)) :
    s.Continues (s.writeRecord i (r.withLock holder count damaged)) :=
  (State.Continues.refl s).writeRecord ho ⟨rfl, id, hb⟩

theorem runAcquire_continues {s : State} {h : Handle} {r : ObjectRecord} (ho : s.object h.slot = some r) (q : Sender)
    (wait : Half) (holder : Option SessionId) (count : Nat) (damaged : Bool) :
    s.Continues (runAcquire q h wait s r holder count damaged) := by
  unfold runAcquire
  split
  · exact (State.withLock_continues ho (by simp)).trans (State.complete_continues _ _ _ _)
  · split
    · split
      · exact (State.withLock_continues ho (by simp)).trans (State.complete_continues _ _ _ _)
      · exact s.complete_continues _ _ _
    · split
      · exact s.complete_continues _ _ _
      · exact s.place_continues _ _ _ _ _

theorem releaseLast_continues {s : State} {h : Handle} {r : ObjectRecord} (ho : s.object h.slot = some r) (q : Sender)
    (damaged : Bool) : s.Continues (releaseLast q h s r damaged) := by
  unfold releaseLast
  split
  · exact (State.withLock_continues ho (by simp)).trans (State.complete_continues _ _ _ _)
  · next w _ =>
    refine ((State.assignLock_continues ho damaged w).trans (State.complete_continues _ _ _ _)).trans
      (State.replyHandOff_continues ?_ _ _)
    simpa only [State.heldAt, State.complete_object] using s.assignLock_heldAt h.slot r damaged w

theorem runRelease_continues {s : State} {h : Handle} {r : ObjectRecord} (ho : s.object h.slot = some r) (q : Sender)
    (holder : Option SessionId) (count : Nat) (damaged : Bool) :
    s.Continues (runRelease q h s r holder count damaged) := by
  unfold runRelease
  split
  · next hh =>
    split
    · next hc =>
      refine (State.withLock_continues ho fun _ => ?_).trans (State.complete_continues _ _ _ _)
      exact iff_of_false (by simp [hh]) (by omega)
    · exact releaseLast_continues ho q damaged
  · exact s.complete_continues _ _ _

theorem runRestore_continues {s : State} {h : Handle} {r : ObjectRecord} (ho : s.object h.slot = some r) (q : Sender)
    {holder : Option SessionId} {count : Nat} {damaged : Bool} (hp : r.part = .lock holder count damaged) :
    s.Continues (runRestore q h s r holder count damaged) := by
  unfold runRestore
  split
  · exact (State.withLock_continues ho (by rw [hp]; exact id)).trans (State.complete_continues _ _ _ _)
  · exact s.complete_continues _ _ _

theorem jobAcquire_continues (q : Sender) (h : Handle) (wait : Half) (s : State) :
    s.Continues (jobAcquire q h wait s) := by
  refine State.withObject_continues fun r ho => ?_
  split
  · exact runAcquire_continues ho _ _ _ _ _
  · exact .refl s

theorem jobRelease_continues (q : Sender) (h : Handle) (s : State) : s.Continues (jobRelease q h s) := by
  refine State.withObject_continues fun r ho => ?_
  split
  · exact runRelease_continues ho _ _ _ _
  · exact .refl s

theorem jobRestore_continues (q : Sender) (h : Handle) (s : State) : s.Continues (jobRestore q h s) := by
  refine State.withObject_continues fun r ho => ?_
  split
  · next hp => exact runRestore_continues ho _ hp
  · exact .refl s

/-- A waiter cancelled or its target quarantined (R62, R63). -/
theorem jobCancel_continues (q : Sender) (target : Tag) (s : State) : s.Continues (jobCancel q target s) := by
  unfold jobCancel
  split
  · unfold cancelWaiter
    dsimp only
    split
    · exact ((s.verify_continues _).trans (State.complete_continues _ _ _ _)).trans (State.poolServiceIf_continues _ _)
    · exact ((State.dismiss_continues _ s _).trans (State.complete_continues _ _ _ _)).trans
        (State.scanIf_continues _ _)
  · exact s.complete_continues _ _ _

/-- An expiry job times its waiter out, quarantines the object, or is stale (R60). -/
theorem jobExpiry_continues (q : Sender) (s : State) : s.Continues (jobExpiry q s) := by
  unfold jobExpiry
  split
  · split
    · unfold expireWaiter
      dsimp only
      split
      · exact (s.verify_continues _).trans (State.poolServiceIf_continues _ _)
      · exact ((s.removeWaiter_continues _).trans (State.complete_continues _ _ _ _)).trans
          (State.scanIf_continues _ _)
    · exact .refl s
  · exact .refl s

/-! ### Jobs that keep the laws -/

/-- A CREATE places its object in an empty slot, under a label that is free (R11, R12). -/
theorem State.slotFor_empty {s : State} {choice : SlotChoice} {i : SlotNo} (h : s.slotFor choice = some i) :
    s.object i = none := by
  unfold State.slotFor at h
  split at h
  · split at h
    · next n he =>
      cases h
      exact Option.isNone_iff_eq_none.mp he
    · cases h
  · have he := List.find?_some h
    exact Option.isNone_iff_eq_none.mp he

theorem jobCreate_keepsObjectLaws (q : Sender) (slot : SlotChoice) (access : Byte) (isScoped : Bool)
    (kind : KindParams) (label : Label) (s : State) :
    s.KeepsObjectLaws (jobCreate q slot access isScoped kind label s) := by
  have refused := fun status => s.complete_keepsObjectLaws q .create (.refuse status)
  unfold jobCreate
  split
  · exact refused _
  · split
    · exact refused _
    · split
      · exact refused _
      · next i hi =>
        split
        · exact refused _
        · next hl =>
          split
          · exact refused _
          · exact (State.placeObject_keepsObjectLaws (State.slotFor_empty hi) (Bool.eq_false_iff.mpr hl) _ _ _ _).trans
              (State.complete_keepsObjectLaws _ _ _ _)

/-- A request that names an object, where what it does keeps the laws. -/
theorem State.withObject_keepsObjectLaws {s : State} {q : Sender} {code : RequestCode} {h : Handle} {c : Checks}
    {run : ObjectRecord → State} (hrun : ∀ r, s.KeepsObjectLaws (run r)) :
    s.KeepsObjectLaws (s.withObject q code h c run) := by
  have refused := fun status => s.complete_keepsObjectLaws q code (.refuse status)
  unfold State.withObject
  split
  · exact refused _
  · next r hr =>
    split
    · exact (((State.quarantine_continues (State.object_of_resolve hr).1).trans
        (State.complete_continues _ _ _ _)).trans (State.poolServiceIf_continues _ _)).keepsObjectLaws
    · iterate 5 (split; exact refused _)
      exact hrun r

theorem jobDelete_keepsObjectLaws (q : Sender) (h : Handle) (s : State) : s.KeepsObjectLaws (jobDelete q h s) :=
  State.withObject_keepsObjectLaws fun _ => ((s.deleteObject_keepsObjectLaws h.slot).trans
    (State.complete_keepsObjectLaws _ _ _ _)).trans (State.poolServiceIf_continues _ _).keepsObjectLaws

theorem State.asAdmin_keepsObjectLaws {s : State} {run : State} (q : Sender) (code : RequestCode)
    (h : s.KeepsObjectLaws run) : s.KeepsObjectLaws (s.asAdmin q code run) := by
  unfold State.asAdmin
  split
  · exact h
  · exact s.complete_keepsObjectLaws _ _ _

theorem State.withPort_keepsObjectLaws {s : State} {run : Port → State} (q : Sender) (code : RequestCode)
    (target : Byte) (h : ∀ p, s.KeepsObjectLaws (run p)) : s.KeepsObjectLaws (s.withPort q code target run) := by
  unfold State.withPort
  split
  · exact h _
  · exact s.complete_keepsObjectLaws _ _ _

theorem jobSetRights_keepsObjectLaws (q : Sender) (target : Byte) (rights : Rights) (s : State) :
    s.KeepsObjectLaws (jobSetRights q target rights s) := by
  refine s.asAdmin_keepsObjectLaws q _ (s.withPort_keepsObjectLaws q _ target fun p => ?_)
  split
  · exact s.complete_keepsObjectLaws _ _ _
  · have written : s.KeepsObjectLaws (s.setRights p rights) := State.keepsObjectLaws_of_same rfl rfl
    exact written.trans (State.complete_keepsObjectLaws _ _ _ _)

theorem jobForceClose_keepsObjectLaws (q : Sender) (target : Byte) (s : State) :
    s.KeepsObjectLaws (jobForceClose q target s) := by
  refine s.asAdmin_keepsObjectLaws q _ (s.withPort_keepsObjectLaws q _ target fun p => ?_)
  split
  · exact s.complete_keepsObjectLaws _ _ _
  · split
    · exact s.complete_keepsObjectLaws _ _ _
    · exact (s.endAbruptly_keepsObjectLaws .forced p).trans (State.complete_keepsObjectLaws _ _ _ _)

/-- STORE_CLEAR deletes the object of every slot (R166). -/
theorem clearSlots_keepsObjectLaws (s : State) : s.KeepsObjectLaws (clearSlots s).state := by
  refine keepsObjectLaws_foldl ClearRun.state (fun x i => ?_) allSlots ⟨s, 0, 0⟩
  unfold clearSlot
  split
  · exact (x.state.verify_continues i).keepsObjectLaws.trans (State.deleteObject_keepsObjectLaws _ i)
  · exact .refl _

theorem jobStoreClear_keepsObjectLaws (q : Sender) (s : State) : s.KeepsObjectLaws (jobStoreClear q s) :=
  s.asAdmin_keepsObjectLaws q _ (((clearSlots_keepsObjectLaws s).trans
    (State.poolService_continues _).keepsObjectLaws).trans (State.complete_keepsObjectLaws _ _ _ _))

theorem jobReadAlerts_keepsObjectLaws (q : Sender) (s : State) : s.KeepsObjectLaws (jobReadAlerts q s) := by
  have read : s.KeepsObjectLaws (s.setAlerts (s.alerts.drop Config.alertsPerRead) 0) :=
    State.keepsObjectLaws_of_same rfl rfl
  exact s.asAdmin_keepsObjectLaws q _ (read.trans (State.complete_keepsObjectLaws _ _ _ _))

theorem jobStats_keepsObjectLaws (q : Sender) (target : Byte) (clear : Bool) (s : State) :
    s.KeepsObjectLaws (jobStats q target clear s) := by
  refine s.asAdmin_keepsObjectLaws q _ (s.withPort_keepsObjectLaws q _ target fun p => ?_)
  refine State.KeepsObjectLaws.trans ?_ (State.complete_keepsObjectLaws _ _ _ _)
  split
  · exact (s.setPort_replacesPort p _).keepsObjectLaws
  · exact .refl s

theorem jobSetPoolMark_keepsObjectLaws (q : Sender) (mark : Half) (s : State) :
    s.KeepsObjectLaws (jobSetPoolMark q mark s) := by
  refine s.asAdmin_keepsObjectLaws q _ ?_
  split
  · exact s.complete_keepsObjectLaws _ _ _
  · have marked : s.KeepsObjectLaws { s with poolMark := mark.toNat } := State.keepsObjectLaws_of_same rfl rfl
    exact marked.trans (State.complete_keepsObjectLaws _ _ _ _)

theorem jobPartReset_keepsObjectLaws (q : Sender) (s : State) : s.KeepsObjectLaws (jobPartReset q s) :=
  s.asAdmin_keepsObjectLaws q _ ((s.completeFor_continues _ _ _ _).keepsObjectLaws.trans
    (State.keepsObjectLaws_of_same rfl rfl))

/-- Every job of the store keeps the laws of the object table and of locks. -/
theorem storeJob_keepsObjectLaws (q : Sender) (r : Request) (s : State) : s.KeepsObjectLaws (storeJob q r s) := by
  cases r with
  | create slot access isScoped kind label => exact jobCreate_keepsObjectLaws q slot access isScoped kind label s
  | delete h => exact jobDelete_keepsObjectLaws q h s
  | describe h => exact (jobDescribe_continues q h s).keepsObjectLaws
  | find label => exact (jobFind_continues q label s).keepsObjectLaws
  | setAccess h access => exact (jobSetAccess_continues q h access s).keepsObjectLaws
  | cell h op guard wait => exact (jobCell_continues q h op guard wait s).keepsObjectLaws
  | setOrder h order => exact (jobSetOrder_continues q h order s).keepsObjectLaws
  | put h side value wait =>
    exact (State.withObject_continues fun _ _ => runPut_continues q h side value wait s).keepsObjectLaws
  | take h side wait => exact (State.withObject_continues fun _ _ => runTake_continues q h side wait s).keepsObjectLaws
  | peek h index => exact (jobPeek_continues q h index s).keepsObjectLaws
  | flush h => exact (State.withObject_continues fun _ _ => runFlush_continues q h s).keepsObjectLaws
  | setQueueLimits h limit reserve =>
    exact (State.withObject_continues fun _ _ => runSetQueueLimits_continues q h limit reserve s).keepsObjectLaws
  | acquire h wait => exact (jobAcquire_continues q h wait s).keepsObjectLaws
  | release h => exact (jobRelease_continues q h s).keepsObjectLaws
  | restore h => exact (jobRestore_continues q h s).keepsObjectLaws
  | cancel target => exact (jobCancel_continues q target s).keepsObjectLaws
  | setRights target rights => exact jobSetRights_keepsObjectLaws q target rights s
  | forceClose target => exact jobForceClose_keepsObjectLaws q target s
  | storeClear => exact jobStoreClear_keepsObjectLaws q s
  | readAlerts => exact jobReadAlerts_keepsObjectLaws q s
  | stats target clear => exact jobStats_keepsObjectLaws q target clear s
  | setPoolMark mark => exact jobSetPoolMark_keepsObjectLaws q mark s
  | partReset => exact jobPartReset_keepsObjectLaws q s
  | nop | identify | queryTags | openSession | closeSession => exact .refl s

/-! ### The teardown job (R138 to R144) -/

theorem stageOneRemove_continues (j : TeardownJob) (x : TeardownRun) (w : WaitRecord) :
    x.state.Continues (stageOneRemove j x w).state := by
  unfold stageOneRemove
  dsimp only
  split
  · exact State.dismiss_continues _ _ _
  · exact State.removeWaiter_continues _ _

theorem stageOneTag_continues (p : Port) (j : TeardownJob) (x : TeardownRun) (t : Tag) :
    x.state.Continues (stageOneTag p j x t).state := by
  unfold stageOneTag
  split
  · dsimp only
    split
    · exact x.state.verify_continues _
    · exact stageOneRemove_continues j x _
  · split
    · exact x.state.complete_continues _ _ _
    · exact .refl _

theorem stageOne_keepsObjectLaws (p : Port) (j : TeardownJob) (x : TeardownRun) :
    x.state.KeepsObjectLaws (stageOne p j x).state :=
  (keepsObjectLaws_foldl TeardownRun.state (fun y t => (stageOneTag_continues p j y t).keepsObjectLaws) allTags x).trans
    (State.Continues.foldl State.scan_continues _ _).keepsObjectLaws

theorem stageTwoSlot_continues (ending : SessionId) (x : TeardownRun) (i : SlotNo) :
    x.state.Continues (stageTwoSlot ending x i).state := by
  unfold stageTwoSlot
  split
  · next ho =>
    split
    · split
      · split
        · exact State.quarantine_continues ho
        · exact abandonLock_continues ho
      · exact .refl _
    · exact .refl _
  · exact .refl _

theorem stageTwo_keepsObjectLaws (ending : SessionId) (x : TeardownRun) :
    x.state.KeepsObjectLaws (stageTwo ending x).state :=
  keepsObjectLaws_foldl TeardownRun.state (fun y i => (stageTwoSlot_continues ending y i).keepsObjectLaws) allSlots x

theorem stageThreeSlot_keepsObjectLaws (ending : SessionId) (x : TeardownRun) (i : SlotNo) :
    x.state.KeepsObjectLaws (stageThreeSlot ending x i).state := by
  unfold stageThreeSlot
  split
  · split
    · exact ((x.state.verify_continues i).keepsObjectLaws.trans (State.deleteObject_keepsObjectLaws _ i)).trans
        (State.poolServiceIf_continues _ _).keepsObjectLaws
    · exact .refl _
  · exact .refl _

theorem stageThree_keepsObjectLaws (ending : SessionId) (x : TeardownRun) :
    x.state.KeepsObjectLaws (stageThree ending x).state :=
  keepsObjectLaws_foldl TeardownRun.state (stageThreeSlot_keepsObjectLaws ending) allSlots x

theorem stageFour_continues (x : TeardownRun) : x.state.Continues (stageFour x).state :=
  x.state.poolServiceIf_continues _

theorem stageFive_continues (ending : SessionId) (cause : EndCause) (x : TeardownRun) :
    x.state.Continues (stageFive ending cause x).state := by
  cases cause with
  | lapsed | broken | forced => exact x.state.appendAlert_continues _
  | closed | none => exact .refl _

theorem stageSix_keepsObjectLaws (p : Port) (j : TeardownJob) (x : TeardownRun) :
    x.state.KeepsObjectLaws (stageSix p j x) := by
  unfold stageSix
  split
  · exact (x.state.completeFor_continues _ _ _ _).keepsObjectLaws
  · exact (x.state.setPort_replacesPort p _).keepsObjectLaws

/-- The teardown job keeps the laws stage by stage (R138). -/
theorem jobTeardown_keepsObjectLaws (p : Port) (j : TeardownJob) (s : State) :
    s.KeepsObjectLaws (jobTeardown p j s) := by
  have begun := stageOne_keepsObjectLaws p j ⟨s, 0, 0, 0, [], false⟩
  have abandoned := begun.trans (stageTwo_keepsObjectLaws ⟨p, j.number⟩ _)
  have deleted := abandoned.trans (stageThree_keepsObjectLaws ⟨p, j.number⟩ _)
  have served := deleted.trans (stageFour_continues _).keepsObjectLaws
  exact (served.trans (stageFive_continues ⟨p, j.number⟩ j.cause _).keepsObjectLaws).trans
    (stageSix_keepsObjectLaws p j _)

/-! ### The commands -/

/-- A job keeps the laws to its end, where an alert may join the list (R173). -/
theorem runJob_keepsObjectLaws {body : State → State} (s : State) (h : s.KeepsObjectLaws (body s)) :
    s.KeepsObjectLaws (runJob body s) := by
  rw [runJob_eq_endsJob]
  exact h.trans (State.endsJob_continues _ _).keepsObjectLaws

theorem requestJob_keepsObjectLaws (q : Sender) (r : Request) (s : State) :
    s.KeepsObjectLaws (requestJob q r (storeJob q r) s) := by
  unfold requestJob
  split
  · have taken : s.KeepsObjectLaws (s.takeRequest q.port) := State.keepsObjectLaws_of_same rfl rfl
    exact taken.trans (runJob_keepsObjectLaws _ (storeJob_keepsObjectLaws q r _))
  · exact .refl s

theorem takeExpiryJob_keepsObjectLaws (s : State) : s.KeepsObjectLaws (takeExpiryJob s) := by
  unfold takeExpiryJob
  split
  · have taken : s.KeepsObjectLaws s.takeExpiry := State.keepsObjectLaws_of_same rfl rfl
    exact taken.trans (runJob_keepsObjectLaws _ (jobExpiry_continues _ _).keepsObjectLaws)
  · exact .refl s

theorem takeTeardownJob_keepsObjectLaws (p : Port) (s : State) : s.KeepsObjectLaws (takeTeardownJob p s) := by
  unfold takeTeardownJob
  split
  · split
    · have taken : s.KeepsObjectLaws (s.takeTeardown p) := State.keepsObjectLaws_of_same rfl rfl
      exact taken.trans (runJob_keepsObjectLaws _ (jobTeardown_keepsObjectLaws p _ _))
    · exact .refl s
  · exact .refl s

theorem lapsePort_keepsObjectLaws (p : Port) (s : State) : s.KeepsObjectLaws (lapsePort p s) := by
  unfold lapsePort
  split
  · exact (s.setPort_replacesPort p _).keepsObjectLaws.trans (State.endAbruptly_keepsObjectLaws _ _ p)
  · exact .refl s

theorem reportBreak_keepsObjectLaws (p : Port) (s : State) : s.KeepsObjectLaws (reportBreak p s) := by
  unfold reportBreak
  split
  · have counted := (s.setPort_replacesPort p (s.port p).countedBreak).keepsObjectLaws
    dsimp only
    split
    · exact counted.trans (State.endAbruptly_keepsObjectLaws _ _ p)
    · exact counted
  · exact .refl s

theorem finishTransmit_keepsObjectLaws (p : Port) (s : State) : s.KeepsObjectLaws (finishTransmit p s) := by
  unfold finishTransmit
  split
  · dsimp only
    split
    · exact (s.setPort_replacesPort p _).keepsObjectLaws
    · exact (s.setPort_replacesPort p _).keepsObjectLaws
    · exact (s.setPort_replacesPort p _).keepsObjectLaws.trans (State.resetPart_keepsObjectLaws _)
  · exact .refl s

theorem changePin_keepsObjectLaws (pin : InputPin) (level : Level) (s : State) :
    s.KeepsObjectLaws (changePin pin level s) := by
  cases pin with
  | link p => exact (changeLevel_replacesPort p level s).keepsObjectLaws
  | ratesel1 | ratesel0 => exact State.keepsObjectLaws_of_same rfl rfl

/-- A command that acts while RESETN is high keeps what its effect keeps. -/
theorem perform_keepsObjectLaws {f : State → State} {s t : State} (h : s.KeepsObjectLaws (f s))
    (ht : perform f s = .next t) : s.KeepsObjectLaws t := by
  obtain ⟨u, hu, hcases⟩ := perform_next f s
  rw [hu] at ht
  cases ht
  rcases hcases with rfl | rfl
  · exact .refl _
  · exact h

/-- Every command keeps the laws of the object table and of locks. -/
theorem exec_keepsObjectLaws {c : Instr} {s t : State} (h : exec c s = .next t) : s.KeepsObjectLaws t := by
  cases hc : c.request? with
  | some x =>
    obtain ⟨q, r⟩ := x
    cases hr : isStoreJob r with
    | true =>
      rw [exec_storeCommand hc hr] at h
      exact perform_keepsObjectLaws (requestJob_keepsObjectLaws q r s) h
    | false =>
      obtain ⟨f, hf, hp⟩ := exec_portCommand hc hr
      rw [hf] at h
      exact perform_keepsObjectLaws (hp s).keepsObjectLaws h
  | none =>
    cases c with
    | supplyPowerUp level straps =>
      cases h
      have driven : s.KeepsObjectLaws { s with resetn := level, straps := straps } :=
        State.keepsObjectLaws_of_same rfl rfl
      exact driven.trans (State.resetPart_keepsObjectLaws _)
    | powerOnReset straps =>
      cases h
      have driven : s.KeepsObjectLaws { s with resetn := .mark, straps := straps } :=
        State.keepsObjectLaws_of_same rfl rfl
      exact driven.trans (State.resetPart_keepsObjectLaws _)
    | frameReceived p b => exact perform_keepsObjectLaws (receiveLastByte_replacesPort p b s).keepsObjectLaws h
    | gapError p => exact perform_keepsObjectLaws (gapExpires_replacesPort p s).keepsObjectLaws h
    | lineBreak p => exact perform_keepsObjectLaws (reportBreak_keepsObjectLaws p s) h
    | deadlineDue => exact perform_keepsObjectLaws (State.keepsObjectLaws_of_same rfl rfl) h
    | expiryJob => exact perform_keepsObjectLaws (takeExpiryJob_keepsObjectLaws s) h
    | lapse p => exact perform_keepsObjectLaws (lapsePort_keepsObjectLaws p s) h
    | teardown p => exact perform_keepsObjectLaws (takeTeardownJob_keepsObjectLaws p s) h
    | transmitStart p => exact perform_keepsObjectLaws (startTransmit_replacesPort p s).keepsObjectLaws h
    | frameSent p => exact perform_keepsObjectLaws (finishTransmit_keepsObjectLaws p s) h
    | characterReceived p b => exact perform_keepsObjectLaws (receiveCharacter_replacesPort p b s).keepsObjectLaws h
    | inputLevelChange pin level =>
      cases h
      exact changePin_keepsObjectLaws pin level s
    | timebaseTick => exact perform_keepsObjectLaws (State.keepsObjectLaws_of_same rfl rfl) h
    | _ => cases hc

/-- Settles O58: the step runs one command, and every command keeps the laws, job by job. -/
theorem objectLawsAreKept : Obligations.ObjectLawsAreKept := by
  intro s t h
  have kept : s.KeepsObjectLaws t := by
    unfold step at h
    split at h
    · cases h
      exact .refl s
    · next c rest _ =>
      have popped : s.KeepsObjectLaws { s with pending := rest } := State.keepsObjectLaws_of_same rfl rfl
      exact popped.trans (exec_keepsObjectLaws h)
  exact ⟨kept.table, kept.lock⟩

end Sys2Proof.Machine
end

section
/-! PROOFS. The arbiter: what it takes next, and what taking a job does (O7). -/

namespace Sys2Proof.Machine

/-! ### The search (R2) -/

/-- A member of an ascending enumeration stands behind the smaller ones alone. -/
theorem finRange_split {n : Nat} (i : Fin n) :
    ∃ before after, List.finRange n = before ++ i :: after ∧ ∀ j ∈ before, j < i := by
  obtain ⟨before, after, h⟩ := List.append_of_mem (List.mem_finRange i)
  have sorted := List.pairwise_lt_finRange n
  rw [h, List.pairwise_append] at sorted
  exact ⟨before, after, h, fun j hj => sorted.2.2 j hj i List.mem_cons_self⟩

/-- In the search order a source stands behind the sources nearer to the search start alone (R2). -/
theorem searchOrder_split (start k : Fin 9) :
    ∃ before after, searchOrder start = before ++ k :: after ∧
      ∀ m ∈ before, (m - start).val < (k - start).val := by
  obtain ⟨before, after, h, hlt⟩ := finRange_split (k - start)
  refine ⟨before.map (start + ·), after.map (start + ·), ?_, fun m hm => ?_⟩
  · show (List.finRange 9).map (start + ·) = _
    rw [h, List.map_append, List.map_cons, add_sub_cancel]
  · obtain ⟨d, hd, rfl⟩ := List.mem_map.mp hm
    rw [add_sub_cancel_left]
    exact hlt d hd

theorem State.nextJob_of_resetPending {s : State} (h : s.resetPending = true) : s.nextJob = none := by
  simp [State.nextJob, h]

theorem State.nextJob_of_silent {s : State} (h : s.resetPending = false) (hk : ∀ k, s.presents k = none) :
    s.nextJob = none := by
  simp [State.nextJob, h, hk]

/-- The job taken next is that of the nearest source that presents one (R2). -/
theorem State.nextJob_of_nearest {s : State} {k : Fin 9} {j : Job} (h : s.resetPending = false)
    (hk : s.presents k = some j)
    (hm : ∀ m : Fin 9, (m - s.searchStart).val < (k - s.searchStart).val → s.presents m = none) :
    s.nextJob = some j := by
  obtain ⟨before, after, horder, hbefore⟩ := searchOrder_split s.searchStart k
  have silent : before.findSome? s.presents = none :=
    List.findSome?_eq_none_iff.mpr fun m hmem => hm m (hbefore m hmem)
  simp [State.nextJob, h, horder, List.findSome?_append, silent, hk]

/-! ### The taking of a job (R1, R2, R58) -/

/-- The search goes on behind the port whose job was taken. -/
theorem sourceOf_succ (p : Port) : (sourceOf p + 1).val = p.val + 1 := by
  revert p
  decide

theorem State.takeRequest_requests (s : State) (p : Port) :
    ((s.takeRequest p).port p).requests = (s.port p).requests.tail :=
  congrArg PortState.requests (s.port_setPort_same p { s.port p with requests := (s.port p).requests.tail })

theorem State.takeTeardown_teardown (s : State) (p : Port) : ((s.takeTeardown p).port p).teardown = none :=
  congrArg PortState.teardown (s.port_setPort_same p { s.port p with teardown := none })

/-- The deadline unit presents the next deadline that has been reached as its job is taken (R58). -/
theorem State.takeExpiry_eq_expiryTaken (s : State) : s.takeExpiry = s.expiryTaken := by
  unfold State.takeExpiry presentExpiry State.expiryTaken
  cases hd : s.deadlines with
  | nil => rfl
  | cons e rest =>
    by_cases hr : (s.timebase - e.time).toNat ≤ 2147483647
    · simp only [examineDeadlines_due rest hr, if_pos hr]
    · simp only [examineDeadlines_early rest (Nat.lt_of_not_le hr), if_neg hr]

/-! ### Commands of other jobs (log 1) -/

theorem exec_requestCommand_other {q : Sender} {r : Request} {s : State} (hr : isStoreJob r = true)
    (h : s.nextJob ≠ some (.request q.port ⟨q.tag, q.gen, r⟩)) : exec (requestCommand q r) s = .next s := by
  rw [exec_requestCommand hr]
  unfold perform
  rw [requestJob_other _ h, ite_self]

theorem exec_expiryJob_other {s : State} (h : ∀ q, s.nextJob ≠ some (.expiry q)) : exec .expiryJob s = .next s := by
  have same : takeExpiryJob s = s := by
    unfold takeExpiryJob
    split
    · next q hq => exact absurd hq (h q)
    · rfl
  show perform takeExpiryJob s = _
  unfold perform
  rw [same, ite_self]

theorem exec_teardown_other {s : State} {p : Port} (h : ∀ j, s.nextJob ≠ some (.teardown p j)) :
    exec (.teardown p) s = .next s := by
  have same : takeTeardownJob p s = s := by
    unfold takeTeardownJob
    split
    · next p' j hj =>
      rw [if_neg]
      rintro rfl
      exact h j hj
    · rfl
  show perform (takeTeardownJob p) s = _
  unfold perform
  rw [same, ite_self]

/-- Settles O7, from the search order of the sources and the effect of taking each kind of job. -/
theorem arbiterTakesFirstPresentingSource : Obligations.ArbiterTakesFirstPresentingSource := by
  intro s
  refine ⟨fun p => ?_, rfl, State.nextJob_of_resetPending, State.nextJob_of_silent,
    fun h k j => State.nextJob_of_nearest h,
    fun p => ⟨sourceOf_succ p, sourceOf_succ p, s.takeRequest_requests p, s.takeTeardown_teardown p⟩,
    s.takeExpiry_eq_expiryTaken, fun q r => exec_requestCommand_other, exec_expiryJob_other,
    fun p => exec_teardown_other⟩
  unfold State.presents
  rw [dif_pos p.isLt]
  rfl

end Sys2Proof.Machine
end

section
/-! PROOFS. A job of the store that replies and does nothing further, and the refusal of a request that names an object
by the checks of R9 in their order (O23). -/

namespace Sys2Proof.Machine

/-! ### Jobs that reply and do nothing further -/

/-- A job that leaves the port's session OPEN and replies: the state after its command. -/
theorem exec_replied {s u : State} {q : Sender} {r : Request} {x : Answer} (hr : isStoreJob r = true)
    (h : s.serves q r) (hb : storeJob q r (s.takeRequest q.port) = u.complete q r.code x)
    (hu : (u.port q.port).session.state = .opened) (hf : s.free ≤ u.free) :
    exec (requestCommand q r) s = .next (u.replied q r.code.byte x) := by
  rw [exec_served_of_free_le hr h (by rw [hb, State.complete_free]; exact hf), hb, State.complete_opened hu]

/-- As a request is taken its port's session is as it was, so a reply goes out as one. -/
theorem State.serves.opened {s : State} {q : Sender} {r : Request} (h : s.serves q r) :
    ((s.takeRequest q.port).port q.port).session.state = .opened := by
  rw [State.takeRequest_session]
  exact h.2.2

/-- A job that replies on the state as it was taken. -/
theorem exec_replied_at_once {s : State} {q : Sender} {r : Request} {x : Answer} (hr : isStoreJob r = true)
    (h : s.serves q r) (hb : storeJob q r (s.takeRequest q.port) = (s.takeRequest q.port).complete q r.code x) :
    exec (requestCommand q r) s = .next ((s.takeRequest q.port).replied q r.code.byte x) :=
  exec_replied hr h hb (State.serves.opened h) (Nat.le_refl _)

/-- A job that refuses its request. -/
theorem exec_refused {s : State} {q : Sender} {r : Request} {status : Status} (hr : isStoreJob r = true)
    (h : s.serves q r)
    (hb : storeJob q r (s.takeRequest q.port) = (s.takeRequest q.port).complete q r.code (.refuse status)) :
    exec (requestCommand q r) s = .next (s.refuses q r status) := exec_replied_at_once hr h hb

/-! ### The checks of R9 -/

/-- The status of the first of steps 3 to 7 that fails, if one does. -/
def Checks.refusal (c : Checks) (s : State) (q : Sender) (o : ObjectRecord) : Option Status :=
  if !c.kind o.part then some .wrongKind
  else if !(accessHas o.access q.port || (c.adminPasses && (s.rightsOf q.port).admin)) then some .noAccess
  else if o.quarantined && !c.onQuarantined then some .fault
  else if !c.right s o then some .noRight
  else if !c.range s then some .range
  else none

/-- The checks of each request are those of R9's table. -/
theorem objectChecks_refusal {r : Request} {h : Handle} (hr : requestHandle r = some h) (q : Sender) (s : State)
    (o : ObjectRecord) : (objectChecks q r).refusal s q o = s.firstRefusal q r o := by
  cases r <;> cases hr
  case cell op guard wait => cases op <;> rfl
  all_goals rfl

/-- A record that passes its check, or whose object is quarantined already, does not fail (R10). -/
theorem ObjectRecord.not_failsCheck {r : ObjectRecord} (h : r.check = .agrees ∨ r.quarantined = true) :
    r.failsCheck = false := by
  unfold ObjectRecord.failsCheck
  rcases h with h | h <;> simp [h]

theorem State.withObject_unresolved {s : State} {h : Handle} (hr : s.resolve h = none) (q : Sender) (code : RequestCode)
    (c : Checks) (run : ObjectRecord → State) :
    s.withObject q code h c run = s.complete q code (.refuse .noObject) := by
  unfold State.withObject
  rw [hr]

/-- The check that fails decides the refusal (R9). -/
theorem State.withObject_refused {s : State} {q : Sender} {h : Handle} {c : Checks} {o : ObjectRecord} {status : Status}
    (ho : s.resolve h = some o) (hc : o.check = .agrees ∨ o.quarantined = true) (hs : c.refusal s q o = some status)
    (code : RequestCode) (run : ObjectRecord → State) :
    s.withObject q code h c run = s.complete q code (.refuse status) := by
  unfold State.withObject
  rw [ho]
  simp only [ObjectRecord.not_failsCheck hc, Bool.false_eq_true, if_false]
  unfold Checks.refusal at hs
  iterate 5
    split at hs
    · next hstep =>
      cases hs
      rw [if_pos hstep]
    rw [if_neg (by assumption)]
  cases hs

/-- A handle resolves when its slot is occupied under its stamp (R5). -/
theorem State.resolve_eq_some {s : State} {h : Handle} {o : ObjectRecord} (ho : s.object h.slot = some o)
    (hs : (s.slot h.slot).stamp = h.stamp) : s.resolve h = some o := by
  unfold State.resolve
  rw [if_pos hs, ho]

theorem State.resolve_eq_none {s : State} {h : Handle}
    (hn : s.object h.slot = none ∨ (s.slot h.slot).stamp ≠ h.stamp) : s.resolve h = none := by
  unfold State.resolve
  rcases hn with hn | hn
  · rw [hn, ite_self]
  · rw [if_neg hn]

/-- Settles O23: the job begins with its checks, and they are those of R9's table. -/
theorem firstFailingCheckDecides : Obligations.FirstFailingCheckDecides := by
  intro s q r h hr hserves
  have hjob := isStoreJob_of_requestHandle hr
  obtain ⟨run, hrun⟩ := storeJob_eq_withObject hr q (s.takeRequest q.port)
  refine ⟨fun hn => exec_refused hjob hserves ?_, fun o status ho hs hc hstatus => exec_refused hjob hserves ?_⟩
  · rw [hrun, State.withObject_unresolved]
    exact State.resolve_eq_none (s := s) hn
  · rw [hrun]
    refine State.withObject_refused (o := o) ?_ hc ?_ _ _
    · exact State.resolve_eq_some (s := s) ho hs
    · exact (objectChecks_refusal hr q _ o).trans hstatus

end Sys2Proof.Machine
end

section
/-! PROOFS. The quarantine of an object whose record fails its check (O24), and the waiters of an object. -/

namespace Sys2Proof.Machine

/-! ### The waiters of an object (R13, R19) -/

/-- A wait record stands on the list of an object, or is a put for its queue on the pool wait list. -/
def WaitRecord.waitsOn (w : WaitRecord) (i : SlotNo) : Bool :=
  w.list == .object i || (w.list == .pool && w.target.slot == i)

/-- The removal of an object's own waiters leaves its puts on the pool wait list. -/
theorem poolPuts_without_own (ws : List WaitRecord) (i : SlotNo) :
    (ws.filter fun w => !(w.list == .object i)).filter (fun w => w.list == .pool && w.target.slot == i) =
      ws.filter fun w => w.list == .pool && w.target.slot == i := by
  rw [List.filter_filter]
  refine List.filter_congr fun w _ => ?_
  cases w.list <;> simp

/-- The removal of an object's waiters, its own and its pool puts, leaves all others in order. -/
theorem State.erase_waiters (s : State) (i : SlotNo) :
    (s.waitList (.object i) ++ s.poolPuts i).foldl List.erase s.waits = s.waits.filter fun w => !w.waitsOn i := by
  rw [List.foldl_append]
  unfold State.waitList State.poolPuts
  rw [foldl_erase_filter, ← poolPuts_without_own s.waits i, foldl_erase_filter, List.filter_filter]
  refine List.filter_congr fun w _ => ?_
  rw [WaitRecord.waitsOn, Bool.not_or, Bool.and_comm]

/-- The dismissal of an object's own waiters leaves its puts on the pool wait list. -/
theorem State.dismissAll_poolPuts (st : Status) (s : State) (i : SlotNo) :
    (State.dismissAll st s (s.waitList (.object i))).poolPuts i = s.poolPuts i := by
  unfold State.poolPuts
  rw [State.dismissAll_waitList, poolPuts_without_own]

/-- The waiters of an object stand on its own list or on the pool's. -/
theorem State.deletionWaiters_list {s : State} {i : SlotNo} {w : WaitRecord} (h : w ∈ s.deletionWaiters i) :
    w.list = .object i ∨ w.list = .pool := by
  unfold State.deletionWaiters State.waitList State.poolPuts at h
  simp only [List.mem_append, List.mem_filter, beq_iff_eq, Bool.and_eq_true] at h
  rcases h with ⟨-, h⟩ | ⟨-, h, -⟩
  · exact .inl h
  · exact .inr h

/-! ### The parts of quarantine (R19, R20) -/

theorem State.slot_quarantineKind (s : State) (i j : SlotNo) (r : ObjectRecord) :
    (s.quarantineKind i r).slot j = if i = j then ⟨(s.slot i).stamp, some r.inQuarantine⟩ else s.slot j := by
  have slots : ∀ k, (s.reserveCleared i r.part).slot k = s.slot k := fun k => by
    unfold State.reserveCleared
    split <;> rfl
  rw [State.quarantineKind_eq]
  unfold State.writeRecord
  rw [State.slot_setSlot, slots, slots]
  rfl

theorem State.queue_quarantineKind (s : State) (i j : SlotNo) (r : ObjectRecord) :
    (s.quarantineKind i r).queue j =
      if r.part = .queue ∧ i = j then (s.queue i).map QueueAccount.withoutReserve else s.queue j := by
  rw [State.quarantineKind_eq]
  show (s.reserveCleared i r.part).queue j = _
  unfold State.reserveCleared
  by_cases hp : r.part = .queue
  · simp [hp, State.queue_setQueue]
  · simp [hp]

/-- A waiter of an object dismissed writes the record of that object alone. -/
theorem State.dismissAll_slot_ne {s : State} {i j : SlotNo} {ws : List WaitRecord} (st : Status)
    (h : ∀ w ∈ ws, w.list = .object i ∨ w.list = .pool) (hj : j ≠ i) :
    (State.dismissAll st s ws).slot j = s.slot j := by
  obtain ⟨y, hy, -⟩ := State.dismissAll_slots st s i ws h
  unfold State.slot
  rw [hy, vector_get_set, if_neg (Ne.symm hj)]

theorem State.appendAlert_alerts (s : State) (kind : AlertKind) :
    (s.appendAlert kind).alerts =
      (if s.alerts.length < 8 then s.alerts else s.alerts.drop 1) ++ [⟨kind, s.timebase⟩] := by
  unfold State.appendAlert Config.alertSlots
  split <;> rfl

/-! ### Quarantine as a whole -/

/-- The object flagged, and its waiters, its own and then its pool puts, dismissed with FAULT in list order (R19). -/
def State.faulted (s : State) (i : SlotNo) (r : ObjectRecord) : State :=
  State.dismissAll .fault (s.holds i { r with quarantined := true, check := .agrees }) (s.deletionWaiters i)

/-- Quarantine: the waiters dismissed, the kind effects and the alert (R19, R20). -/
theorem State.quarantine_eq (s : State) (i : SlotNo) (r : ObjectRecord) :
    s.quarantine i r =
      ((s.faulted i r).quarantineKind i r).appendAlert (.quarantine ⟨i, (s.slot i).stamp⟩) := by
  unfold State.quarantine
  dsimp only
  rw [State.dismissAll_poolPuts]
  unfold State.faulted State.dismissAll State.deletionWaiters
  rw [List.foldl_append]
  rfl

theorem State.faulted_waits (s : State) (i : SlotNo) (r : ObjectRecord) :
    (s.faulted i r).waits = s.waits.filter fun w => !w.waitsOn i := by
  unfold State.faulted
  rw [State.dismissAll_waits]
  exact s.erase_waiters i

theorem State.quarantine_waits (s : State) (i : SlotNo) (r : ObjectRecord) :
    (s.quarantine i r).waits = s.waits.filter fun w => !w.waitsOn i := by
  rw [State.quarantine_eq, State.appendAlert_waits, State.quarantineKind_waits, State.faulted_waits]

theorem State.quarantine_object (s : State) (i : SlotNo) (r : ObjectRecord) :
    (s.quarantine i r).object i = some r.inQuarantine := by
  rw [State.quarantine_eq]
  unfold State.object State.slot
  rw [State.appendAlert_slots]
  show (((s.faulted i r).quarantineKind i r).slot i).object = _
  rw [State.slot_quarantineKind, if_pos rfl]

/-- Quarantine leaves every other slot (R20). -/
theorem State.quarantine_slot_ne (s : State) {i j : SlotNo} (r : ObjectRecord) (hj : j ≠ i) :
    (s.quarantine i r).slot j = s.slot j := by
  rw [State.quarantine_eq]
  unfold State.slot
  rw [State.appendAlert_slots]
  show ((s.faulted i r).quarantineKind i r).slot j = _
  rw [State.slot_quarantineKind, if_neg (Ne.symm hj)]
  unfold State.faulted
  rw [State.dismissAll_slot_ne .fault (fun w => State.deletionWaiters_list) hj]
  show (s.slots.set i.val _ i.isLt).get j = _
  rw [vector_get_set, if_neg (Ne.symm hj)]

theorem State.quarantine_queue (s : State) (i j : SlotNo) (r : ObjectRecord) :
    (s.quarantine i r).queue j =
      if r.part = .queue ∧ i = j then (s.queue i).map QueueAccount.withoutReserve else s.queue j := by
  have queues : ∀ k, (s.faulted i r).queue k = s.queue k := fun k => by
    unfold State.faulted
    rw [State.queue_congr (State.dismissAll_queues _ _ _)]
    rfl
  rw [State.quarantine_eq, State.queue_congr (State.appendAlert_queues _ _), State.queue_quarantineKind, queues, queues]

theorem State.quarantine_alerts (s : State) (i : SlotNo) (r : ObjectRecord) :
    (s.quarantine i r).alerts = (if s.alerts.length < 8 then s.alerts else s.alerts.drop 1) ++
      [⟨.quarantine ⟨i, (s.slot i).stamp⟩, s.timebase⟩] := by
  rw [State.quarantine_eq, State.appendAlert_alerts, State.quarantineKind_alerts, State.quarantineKind_timebase]
  unfold State.faulted
  rw [State.dismissAll_alerts, State.dismissAll_timebase]
  rfl

/-- Quarantine leaves what no request on an object changes (R20). -/
theorem State.quarantine_sameOutside {s : State} {i : SlotNo} {r : ObjectRecord} (ho : s.object i = some r) :
    s.sameOutside (s.quarantine i r) := by
  have ports := (State.quarantine_continues ho).port
  refine ⟨?_, ?_, ?_, ?_, ?_, ?_, ?_, ?_, ?_, fun p =>
    ⟨(ports p).rxd, (ports p).rx, (ports p).tx, (ports p).session, (ports p).teardown, (ports p).stats⟩⟩
  all_goals simp

/-- Quarantine calls for pool service for a queue with a reserve term (R20, R68). -/
theorem State.quarantineDue_iff (s : State) (i : SlotNo) (r : ObjectRecord) :
    s.quarantineDue i r = true ↔ s.promisesEntries i r := by
  unfold State.quarantineDue State.promisesEntries
  split
  · next hp =>
    rw [decide_eq_true_iff]
    cases hq : s.queue i with
    | none => simp [promisedBy]
    | some a => simp [promisedBy, QueueAccount.promised, QueueAccount.depth, hp]
  · next hp => exact iff_of_false nofun fun h => hp h.1

/-! ### The jobs that find a failing record (R10, R16) -/

theorem ObjectRecord.failsCheck_of {r : ObjectRecord} (hc : r.check = .fails) (hq : r.quarantined = false) :
    r.failsCheck = true := by simp [ObjectRecord.failsCheck, hc, hq]

theorem State.withObject_fails {s : State} {h : Handle} {o : ObjectRecord} (ho : s.resolve h = some o)
    (hf : o.failsCheck = true) (q : Sender) (code : RequestCode) (c : Checks) (run : ObjectRecord → State) :
    s.withObject q code h c run =
      ((s.quarantine h.slot o).complete q code (.refuse .fault)).poolServiceIf (s.quarantineDue h.slot o) := by
  unfold State.withObject
  rw [ho]
  dsimp only
  rw [if_pos hf]

/-- The outcome of a job that quarantines an object, with pool service for a queue that had a reserve term
(R20, R173). -/
theorem exec_quarantines {s u : State} {q : Sender} {r : Request} {i : SlotNo} {o : ObjectRecord}
    (hr : isStoreJob r = true) (h : s.serves q r)
    (hb : storeJob q r (s.takeRequest q.port) = u.poolServiceIf ((s.takeRequest q.port).quarantineDue i o))
    (hf : u.free = s.free) :
    (¬ s.promisesEntries i o → exec (requestCommand q r) s = .next u) ∧
      (s.promisesEntries i o → exec (requestCommand q r) s = .next (s.endsJob u.poolService)) := by
  have due : (s.takeRequest q.port).quarantineDue i o = true ↔ s.promisesEntries i o := s.quarantineDue_iff i o
  constructor
  · intro hn
    have hu : storeJob q r (s.takeRequest q.port) = u := by
      rw [hb, Bool.eq_false_iff.mpr (mt due.mp hn)]
      rfl
    rw [exec_served_of_free_le hr h (by rw [hu, hf]), hu]
  · intro hp
    rw [exec_served hr h, hb, due.mpr hp]
    rfl

theorem labelInRange_iff (label : Label) :
    labelInRange label = true ↔ ∀ b ∈ label, 0x21 ≤ b.toNat ∧ b.toNat ≤ 0x7E := by
  simp [labelInRange, labelCharacter]

/-- The label map's entry of a label names its slot (R16). -/
theorem State.labelled_eq_some {s : State} {label : Label} {before after : List (Label × SlotNo)} {i : SlotNo}
    (hl : label ≠ []) (hm : s.labelMap = before ++ (label, i) :: after) (hb : ∀ e ∈ before, e.1 ≠ label) :
    s.labelled label = some i := by
  have skipped : before.find? (fun e => e.1 == label) = none :=
    List.find?_eq_none.mpr fun e he => by simpa using hb e he
  simp [State.labelled, labelGiven, hl, hm, List.find?_append, skipped]

theorem jobFind_fails {s : State} {label : Label} {i : SlotNo} {o : ObjectRecord} (hr : labelInRange label = true)
    (hl : s.labelled label = some i) (ho : s.object i = some o) (hf : o.failsCheck = true) (q : Sender) :
    jobFind q label s =
      ((s.quarantine i o).complete q .find (.refuse .fault)).poolServiceIf (s.quarantineDue i o) := by
  simp [jobFind, hr, hl, ho, hf]

/-- Settles O24: a dismissal is the effect that the statements name, quarantine is taken apart into the dismissals, the
kind effects and the alert, and the jobs that find a failing record quarantine it and reply. -/
theorem failingRecordIsQuarantined : Obligations.FailingRecordIsQuarantined := by
  refine ⟨fun s status w h => State.dismiss_eq status h, ?_, ?_, ?_⟩
  · rintro s i r ho t rfl
    refine ⟨?_, (State.quarantine_continues ho).stamp i, ?_, fun j hj => ⟨s.quarantine_slot_ne r hj, ?_⟩, fun hp => ?_,
      fun hp => ?_, s.quarantine_waits i r, s.quarantine_alerts i r, State.quarantine_free _ _ _,
      State.quarantine_sameOutside ho⟩
    · rintro u rfl
      rw [State.quarantine_eq]
      simp only [State.appendAlert_ports, State.quarantineKind_ports, State.appendAlert_deadlines,
        State.quarantineKind_deadlines]
      exact ⟨rfl, rfl⟩
    · rw [State.quarantine_object]
      unfold ObjectRecord.inQuarantine
      cases r.part <;> rfl
    · rw [State.quarantine_queue, if_neg fun h => hj h.2.symm]
    · rw [State.quarantine_queue, if_pos ⟨hp, rfl⟩]
      rfl
    · rw [State.quarantine_queue, if_neg fun h => hp h.1]
  · rintro s q r h o hr hserves ho hc hq u rfl
    obtain ⟨run, hrun⟩ := storeJob_eq_withObject hr q (s.takeRequest q.port)
    refine exec_quarantines (isStoreJob_of_requestHandle hr) hserves ?_ (by simp)
    have hresolve : (s.takeRequest q.port).resolve h = some o := ho
    rw [hrun, State.withObject_fails hresolve (ObjectRecord.failsCheck_of hc hq)]
    rfl
  · rintro s q label before after i o hserves hne hrange hm hb ho hc hq u rfl
    refine exec_quarantines (r := .find label) rfl hserves ?_ (by simp)
    have hl : (s.takeRequest q.port).labelled label = some i := State.labelled_eq_some hne hm hb
    have hsession : (((s.takeRequest q.port).quarantine i o).port q.port).session.state = .opened := by
      rw [((State.quarantine_continues (s := s.takeRequest q.port) ho).port q.port).session]
      exact State.serves.opened hserves
    show jobFind q label _ = _
    rw [jobFind_fails ((labelInRange_iff label).mpr hrange) hl ho (ObjectRecord.failsCheck_of hc hq),
      State.complete_opened hsession]
    rfl

end Sys2Proof.Machine
end

section
/-! PROOFS. CREATE (O25): the slot it uses, the object it places, and the first step of R11 that fails. -/

namespace Sys2Proof.Machine

/-! ### The steps of R11 in the words of the statements -/

theorem createInRange_eq (kind : KindParams) (label : Label) :
    createInRange kind label = createFieldsInRange kind label := by
  cases kind <;> rfl

theorem kindReserve_eq (kind : KindParams) : kindReserve kind = reserveAsked kind := by
  cases kind <;> rfl

/-- The slot that a CREATE uses is the one that step 3 finds (R11, R12). -/
theorem State.slotFor_of_usesSlot {s : State} {choice : SlotChoice} {i : SlotNo} (h : s.usesSlot choice i) :
    s.slotFor choice = some i := by
  obtain ⟨he, hc⟩ := h
  cases choice with
  | slot n =>
    cases hc
    simp [State.slotFor, he]
  | any =>
    obtain ⟨before, after, hsplit, hlt⟩ := finRange_split i
    refine List.find?_eq_some_iff_append.mpr ⟨by simp [he], before, after, hsplit, fun j hj => ?_⟩
    simpa [Option.isSome_iff_ne_none] using hc j (hlt j hj)

theorem State.slotFor_slot_taken {s : State} {n : SlotNo} (h : s.object n ≠ none) : s.slotFor (.slot n) = none := by
  simp [State.slotFor, h]

theorem State.slotFor_any_full {s : State} (h : ∀ n : SlotNo, s.object n ≠ none) : s.slotFor .any = none := by
  simp [State.slotFor, h]

/-- No label is given, or the one given is on no entry of the map (R11). -/
theorem State.labelInMap_eq_false {s : State} {label : Label} (h : label = [] ∨ ∀ e ∈ s.labelMap, e.1 ≠ label) :
    s.labelInMap label = false := by
  unfold State.labelInMap labelGiven
  rcases h with rfl | h
  · rfl
  · split
    · next l hl =>
      split at hl
      · cases hl
      · cases hl
        exact List.any_eq_false.mpr fun e he => by simpa using h e he
    · rfl

theorem State.labelInMap_eq_true {s : State} {label : Label} (hne : label ≠ []) (h : ∃ e ∈ s.labelMap, e.1 = label) :
    s.labelInMap label = true := by
  unfold State.labelInMap labelGiven
  rw [if_neg hne]
  simpa using h

/-- The placement of an object: its record, its accounting and its label, and nothing else (R12). -/
theorem State.placeObject_eq (s : State) (q : Sender) (i : SlotNo) (access : Byte) (isScoped : Bool) (kind : KindParams)
    (label : Label) :
    s.placeObject q i access isScoped kind label = { s with
      slots := s.slots.set i.val ⟨(s.slot i).stamp, some (s.newRecord q access isScoped kind label)⟩ i.isLt
      queues := s.queues.set i.val (accountOf kind) i.isLt
      labelMap := if label = [] then s.labelMap else s.labelMap ++ [(label, i)] } := by
  unfold State.placeObject State.newRecord labelGiven
  by_cases hl : label = []
  · simp only [if_pos hl]
    rfl
  · simp only [if_neg hl]
    rfl

/-! ### The job, step by step (R11) -/

section
variable {s : State} {q : Sender} {slot : SlotChoice} {access : Byte} {isScoped : Bool} {kind : KindParams}
  {label : Label}

theorem jobCreate_noRight (hc : (s.rightsOf q.port).create = false) :
    jobCreate q slot access isScoped kind label s = s.complete q .create (.refuse .noRight) := by
  simp [jobCreate, hc]

theorem jobCreate_range (hc : (s.rightsOf q.port).create = true) (hr : createInRange kind label = false) :
    jobCreate q slot access isScoped kind label s = s.complete q .create (.refuse .range) := by
  simp [jobCreate, hc, hr]

theorem jobCreate_taken (hc : (s.rightsOf q.port).create = true) (hr : createInRange kind label = true)
    (hs : s.slotFor slot = none) :
    jobCreate q slot access isScoped kind label s = s.complete q .create (.refuse (takenStatus slot)) := by
  simp [jobCreate, hc, hr, hs]

theorem jobCreate_labelTaken {i : SlotNo} (hc : (s.rightsOf q.port).create = true)
    (hr : createInRange kind label = true) (hs : s.slotFor slot = some i) (hl : s.labelInMap label = true) :
    jobCreate q slot access isScoped kind label s = s.complete q .create (.refuse .labelTaken) := by
  simp [jobCreate, hc, hr, hs, hl]

theorem jobCreate_noSpace {i : SlotNo} (hc : (s.rightsOf q.port).create = true)
    (hr : createInRange kind label = true) (hs : s.slotFor slot = some i) (hl : s.labelInMap label = false)
    (hf : s.free < s.outstanding + kindReserve kind) :
    jobCreate q slot access isScoped kind label s = s.complete q .create (.refuse .noSpace) := by
  simp [jobCreate, hc, hr, hs, hl, hf]

theorem jobCreate_passes {i : SlotNo} (hc : (s.rightsOf q.port).create = true)
    (hr : createInRange kind label = true) (hs : s.slotFor slot = some i) (hl : s.labelInMap label = false)
    (hf : s.outstanding + kindReserve kind ≤ s.free) :
    jobCreate q slot access isScoped kind label s =
      (s.placeObject q i access isScoped kind label).complete q .create (.ok (.handle ⟨i, (s.slot i).stamp⟩)) := by
  simp [jobCreate, hc, hr, hs, hl, Nat.not_lt.mpr hf]

end

/-- Settles O25: the job goes through the steps of R11 in order, and each decides as the statement's clause says. -/
theorem createPlacesObjectOrIsRefused : Obligations.CreatePlacesObjectOrIsRefused := by
  constructor
  · intro s q slot access isScoped kind label i hserves hc hr hslot hl hf
    have hjob := jobCreate_passes (s := s.takeRequest q.port) (q := q) (slot := slot) (access := access)
      (isScoped := isScoped) hc ((createInRange_eq kind label).trans hr) (State.slotFor_of_usesSlot (s := s) hslot)
      (State.labelInMap_eq_false (s := s) hl) (kindReserve_eq kind ▸ hf)
    refine (exec_replied (r := .create slot access isScoped kind label) rfl hserves hjob
      (State.serves.opened hserves) (Nat.le_refl _)).trans ?_
    rw [State.placeObject_eq]
    unfold State.newRecord
    rw [State.takeRequest_sessionOf]
    cases kind <;> rfl
  · intro s q slot access isScoped kind label status hserves hcases
    refine exec_refused (r := .create slot access isScoped kind label) rfl hserves ?_
    show jobCreate q slot access isScoped kind label _ = _
    rcases hcases with ⟨hc, rfl⟩ | ⟨hc, hcases⟩
    · exact jobCreate_noRight hc
    rw [← createInRange_eq] at hcases
    rcases hcases with ⟨hr, rfl⟩ | ⟨hr, hcases⟩
    · exact jobCreate_range hc hr
    rcases hcases with ⟨⟨n, rfl, hn⟩, rfl⟩ | ⟨rfl, hn, rfl⟩ | ⟨i, hslot, hcases⟩
    · exact jobCreate_taken hc hr (State.slotFor_slot_taken (s := s) hn)
    · exact jobCreate_taken hc hr (State.slotFor_any_full (s := s) hn)
    have hs := State.slotFor_of_usesSlot hslot
    rcases hcases with ⟨hne, hl, rfl⟩ | ⟨hl, hf, rfl⟩
    · exact jobCreate_labelTaken hc hr hs (State.labelInMap_eq_true (s := s) hne hl)
    · exact jobCreate_noSpace hc hr hs (State.labelInMap_eq_false (s := s) hl) (kindReserve_eq kind ▸ hf)

end Sys2Proof.Machine
end

section
/-! PROOFS. DELETE (O26): the deletion, its reply, and that pool service brings nothing back to the slot. -/

namespace Sys2Proof.Machine

/-! ### A slot that nothing waits on and that holds no accounting -/

/-- No accounting stands in the slot, and nothing waits on its object (R13, R14). -/
def State.vacated (s : State) (i : SlotNo) : Prop := s.queue i = none ∧ ∀ w ∈ s.waits, w.waitsOn i = false

theorem State.moveWaiter_waits (s : State) (w : WaitRecord) (l : WaitList) :
    (s.moveWaiter w l).waits = s.waits.erase w ++ [{ w with list := l }] := by
  simp [State.moveWaiter]

theorem State.grantPut_waits (s : State) (i : SlotNo) (a : QueueAccount) (w : WaitRecord) (value : Word)
    (side : QueueEnd) : (s.grantPut i a w value side).waits = s.waits.erase w := by
  unfold State.grantPut
  rw [State.complete_waits, State.linkEntry_waits]
  simp [State.removeWaiter]

theorem State.grantPut_queue_ne (s : State) {i j : SlotNo} (a : QueueAccount) (w : WaitRecord) (value : Word)
    (side : QueueEnd) (hij : i ≠ j) : (s.grantPut i a w value side).queue j = s.queue j := by
  unfold State.grantPut
  rw [State.queue_congr (State.complete_queues _ _ _ _)]
  show ((s.removeWaiter w).setQueue i _).queue j = _
  rw [State.queue_setQueue, if_neg hij, State.queue_congr (State.removeWaiter_queues _ _)]

/-- Pool service moves and grants puts of slots with accounting alone (R86). -/
theorem poolPassRecord_vacated {x : State × Bool} {i : SlotNo} (h : x.1.vacated i) (w : WaitRecord) :
    (poolPassRecord x w).1.vacated i := by
  obtain ⟨hq, hw⟩ := h
  have kept : ∀ v ∈ x.1.waits.erase w, v.waitsOn i = false := fun v hv => hw v (List.mem_of_mem_erase hv)
  unfold poolPassRecord
  split
  · next a value side ha _ =>
    have hne : w.target.slot ≠ i := by
      rintro rfl
      rw [hq] at ha
      cases ha
    split
    · refine ⟨(State.queue_congr (State.moveWaiter_queues _ _ _) i).trans hq, fun v hv => ?_⟩
      rw [State.moveWaiter_waits, List.mem_append, List.mem_singleton] at hv
      rcases hv with hv | rfl
      · exact kept v hv
      · simp [WaitRecord.waitsOn, hne]
    · split
      · refine ⟨(State.grantPut_queue_ne _ _ _ _ _ hne).trans hq, fun v hv => ?_⟩
        rw [State.grantPut_waits] at hv
        exact kept v hv
      · exact ⟨hq, hw⟩
  · exact ⟨hq, hw⟩

theorem poolPass_vacated {s : State} {i : SlotNo} (h : s.vacated i) : (poolPass s).1.vacated i :=
  List.foldlRecOn _ poolPassRecord (motive := fun x => x.1.vacated i) h fun _ hx w _ => poolPassRecord_vacated hx w

theorem poolPasses_vacated (n : Nat) {s : State} {i : SlotNo} (h : s.vacated i) : (poolPasses n s).vacated i := by
  induction n generalizing s with
  | zero => exact h
  | succ n ih =>
    have pass := poolPass_vacated h
    unfold poolPasses
    split
    · next s' hs =>
      rw [hs] at pass
      exact ih pass
    · next s' hs =>
      rw [hs] at pass
      exact pass

theorem State.poolServiceIf_vacated {s : State} {i : SlotNo} (h : s.vacated i) (due : Bool) :
    (s.poolServiceIf due).vacated i := by
  cases due with
  | true => exact poolPasses_vacated _ h
  | false => exact h

/-- A slot that is empty stays so, under its stamp, while the services of a job run. -/
theorem State.Continues.slot_empty {s t : State} (h : s.Continues t) {i : SlotNo} {stamp : Byte}
    (hs : s.slot i = ⟨stamp, none⟩) : t.slot i = ⟨stamp, none⟩ := by
  have hstamp := h.stamp i
  have hobject := h.object i
  unfold State.object at hobject
  rw [hs] at hstamp hobject
  generalize t.slot i = x at hstamp hobject ⊢
  obtain ⟨_, _⟩ := x
  cases hstamp
  cases hobject
  rfl

/-! ### The state after a deletion and its reply (R13, R14) -/

/-- What a DELETE is replied: the count of the waiters that the deletion removes (R13). -/
def State.deleteAnswer (s : State) (h : Handle) : Answer :=
  ⟨.ok, Flags.clear, .deletedWaiters ((s.waitList (.object h.slot)).length + (s.poolPuts h.slot).length)⟩

/-- The object of a DELETE deleted and the DELETE replied, before any pool service. -/
def State.deleteReplied (s : State) (q : Sender) (h : Handle) : State :=
  ((s.takeRequest q.port).deleted h.slot).replied q 0x11#8 (s.deleteAnswer h)

theorem State.deleted_vacated (s : State) (i : SlotNo) : (s.deleted i).vacated i := by
  refine ⟨?_, fun w hw => ?_⟩
  · show (s.queues.set i.val none i.isLt).get i = none
    rw [vector_get_set, if_pos rfl]
  · have hw' : w ∈ (State.dismissAll .deleted s (s.waitList (.object i) ++ s.poolPuts i)).waits := hw
    rw [State.dismissAll_waits, State.erase_waiters] at hw'
    simpa using (List.mem_filter.mp hw').2

theorem State.slot_deleted (s : State) (i j : SlotNo) :
    (s.deleted i).slot j = if i = j then ⟨nextStamp (s.slot i).stamp, none⟩ else s.slot j := vector_get_set _ _ _ _

theorem State.queue_deleted (s : State) (i j : SlotNo) :
    (s.deleted i).queue j = if i = j then none else s.queue j := vector_get_set _ _ _ _

/-- The dismissals of a deletion continue every port. -/
theorem State.deleted_port_continues (s : State) (i : SlotNo) (p : Port) :
    (s.port p).Continues ((s.deleted i).port p) :=
  (s.dismissAll_continues .deleted (s.waitList (.object i) ++ s.poolPuts i)).port p

/-- A deletion with nothing waiting on the object and no entry in its queue. -/
theorem State.deleted_quiet {s : State} {i : SlotNo} (hw : s.waitList (.object i) = []) (hp : s.poolPuts i = [])
    (hd : depthOf (s.queue i) = 0) : s.deleted i = { s with
      slots := s.slots.set i.val ⟨nextStamp (s.slot i).stamp, none⟩ i.isLt
      queues := s.queues.set i.val none i.isLt
      labelMap := s.labelMap.filter (fun e => e.2 != i) } := by
  have labels : s.labelMap.filter (fun e => decide (e.2 ≠ i)) = s.labelMap.filter (fun e => e.2 != i) :=
    List.filter_congr fun e _ => by by_cases he : e.2 = i <;> simp [he]
  unfold State.deleted
  rw [hw, hp, hd, labels]
  rfl

/-- A reply stands at the tail of its port's transmit queue. -/
theorem State.replied_queue (s : State) (q : Sender) (code : Byte) (x : Answer) :
    ((s.replied q code x).port q.port).queue =
      (s.port q.port).queue ++ [⟨some q.tag, s.replyNow q code x, .plain⟩] := by
  show ((s.ports.set q.port.val _ q.port.isLt).get q.port).queue = _
  rw [vector_get_set, if_pos rfl]
  rfl

theorem State.deletionDue_iff (s : State) (i : SlotNo) : s.deletionDue i = true ↔ s.givesBackEntries i := by
  unfold State.deletionDue State.givesBackEntries
  cases s.queue i with
  | none => simp [depthOf, promisedBy]
  | some a => simp [depthOf, promisedBy, QueueAccount.promised, QueueAccount.depth, List.length_pos_iff]

/-! ### The DELETE job -/

theorem jobDelete_passes {s : State} {q : Sender} {h : Handle} {o : ObjectRecord} (ho : s.resolve h = some o)
    (hc : o.check = .agrees ∨ o.quarantined = true) (ha : accessHas o.access q.port = true)
    (hright : (s.rightsOf q.port).delete = true) :
    jobDelete q h s = ((s.deleteObject h.slot).complete q .delete
      (.ok (.deletedWaiters (s.deletionWaiters h.slot).length))).poolServiceIf (s.deletionDue h.slot) :=
  State.withObject_runs ho hc rfl (by rw [ha, Bool.true_or]) (.inr rfl) hright rfl

/-- The state after a DELETE: the deletion and its reply, and pool service where it is due (R13, R14, R173). -/
theorem exec_delete {s : State} {q : Sender} {h : Handle} {o : ObjectRecord} (hserves : s.serves q (.delete h))
    (ho : s.resolve h = some o) (hc : o.check = .agrees ∨ o.quarantined = true)
    (ha : accessHas o.access q.port = true) (hright : (s.rightsOf q.port).delete = true) :
    exec (.delete q h) s =
      .next (s.endsJob ((s.deleteReplied q h).poolServiceIf (s.deletionDue h.slot))) := by
  have hsession : (((s.takeRequest q.port).deleted h.slot).port q.port).session.state = .opened := by
    rw [((s.takeRequest q.port).deleted_port_continues h.slot q.port).session]
    exact State.serves.opened hserves
  have hjob := jobDelete_passes (s := s.takeRequest q.port) ho hc ha hright
  rw [State.deleteObject_eq_deleted, State.complete_opened hsession] at hjob
  refine (exec_served (r := .delete h) rfl hserves).trans ?_
  show Host.Outcome.next (s.endsJob (jobDelete q h _)) = _
  rw [hjob]
  unfold State.deletionWaiters State.deleteReplied State.deleteAnswer
  rw [List.length_append]
  rfl

/-- A job that lowers no free count appends no alert at its end (R173). -/
theorem State.endsJob_of_free_le {s u : State} (h : s.free ≤ u.free) : s.endsJob u = u :=
  runJob_of_free_le (body := fun _ => u) h

theorem State.deleteReplied_slot_ne (s : State) (q : Sender) {h : Handle} {j : SlotNo} (hj : j ≠ h.slot) :
    (s.deleteReplied q h).slot j = s.slot j :=
  ((s.takeRequest q.port).slot_deleted h.slot j).trans (if_neg (Ne.symm hj))

theorem State.deleteReplied_queue_ne (s : State) (q : Sender) {h : Handle} {j : SlotNo} (hj : j ≠ h.slot) :
    (s.deleteReplied q h).queue j = s.queue j :=
  ((s.takeRequest q.port).queue_deleted h.slot j).trans (if_neg (Ne.symm hj))

/-- The slot is empty and its stamp has advanced (R6). -/
theorem State.deleteReplied_slot {s : State} {h : Handle} (hs : (s.slot h.slot).stamp = h.stamp) (q : Sender) :
    (s.deleteReplied q h).slot h.slot = ⟨nextStamp h.stamp, none⟩ := by
  rw [← hs]
  exact ((s.takeRequest q.port).slot_deleted h.slot h.slot).trans (if_pos rfl)

theorem State.deleteReplied_vacated (s : State) (q : Sender) (h : Handle) :
    (s.deleteReplied q h).vacated h.slot := (s.takeRequest q.port).deleted_vacated h.slot

theorem State.mem_deleteReplied_labelMap (s : State) (q : Sender) (h : Handle) (e : Label × SlotNo) :
    e ∈ (s.deleteReplied q h).labelMap ↔ e ∈ s.labelMap ∧ e.2 ≠ h.slot := by
  show e ∈ s.labelMap.filter (fun e => e.2 ≠ h.slot) ↔ _
  rw [List.mem_filter, decide_eq_true_iff]

/-- The reply to the DELETE stays in the transmit queue while the services of the job run. -/
theorem State.Continues.mem_deleteReplied {s t : State} {q : Sender} {h : Handle}
    (ht : (s.deleteReplied q h).Continues t) :
    ⟨some q.tag, ((s.takeRequest q.port).deleted h.slot).replyNow q 0x11#8 (s.deleteAnswer h), .plain⟩ ∈
      (t.port q.port).queue := by
  obtain ⟨frames, hframes⟩ := (ht.port q.port).queue
  rw [hframes]
  unfold State.deleteReplied
  rw [State.replied_queue]
  simp

/-- A DELETE that gives back no entry and no reserve term calls for no pool service (R14). -/
theorem exec_delete_unserved {s : State} {q : Sender} {h : Handle} (hn : ¬ s.givesBackEntries h.slot)
    (hexec : exec (.delete q h) s =
      .next (s.endsJob ((s.deleteReplied q h).poolServiceIf (s.deletionDue h.slot)))) :
    exec (.delete q h) s = .next (s.deleteReplied q h) := by
  rw [hexec, Bool.eq_false_iff.mpr (mt (s.deletionDue_iff h.slot).mp hn)]
  exact congrArg _ (State.endsJob_of_free_le (Nat.le_add_right _ _))

/-- Settles O26: the state after a DELETE is the deletion with its reply, then the services that the deletion calls for,
which leave the slot empty, its accounting gone and nothing waiting on it. -/
theorem deleteEmptiesSlot : Obligations.DeleteEmptiesSlot := by
  rintro s q h o hserves ho hc ha hright stamp rfl
  have hexec := exec_delete hserves ho hc ha hright
  have hstamp : (s.slot h.slot).stamp = h.stamp := (State.object_of_resolve ho).2
  have hslot := State.deleteReplied_slot hstamp q
  refine ⟨⟨_, hexec, ?_⟩, fun hw hp hq => ?_, ?_⟩
  · have served := ((s.deleteReplied q h).poolServiceIf_continues (s.deletionDue h.slot)).trans
      (State.endsJob_continues s _)
    obtain ⟨hqueue, hwaits⟩ :=
      State.poolServiceIf_vacated (s.deleteReplied_vacated q h) (s.deletionDue h.slot)
    refine ⟨served.slot_empty hslot, ?_, fun e he => ?_, fun e he hne => ?_, ?_, fun j hj => ?_,
      _, served.mem_deleteReplied, rfl, rfl, rfl, rfl, rfl, rfl⟩
    · rw [State.queue_congr (State.endsJob_queues _ _)]
      exact hqueue
    · rw [served.labelMap, State.mem_deleteReplied_labelMap] at he
      exact he.2
    · rw [served.labelMap, State.mem_deleteReplied_labelMap]
      exact ⟨he, hne⟩
    · rw [State.endsJob_waits]
      intro w hw
      simpa [WaitRecord.waitsOn] using hwaits w hw
    · rw [served.stamp, s.deleteReplied_slot_ne q hj]
  · have hdepth : depthOf (s.queue h.slot) = 0 := by
      cases ha : s.queue h.slot with
      | none => rfl
      | some a => simp [depthOf, QueueAccount.depth, (hq a ha).1]
    have hn : ¬ s.givesBackEntries h.slot := by
      rintro ⟨a, ha, hne⟩
      obtain ⟨hchain, hreserve⟩ := hq a ha
      simp [hchain, hreserve] at hne
    rw [exec_delete_unserved hn hexec]
    unfold State.deleteReplied State.deleteAnswer
    rw [State.deleted_quiet (s := s.takeRequest q.port) hw hp hdepth, hw, hp, State.takeRequest_slot, hstamp]
    rfl
  · rintro v rfl
    refine ⟨rfl, hslot, fun j hj => ⟨s.deleteReplied_slot_ne q hj, s.deleteReplied_queue_ne q hj⟩,
      fun hn => exec_delete_unserved hn hexec, fun hg => ?_⟩
    rw [hexec, (s.deletionDue_iff h.slot).mpr hg]
    rfl

end Sys2Proof.Machine
end

section
/-! PROOFS. DESCRIBE, FIND and SET_ACCESS: what each job replies and writes (O27). -/

namespace Sys2Proof.Machine

/-! ### DESCRIBE (R15) -/

/-- The kind data that a DESCRIBE reports. -/
theorem State.kindData_eq {s : State} {i : SlotNo} {o : ObjectRecord} {data : KindData}
    (h : (∃ value order, o.part = .cell value order ∧ data = .cell value order) ∨
      (∃ a, o.part = .queue ∧ s.queue i = some a ∧ data = .queue a.chain.length a.limit a.reserve) ∨
      (∃ holder count damaged, o.part = .lock holder count damaged ∧ data = .lock holder count damaged)) :
    s.kindData i o = data := by
  unfold State.kindData
  rcases h with ⟨value, order, hp, rfl⟩ | ⟨a, hp, hq, rfl⟩ | ⟨holder, count, damaged, hp, rfl⟩
  · rw [hp]
  · rw [hp]
    unfold State.account
    rw [hq]
    rfl
  · rw [hp]

theorem jobDescribe_passes {s : State} {q : Sender} {h : Handle} {o : ObjectRecord} (ho : s.resolve h = some o)
    (hc : o.check = .agrees ∨ o.quarantined = true) (ha : accessHas o.access q.port = true) :
    jobDescribe q h s = s.complete q .describe (.ok (s.describeData h.slot o)) :=
  State.withObject_runs ho hc rfl (by rw [ha, Bool.true_or]) (.inr rfl) rfl rfl

/-! ### FIND (R16) -/

theorem State.labelled_eq_none {s : State} {label : Label} (h : label = [] ∨ ∀ e ∈ s.labelMap, e.1 ≠ label) :
    s.labelled label = none := by
  unfold State.labelled labelGiven
  rcases h with rfl | h
  · rfl
  · split
    · rfl
    · have absent : s.labelMap.find? (fun e => e.1 == label) = none :=
        List.find?_eq_none.mpr fun e he => by simpa using h e he
      simp [absent]

section
variable {s : State} {label : Label} {i : SlotNo} {o : ObjectRecord}

theorem jobFind_range (hr : labelInRange label = false) (q : Sender) :
    jobFind q label s = s.complete q .find (.refuse .range) := by
  simp [jobFind, hr]

theorem jobFind_unlabelled (hr : labelInRange label = true) (hl : s.labelled label = none) (q : Sender) :
    jobFind q label s = s.complete q .find (.refuse .noObject) := by
  simp [jobFind, hr, hl]

theorem jobFind_found {q : Sender} (hr : labelInRange label = true) (hl : s.labelled label = some i)
    (ho : s.object i = some o) (hf : o.failsCheck = false) (ha : accessHas o.access q.port = true) :
    jobFind q label s = s.complete q .find (.ok (.handle ⟨i, (s.slot i).stamp⟩)) := by
  simp [jobFind, hr, hl, ho, hf, ha]

theorem jobFind_kept_out {q : Sender} (hr : labelInRange label = true) (hl : s.labelled label = some i)
    (ho : s.object i = some o) (hf : o.failsCheck = false) (ha : accessHas o.access q.port = false) :
    jobFind q label s = s.complete q .find (.refuse .noObject) := by
  simp [jobFind, hr, hl, ho, hf, ha]

end

/-! ### SET_ACCESS (R17) -/

theorem jobSetAccess_passes {s : State} {q : Sender} {h : Handle} {o : ObjectRecord} (ho : s.resolve h = some o)
    (hc : o.check = .agrees) (hq : o.quarantined = false)
    (ha : accessHas o.access q.port = true ∨ (s.rightsOf q.port).admin = true)
    (hright : o.creator.port = q.port ∨ (s.rightsOf q.port).admin = true) (access : Byte) :
    jobSetAccess q h access s =
      (s.holds h.slot { o with access := accessWith access o.creator.port }).complete q .setAccess
        (.ok (.access (accessWith access o.creator.port))) := by
  rw [← State.writeRecord_eq_holds (r := { o with access := accessWith access o.creator.port }) hc]
  refine State.withObject_runs (c := setAccessChecks q) ho (.inl hc) rfl ?_ (.inl hq) ?_ rfl
  · rcases ha with ha | ha <;> simp [setAccessChecks, ha]
  · rcases hright with hright | hright <;> simp [setAccessChecks, hright]

/-- Settles O27: each job passes its checks and replies, or refuses, on the state as it was taken. -/
theorem describeFindAndSetAccess : Obligations.DescribeFindAndSetAccess := by
  refine ⟨?_, ?_, ?_⟩
  · intro s q h o hserves ho hc ha data hdata
    refine exec_replied_at_once (r := .describe h) rfl hserves ?_
    refine (jobDescribe_passes (s := s.takeRequest q.port) ho hc ha).trans ?_
    unfold State.describeData
    rw [State.kindData_eq (s := s.takeRequest q.port) hdata]
    rfl
  · intro s q label hserves
    refine ⟨fun hr => ?_, fun hr => ⟨fun hl => ?_, fun before i after o hne hm hb ho hc =>
      ⟨fun ha => ?_, fun ha => ?_⟩⟩⟩
    · refine exec_refused (r := .find label) rfl hserves (jobFind_range (Bool.eq_false_iff.mpr fun hin => ?_) q)
      obtain ⟨b, hmem, hb⟩ := hr
      have := (labelInRange_iff label).mp hin b hmem
      omega
    all_goals have hin := (labelInRange_iff label).mpr hr
    · exact exec_refused (r := .find label) rfl hserves
        (jobFind_unlabelled (s := s.takeRequest q.port) hin (State.labelled_eq_none (s := s) hl) q)
    all_goals
      have hl : (s.takeRequest q.port).labelled label = some i := State.labelled_eq_some hne hm hb
      have hf := ObjectRecord.not_failsCheck hc
    · exact exec_replied_at_once (r := .find label) rfl hserves (jobFind_found hin hl ho hf ha)
    · exact exec_refused (r := .find label) rfl hserves (jobFind_kept_out hin hl ho hf ha)
  · intro s q h access o hserves ho hc hq ha hright
    exact exec_replied (r := .setAccess h access) rfl hserves
      (jobSetAccess_passes (s := s.takeRequest q.port) ho hc hq ha hright access) (State.serves.opened hserves)
      (Nat.le_refl _)

end Sys2Proof.Machine
end

section
/-! PROOFS. The requests on cells carried out when taken: one lemma for every operation, and what each operation's
action leaves, returns and flags (O28 to O32); a guard that does not hold (O34); SET_ORDER (O35). -/

namespace Sys2Proof.Machine

/-! ### A cell request that reaches step 8 (R24, R25) -/

/-- A record written as the slot holds it already. -/
theorem State.holds_same {s : State} {i : SlotNo} {r : ObjectRecord} (ho : s.object i = some r)
    (hc : r.check = .agrees) : s.holds i r = s := by
  rw [← State.writeRecord_eq_holds hc, State.writeRecord_same ho hc]

/-- A record written by the job of a request and the request replied, its session being OPEN. -/
theorem State.written_replied {s : State} {q : Sender} {req : Request} {r : ObjectRecord} (hs : s.serves q req)
    (hc : r.check = .agrees) (i : SlotNo) (code : RequestCode) (x : Answer) :
    ((s.takeRequest q.port).writeRecord i r).complete q code x =
      ((s.takeRequest q.port).holds i r).replied q code.byte x := by
  rw [State.writeRecord_eq_holds hc]
  exact State.complete_opened (s := (s.takeRequest q.port).holds i r) (State.serves.opened hs) code x

/-- The range check of a cell request is that of the table of R9. -/
theorem State.inRange_cell (s : State) (h : Handle) (op : CellOp) (g : Guard) (w : Half) :
    s.inRange (.cell h op g w) = cellInRange op := by
  cases op <;> rfl

section
variable {s : State} {q : Sender} {h : Handle} {r : ObjectRecord} {v : Word} {order : Order} {op : CellOp} {g : Guard}
  {w : Half}

/-- A cell request on a usable cell, its fields in range, reaches step 8. -/
theorem jobCell_reaches_guard (hu : s.usable q h r) (hp : r.part = .cell v order) (hr : cellInRange op = true) :
    jobCell q h op g w s = runCell q h op g w s r v order := by
  unfold jobCell
  rw [State.withObject_usable hu (by rw [hp]; rfl) hr, hp]

theorem runCell_of_guardHolds (hg : guardHolds g v = true) : runCell q h op g w s r v order =
    ((s.writeRecord h.slot { r with part := .cell (cellAct op v).after order }).complete q .cellOp
      ⟨.ok, (cellAct op v).flags, .cell v (cellAct op v).result⟩).scanIf
        (if (cellAct op v).after = v then none else some h.slot) := if_pos hg

theorem runCell_of_guardFails (hg : guardHolds g v = false) : runCell q h op g w s r v order =
    if w = 0#16 then s.complete q .cellOp ⟨.guardFalse, flagsOn v, .cell v v⟩
    else s.place q (.cell op g) h w (.object h.slot) := if_neg (by rw [hg]; exact Bool.false_ne_true)

theorem State.cellCarriedOut_free (s : State) (q : Sender) (h : Handle) (r : ObjectRecord) (order : Order)
    (before after result : Word) (n z v c : Bool) :
    (s.cellCarriedOut q h r order before after result n z v c).free = s.free := by
  unfold State.cellCarriedOut
  dsimp only
  split
  · rfl
  · exact State.scan_free _ _

/-- A cell request whose guard holds when it is taken: its action is carried out, the reply goes out with W clear, and a
changed value is followed by a scan (R25, R40). -/
theorem exec_cell_of_guardHolds {after result : Word} {n z o c : Bool} (hs : s.serves q (.cell h op g w))
    (hu : s.usable q h r) (hp : r.part = .cell v order) (hr : cellInRange op = true) (hg : guardHolds g v = true)
    (ha : cellAct op v = ⟨after, result, n, z, o, c, false, false⟩) :
    exec (cellCommand q h g w op) s = .next (s.cellCarriedOut q h r order v after result n z o c) := by
  have hjob : storeJob q (.cell h op g w) (s.takeRequest q.port) =
      s.cellCarriedOut q h r order v after result n z o c := by
    refine (jobCell_reaches_guard (s := s.takeRequest q.port) hu hp hr).trans ?_
    rw [runCell_of_guardHolds hg, ha, State.written_replied (r := { r with part := .cell after order }) hs hu.2.1]
    unfold State.cellCarriedOut
    dsimp only
    split <;> rfl
  refine (exec_served_of_free_le (r := .cell h op g w) rfl hs ?_).trans ?_
  · rw [hjob, State.cellCarriedOut_free]
  · rw [hjob]

/-- A request carried out that leaves the value as it stands leaves the record as it stands. -/
theorem State.cellCarriedOut_unchanged (hu : s.usable q h r) (hp : r.part = .cell v order) (result : Word)
    (n z o c : Bool) : s.cellCarriedOut q h r order v v result n z o c =
      (s.takeRequest q.port).replied q 0x20#8 ⟨.ok, ⟨n, z, o, c, false, false⟩, .cell v result⟩ := by
  unfold State.cellCarriedOut
  rw [← hp, State.holds_same (s := s.takeRequest q.port) (State.object_of_resolve hu.1).1 hu.2.1]
  exact if_pos rfl

end

/-! ### READ, EXCHANGE and ADD (R28 to R30) -/

/-- Settles O28: the action of each operation, by the lemma of all carried-out requests. -/
theorem readAndExchangeCells : Obligations.ReadAndExchangeCells := by
  intro s q h g w r v order hu hp hg
  refine ⟨fun hs => ?_, fun x hs => exec_cell_of_guardHolds (op := .exchange x) hs hu hp rfl hg rfl⟩
  rw [← State.cellCarriedOut_unchanged hu hp]
  exact exec_cell_of_guardHolds (op := .read) hs hu hp rfl hg rfl

/-- The addition of a negative word carries exactly when the subtraction does not borrow (R30). -/
theorem carry_neg_iff {v k : Word} (hk : k ≠ 0#32) : 4294967295 < v.toNat + (-k).toNat ↔ k.toNat ≤ v.toNat := by
  have hpos : k.toNat ≠ 0 := fun h => hk (BitVec.eq_of_toNat_eq h)
  have hneg : (-k).toNat = 4294967296 - k.toNat := by
    rw [BitVec.toNat_neg, Nat.mod_eq_of_lt (by omega)]
  have := k.isLt
  omega

/-- Settles O29. -/
theorem addSetsSumAndFlags : Obligations.AddSetsSumAndFlags := by
  refine ⟨fun s q h g w r v a order hu hp hg hs =>
    exec_cell_of_guardHolds (op := .add a) hs hu hp rfl hg rfl, fun v k => carry_neg_iff, fun v => ?_⟩
  have hv := v.isLt
  refine ⟨BitVec.add_zero v, by simp, ?_⟩
  rw [BitVec.toNat_zero]
  omega

/-! ### SETMASK, CLEARMASK and COMPARESWAP (R31 to R33) -/

/-- Settles O30: the word that the bits name is the value with the mask's bits set, or cleared. -/
theorem masksSetAndClearBits : Obligations.MasksSetAndClearBits := by
  intro s q h g w r v m x order hu hp hg
  refine ⟨fun hs hx => ?_, fun hs hx => ?_⟩
  · obtain rfl : x = v ||| m := BitVec.eq_of_getLsbD_eq fun i hi => by rw [hx i hi, BitVec.getLsbD_or]
    exact exec_cell_of_guardHolds (op := .setmask m) hs hu hp rfl hg rfl
  · obtain rfl : x = v &&& ~~~ m := BitVec.eq_of_getLsbD_eq fun i hi => by
      rw [hx i hi, BitVec.getLsbD_and, BitVec.getLsbD_not, decide_eq_true hi, Bool.true_and]
    exact exec_cell_of_guardHolds (op := .clearmask m) hs hu hp rfl hg rfl

theorem actCompareswap_match (e n : Word) :
    actCompareswap e n e = ⟨n, n, false, true, false, false, false, false⟩ := by
  simp [actCompareswap, compareFlags, BitVec.slt, BitVec.ult]

theorem actCompareswap_mismatch {v e : Word} (hne : v ≠ e) (n : Word) : actCompareswap e n v =
    ⟨v, v, decide (v.toInt < e.toInt), false, false, decide (v.toNat < e.toNat), false, false⟩ := by
  simp [actCompareswap, compareFlags, hne, BitVec.slt, BitVec.ult]

/-- Settles O31: a match writes the new value, a mismatch the value found. -/
theorem compareswapWritesOnMatch : Obligations.CompareswapWritesOnMatch := by
  intro s q h g w r v e n order hu hp hg hs
  refine ⟨fun heq => ?_, fun hne => ?_⟩
  · subst heq
    exact exec_cell_of_guardHolds (op := .compareswap v n) hs hu hp rfl hg (actCompareswap_match v n)
  · exact exec_cell_of_guardHolds (op := .compareswap e n) hs hu hp rfl hg (actCompareswap_mismatch hne n)

/-! ### EXTRACT and INSERT (R34 to R36) -/

theorem getLsbD_fieldMask {i : Nat} (hi : i < 32) (size : Nat) : (fieldMask size).getLsbD i = decide (i < size) := by
  rw [fieldMask, BitVec.getLsbD_ofNat, Nat.testBit_two_pow_sub_one, decide_eq_true hi, Bool.true_and]

theorem getLsbD_fieldOf {i : Nat} (hi : i < 32) (v : Word) (pos size : Nat) :
    (fieldOf v pos size).getLsbD i = (v.getLsbD (pos + i) && decide (i < size)) := by
  rw [fieldOf, BitVec.getLsbD_and, BitVec.getLsbD_ushiftRight, getLsbD_fieldMask hi]

/-- A bit of EXTRACT's result: of the field below its size, and above it a copy of its top bit when signed (R35). -/
theorem getLsbD_extractField {i : Nat} (hi : i < 32) (v : Word) (pos size : Nat) (signed : Bool) :
    (extractField v pos size signed).getLsbD i =
      if i < size then v.getLsbD (pos + i)
      else signed && decide (0 < size) && v.getLsbD (pos + size - 1) := by
  have htop : (size != 0) = decide (0 < size) := by cases size <;> rfl
  unfold extractField
  rw [htop]
  cases signed && decide (0 < size) && v.getLsbD (pos + size - 1) with
  | false =>
    rw [if_neg Bool.false_ne_true, getLsbD_fieldOf hi]
    by_cases hlt : i < size <;> simp [hlt]
  | true =>
    rw [if_pos rfl, BitVec.getLsbD_or, BitVec.getLsbD_not, getLsbD_fieldOf hi, getLsbD_fieldMask hi]
    by_cases hlt : i < size <;> simp [hi, hlt]

/-- A bit of INSERT's new value: of the operand within the field, of the value outside it (R36). -/
theorem getLsbD_insertField {i : Nat} (hi : i < 32) (v field : Word) (pos size : Nat) :
    (insertField v pos size field).getLsbD i =
      if pos ≤ i ∧ i < pos + size then field.getLsbD (i - pos) else v.getLsbD i := by
  have hsub : i - pos < 32 := by omega
  rw [insertField, BitVec.getLsbD_or, BitVec.getLsbD_and, BitVec.getLsbD_not, BitVec.getLsbD_shiftLeft,
    BitVec.getLsbD_shiftLeft, BitVec.getLsbD_and, getLsbD_fieldMask hsub, decide_eq_true hi]
  by_cases hpos : i < pos
  · simp [hpos]
  · have hsize : i - pos < size ↔ i < pos + size := by omega
    by_cases hlt : i < pos + size <;> simp [Nat.le_of_not_lt hpos, hpos, hlt, hsize]

/-- The operand does not fit the field exactly when it is 2 to the power of its size or above (R36). -/
theorem fieldTooWide_eq (field : Word) (size : Nat) :
    fieldTooWide field size = decide (2 ^ size ≤ field.toNat) := by
  have fits : field &&& ~~~ fieldMask size = 0#32 ↔ field.toNat < 2 ^ size := by
    constructor
    · intro hz
      refine Nat.lt_pow_two_of_testBit _ fun i hi => ?_
      by_cases hlt : i < 32
      · have hbit : (field &&& ~~~ fieldMask size).getLsbD i = (0#32).getLsbD i := by rw [hz]
        rw [BitVec.getLsbD_and, BitVec.getLsbD_not, getLsbD_fieldMask hlt, decide_eq_true hlt,
          decide_eq_false (Nat.not_lt.mpr hi)] at hbit
        have clear : field.getLsbD i = false := by simpa using hbit
        exact clear
      · exact BitVec.getLsbD_of_ge field i (Nat.le_of_not_lt hlt)
    · intro hlt
      refine BitVec.eq_of_getLsbD_eq fun i hi => ?_
      by_cases his : i < size
      · simp [getLsbD_fieldMask hi, his]
      · have : field.getLsbD i = false :=
          Nat.testBit_lt_two_pow (hlt.trans_le (Nat.pow_le_pow_right (by decide) (Nat.le_of_not_lt his)))
        simp [this]
  unfold fieldTooWide
  rw [Bool.eq_iff_iff, bne_iff_ne, ne_eq, fits, decide_eq_true_iff, Nat.not_lt]

/-- Settles O32: the word that the bits name is the field extracted, or the value with the field inserted. -/
theorem extractAndInsertFields : Obligations.ExtractAndInsertFields := by
  intro s q h g w r v x order pos size hu hp hg hpos hsum
  have hrange : bitFieldInRange pos size = true := by
    unfold bitFieldInRange
    simp only [Bool.and_eq_true, decide_eq_true_eq]
    omega
  refine ⟨fun signed hs hx => ?_, fun field hs hx => ?_⟩
  · obtain rfl : x = extractField v pos.toNat size.toNat signed :=
      BitVec.eq_of_getLsbD_eq fun i hi => (hx i hi).trans (getLsbD_extractField hi v _ _ signed).symm
    exact exec_cell_of_guardHolds (op := .extract pos size signed) hs hu hp hrange hg rfl
  · obtain rfl : x = insertField v pos.toNat size.toNat field :=
      BitVec.eq_of_getLsbD_eq fun i hi => (hx i hi).trans (getLsbD_insertField hi v field _ _).symm
    rw [← fieldTooWide_eq]
    exact exec_cell_of_guardHolds (op := .insert pos size field) hs hu hp hrange hg rfl

/-! ### A guard that does not hold, and SET_ORDER (R26, R39, R45, R47) -/

/-- Settles O34: with wait limit 0 the request is replied at once, otherwise it is placed. -/
theorem falseGuardRepliesOrWaits : Obligations.FalseGuardRepliesOrWaits := by
  intro s q h op g w r v order hs hu hp hr hg
  rw [State.inRange_cell] at hr
  have hjob := jobCell_reaches_guard (s := s.takeRequest q.port) (g := g) (w := w) hu hp hr
  rw [runCell_of_guardFails hg] at hjob
  refine ⟨fun hw => ?_, fun hw ht => ?_⟩
  · rw [if_pos hw] at hjob
    exact exec_replied_at_once (r := .cell h op g w) rfl hs hjob
  · have ho : s.object h.slot = some r := (State.object_of_resolve hu.1).1
    have agrees : ∀ i o, WaitList.object h.slot = .object i → (s.takeRequest q.port).object i = some o →
        o.check = .agrees := by
      rintro i o ⟨rfl⟩ hi
      obtain rfl : r = o := Option.some.inj (ho.symm.trans hi)
      exact hu.2.1
    have tag : (((s.takeRequest q.port).port q.port).tag q.tag).state = .pending q.gen := by
      rw [State.takeRequest_tag]
      exact ht
    rw [if_neg hw, State.place_eq_waiting agrees tag] at hjob
    have hstore : storeJob q (.cell h op g w) (s.takeRequest q.port) = _ := hjob
    rw [← hstore]
    exact exec_served_of_free_le (r := .cell h op g w) rfl hs (by rw [hstore]; exact Nat.le_refl _)

/-- Settles O35: the policy is written and replied, and the scan runs on the state after the reply. -/
theorem setOrderWritesPolicyAndScans : Obligations.SetOrderWritesPolicyAndScans := by
  intro s q h order old r v hs hu hp
  have hjob : storeJob q (.setOrder h order) (s.takeRequest q.port) =
      (((s.takeRequest q.port).holds h.slot { r with part := .cell v order }).replied q 0x21#8
        ⟨.ok, Flags.clear, .order order v⟩).scan h.slot := by
    show jobSetOrder q h order _ = _
    unfold jobSetOrder
    rw [State.withObject_usable (s := s.takeRequest q.port) hu (by rw [hp]; rfl) rfl, hp]
    dsimp only
    rw [State.written_replied (r := { r with part := .cell v order }) hs hu.2.1]
    rfl
  rw [← hjob]
  exact exec_served_of_free_le (r := .setOrder h order) rfl hs (by rw [hjob, State.scan_free]; exact Nat.le_refl _)

end Sys2Proof.Machine
end

section
/-! PROOFS. Scans of a cell's wait list: how one waiter is served, how a pass takes waiters off the list, and the passes
of a PASSING scan without their fuel (O37). -/

namespace Sys2Proof.Machine

/-! ### One waiter (R37, R49, R51) -/

/-- The state after a waiter of a cell is served: the value written, the record off its list, its deadline withdrawn,
and the reply with W set (R37, R49, R51). -/
theorem State.serveCellWaiter_eq {s : State} {i : SlotNo} {w : WaitRecord} (r : ObjectRecord) (v : Word) (order : Order)
    (op : CellOp) (hw : w.list = .object i) :
    s.serveCellWaiter i r v order w op =
      ((s.holds i { r with part := .cell (cellAct op v).after order, check := .agrees }).without w).complete w.sender
        .cellOp ⟨.ok, { (cellAct op v).flags with w := true }, .cell v (cellAct op v).result⟩ := by
  have agrees : ∀ j o, w.list = .object j →
      (s.writeRecord i { r with part := .cell (cellAct op v).after order }).object j = some o → o.check = .agrees := by
    intro j o hj ho
    obtain rfl : i = j := WaitList.object.inj (hw.symm.trans hj)
    rw [State.object_writeRecord, if_pos rfl] at ho
    rw [← Option.some.inj ho]
  unfold State.serveCellWaiter
  rw [State.removeWaiter_eq_without agrees]
  rfl

section
variable {s : State} {i : SlotNo} {r : ObjectRecord} {v : Word} {order : Order} {w : WaitRecord} {op : CellOp}
  {g : Guard}

theorem scanStrict_cons (ho : s.object i = some r) (hp : r.part = .cell v order) (hr : w.request = .cell op g)
    (ws : List WaitRecord) : scanStrict i (w :: ws) s =
      if guardHolds g v then scanStrict i ws (s.serveCellWaiter i r v order w op) else s := by
  rw [scanStrict]
  simp only [ho, hr, hp]

theorem scanPassRecord_cell (ho : s.object i = some r) (hp : r.part = .cell v order) (hr : w.request = .cell op g)
    (served : Bool) : scanPassRecord i (s, served) w =
      if guardHolds g v then (s.serveCellWaiter i r v order w op, true) else (s, served) := by
  unfold scanPassRecord
  simp only [ho, hr, hp]

end

/-- What a pass does with one record: it serves it against the value as it stands, or leaves all as it is. -/
theorem scanPassRecord_cases (i : SlotNo) (x : State × Bool) (w : WaitRecord) :
    scanPassRecord i x w = x ∨ ∃ r v order op, x.1.object i = some r ∧ r.part = .cell v order ∧
      scanPassRecord i x w = (x.1.serveCellWaiter i r v order w op, true) := by
  unfold scanPassRecord
  split
  · next r op g ho hr =>
    split
    · next v order hp =>
      split
      · exact .inr ⟨r, v, order, op, ho, hp, rfl⟩
      · exact .inl rfl
    · exact .inl rfl
  · exact .inl rfl

/-! ### A pass (R50) -/

/-- A slot holds a cell of an order policy. -/
def State.cellAt (s : State) (i : SlotNo) (order : Order) : Prop :=
  ∃ v, (s.object i).map ObjectRecord.part = some (.cell v order)

theorem State.cellAt_of {s : State} {i : SlotNo} {r : ObjectRecord} {v : Word} {order : Order}
    (ho : s.object i = some r) (hp : r.part = .cell v order) : s.cellAt i order :=
  ⟨v, by rw [ho, Option.map_some, hp]⟩

/-- A waiter served leaves a cell of the same policy. -/
theorem State.serveCellWaiter_cellAt (s : State) (i : SlotNo) (r : ObjectRecord) (v : Word) (order : Order)
    (w : WaitRecord) (op : CellOp) : (s.serveCellWaiter i r v order w op).cellAt i order := by
  refine ⟨(cellAct op v).after, ?_⟩
  unfold State.serveCellWaiter
  rw [State.complete_object, State.removeWaiter_part, State.object_writeRecord, if_pos rfl]
  rfl

theorem State.removeWaiter_waits (s : State) (w : WaitRecord) : (s.removeWaiter w).waits = s.waits.erase w := by
  unfold State.removeWaiter
  rw [State.withdraw_waits, State.listWritten_waits]

theorem State.serveCellWaiter_waits (s : State) (i : SlotNo) (r : ObjectRecord) (v : Word) (order : Order)
    (w : WaitRecord) (op : CellOp) : (s.serveCellWaiter i r v order w op).waits = s.waits.erase w := by
  unfold State.serveCellWaiter
  rw [State.complete_waits, State.removeWaiter_waits]
  rfl

theorem State.serveCellWaiter_waitList (s : State) (i : SlotNo) (r : ObjectRecord) (v : Word) (order : Order)
    (w : WaitRecord) (op : CellOp) (l : WaitList) :
    (s.serveCellWaiter i r v order w op).waitList l = (s.waitList l).erase w := by
  unfold State.waitList
  rw [State.serveCellWaiter_waits, List.erase_filter]

/-- A pass keeps the policy of its cell. -/
theorem scanPassRecord_cellAt {i : SlotNo} {order : Order} {x : State × Bool} (h : x.1.cellAt i order)
    (w : WaitRecord) : (scanPassRecord i x w).1.cellAt i order := by
  rcases scanPassRecord_cases i x w with hx | ⟨r, v, order', op, ho, hp, hx⟩
  · rw [hx]
    exact h
  · rw [hx]
    obtain ⟨v', h⟩ := h
    rw [ho, Option.map_some, hp] at h
    obtain ⟨rfl, rfl⟩ := KindPart.cell.inj (Option.some.inj h)
    exact State.serveCellWaiter_cellAt _ _ _ _ _ _ _

theorem scanPass_cellAt {s : State} {i : SlotNo} {order : Order} (h : s.cellAt i order) :
    (scanPass i s).1.cellAt i order :=
  List.foldlRecOn (motive := fun x : State × Bool => x.1.cellAt i order) _ (scanPassRecord i) h
    fun _ hx w _ => scanPassRecord_cellAt hx w

/-- A pass over waiters that stand on the list takes one off for each that it serves: the list does not grow, and is
shorter where the pass has served. -/
theorem scanPass_shortens (i : SlotNo) (n : Nat) (ws : List WaitRecord) (x : State × Bool)
    (hws : ws.Subperm (x.1.waitList (.object i))) (hx : (x.1.waitList (.object i)).length + x.2.toNat ≤ n) :
    ((ws.foldl (scanPassRecord i) x).1.waitList (.object i)).length + (ws.foldl (scanPassRecord i) x).2.toNat ≤ n := by
  induction ws generalizing x with
  | nil => exact hx
  | cons w ws ih =>
    rw [List.foldl_cons]
    rcases scanPassRecord_cases i x w with hw | ⟨r, v, order, op, -, -, hw⟩
    · rw [hw]
      exact ih x ((List.sublist_cons_self w ws).subperm.trans hws) hx
    · have hmem : w ∈ x.1.waitList (.object i) := hws.subset List.mem_cons_self
      have hlen := List.length_erase_of_mem hmem
      have hpos := List.length_pos_of_mem hmem
      rw [hw]
      refine ih _ ?_ ?_
      · rw [State.serveCellWaiter_waitList]
        simpa using hws.erase w
      · rw [State.serveCellWaiter_waitList, hlen, Bool.toNat_true]
        omega

/-- A pass that has served leaves a shorter list. -/
theorem scanPass_waitList_lt {s t : State} {i : SlotNo} (h : scanPass i s = (t, true)) :
    (t.waitList (.object i)).length < (s.waitList (.object i)).length := by
  have := scanPass_shortens i _ (s.waitList (.object i)) (s, false) (List.Subperm.refl _) (Nat.le_refl _)
  unfold scanPass at h
  rw [h] at this
  simpa using this

/-! ### The passes without their fuel (R50) -/

theorem scanPasses_succ {s t : State} {i : SlotNo} {served : Bool} (h : scanPass i s = (t, served)) (n : Nat) :
    scanPasses i (n + 1) s = if served then scanPasses i n t else t := by
  rw [scanPasses, h]
  cases served <;> rfl

/-- Passes beyond the length of the list change nothing more. -/
theorem scanPasses_fuel (i : SlotNo) (n m : Nat) (s : State) (hn : (s.waitList (.object i)).length < n)
    (hm : (s.waitList (.object i)).length < m) : scanPasses i n s = scanPasses i m s := by
  induction n generalizing m s with
  | zero => omega
  | succ n ih =>
    obtain ⟨m, rfl⟩ : ∃ k, m = k + 1 := ⟨m - 1, by omega⟩
    cases h : scanPass i s with
    | mk t served =>
      rw [scanPasses_succ h, scanPasses_succ h]
      cases served with
      | false => rfl
      | true =>
        have := scanPass_waitList_lt h
        exact ih m t (by omega) (by omega)

theorem State.scan_strict {s : State} {i : SlotNo} (h : s.cellAt i .strict) :
    s.scan i = scanStrict i (s.waitList (.object i)) s := by
  obtain ⟨v, h⟩ := h
  obtain ⟨r, ho, hp⟩ := Option.map_eq_some_iff.mp h
  unfold State.scan
  simp only [ho, hp]

theorem State.scan_passing {s : State} {i : SlotNo} (h : s.cellAt i .passing) :
    s.scan i = scanPasses i ((s.waitList (.object i)).length + 1) s := by
  obtain ⟨v, h⟩ := h
  obtain ⟨r, ho, hp⟩ := Option.map_eq_some_iff.mp h
  unfold State.scan
  simp only [ho, hp]

/-- A scan of a PASSING cell is a pass, and a scan of what the pass leaves where it has served (R50). -/
theorem State.scan_pass {s t : State} {i : SlotNo} {served : Bool} (h : s.cellAt i .passing)
    (hpass : scanPass i s = (t, served)) : s.scan i = if served then t.scan i else t := by
  rw [State.scan_passing h, scanPasses_succ hpass]
  cases served with
  | false => rfl
  | true =>
    have hcell : t.cellAt i .passing := by simpa only [hpass] using scanPass_cellAt h
    rw [State.scan_passing hcell]
    exact scanPasses_fuel i _ _ t (scanPass_waitList_lt hpass) (Nat.lt_succ_self _)

/-- Settles O37: the scan by policy, a PASSING scan pass by pass, and one waiter served or left. -/
theorem scanServesAWaiter : Obligations.ScanServesAWaiter := by
  refine ⟨fun s i r v ho => ⟨fun hp => State.scan_strict (State.cellAt_of ho hp),
    fun hp t served hpass => State.scan_pass (State.cellAt_of ho hp) hpass.symm⟩, fun _ _ => rfl, ?_⟩
  intro s i r v order w op g ws served ho hp hw hr
  rw [scanStrict_cons ho hp hr, scanPassRecord_cell ho hp hr, State.serveCellWaiter_eq r v order op hw]
  exact ⟨fun hg => by rw [if_pos hg, if_pos hg]; exact ⟨rfl, rfl⟩, fun hg => by simp [hg]⟩

end Sys2Proof.Machine
end

section
/-! PROOFS. The frame of the requests on cells and locks: each of their operations is confined to the object that the
request names, its wait list, the ports and the deadlines (O54). -/

namespace Sys2Proof.Machine

/-! ### The relation -/

/-- What a service of the object in one slot leaves of the part: nothing changes but ports, slots, waits, deadlines and
the search start; every other slot and every wait record of another list stays. -/
structure State.Confined (s : State) (i : SlotNo) (t : State) : Prop where
  rest : t = { s with
    ports := t.ports, slots := t.slots, waits := t.waits, deadlines := t.deadlines, searchStart := t.searchStart }
  slot : ∀ j, j ≠ i → t.slot j = s.slot j
  waits : ∀ w : WaitRecord, w.list ≠ .object i → (w ∈ t.waits ↔ w ∈ s.waits)

theorem State.Confined.refl (s : State) (i : SlotNo) : s.Confined i s := ⟨rfl, fun _ _ => rfl, fun _ _ => .rfl⟩

theorem State.Confined.trans {s t u : State} {i : SlotNo} (h : s.Confined i t) (h' : t.Confined i u) :
    s.Confined i u := by
  refine ⟨h'.rest.trans ?_, fun j hj => (h'.slot j hj).trans (h.slot j hj),
    fun w hw => (h'.waits w hw).trans (h.waits w hw)⟩
  exact congrArg
    (fun x : State => { x with
      ports := u.ports, slots := u.slots, waits := u.waits, deadlines := u.deadlines, searchStart := u.searchStart })
    h.rest

/-- What is read off the fields that stay. -/
theorem State.Confined.reads {s t : State} {i : SlotNo} {β : Type} (h : s.Confined i t) (f : State → β)
    (hf : f { s with
      ports := t.ports, slots := t.slots, waits := t.waits, deadlines := t.deadlines, searchStart := t.searchStart } =
        f s) : f t = f s := (congrArg f h.rest).trans hf

/-- What each step of a fold confines, the fold confines. -/
theorem State.Confined.foldl {α : Type} {f : State → α → State} {i : SlotNo} (l : List α) (s : State)
    (h : ∀ a ∈ l, ∀ s : State, s.Confined i (f s a)) : s.Confined i (l.foldl f s) :=
  List.foldlRecOn l f (motive := s.Confined i) (.refl s i) fun t ht a ha => ht.trans (h a ha t)

/-! ### The shared operations -/

theorem State.ReplacesPort.confined {s t : State} {p : Port} (h : s.ReplacesPort p t) (i : SlotNo) :
    s.Confined i t := by
  obtain ⟨x, rfl⟩ := h
  exact ⟨rfl, fun _ _ => rfl, fun _ _ => .rfl⟩

theorem State.complete_confined (s : State) (q : Sender) (code : RequestCode) (x : Answer) (i : SlotNo) :
    s.Confined i (s.complete q code x) := (s.complete_replacesPort q code x).confined i

theorem State.notifyWaiting_confined (s : State) (q : Sender) (i : SlotNo) : s.Confined i (s.notifyWaiting q) := by
  obtain ⟨y, h, -⟩ := s.notifyWaiting_port q
  exact State.ReplacesPort.confined ⟨y, h⟩ i

theorem State.takeRequest_confined (s : State) (p : Port) (i : SlotNo) : s.Confined i (s.takeRequest p) :=
  ⟨rfl, fun _ _ => rfl, fun _ _ => .rfl⟩

theorem State.writeRecord_confined (s : State) (i : SlotNo) (r : ObjectRecord) : s.Confined i (s.writeRecord i r) :=
  ⟨rfl, fun j hj => (s.slot_setSlot i j _).trans (if_neg (Ne.symm hj)), fun _ _ => .rfl⟩

/-- The record of the object written and a request replied. -/
theorem State.writeRecord_complete_confined (s : State) (i : SlotNo) (r : ObjectRecord) (q : Sender)
    (code : RequestCode) (x : Answer) : s.Confined i ((s.writeRecord i r).complete q code x) :=
  (s.writeRecord_confined i r).trans (State.complete_confined _ q code x i)

theorem State.rewriteRecord_confined (s : State) (i : SlotNo) : s.Confined i (s.rewriteRecord i) := by
  unfold State.rewriteRecord
  split
  · exact s.writeRecord_confined i _
  · exact .refl s i

theorem State.withdraw_confined (s : State) (w : WaitRecord) (i : SlotNo) : s.Confined i (s.withdraw w) := by
  unfold State.withdraw
  split
  · exact ⟨rfl, fun _ _ => rfl, fun _ _ => .rfl⟩
  · exact .refl s i

theorem State.addDeadline_confined (s : State) (q : Sender) (deadline : Option Word) (i : SlotNo) :
    s.Confined i (s.addDeadline q deadline) := by
  unfold State.addDeadline
  split
  · exact ⟨rfl, fun _ _ => rfl, fun _ _ => .rfl⟩
  · exact .refl s i

/-- A waiter of the object leaves its list. -/
theorem State.removeWaiter_confined {w : WaitRecord} {i : SlotNo} (hw : w.list = .object i) (s : State) :
    s.Confined i (s.removeWaiter w) := by
  have erased : s.Confined i { s with waits := s.waits.erase w } :=
    ⟨rfl, fun _ _ => rfl, fun v hv => List.mem_erase_of_ne fun h => hv (h ▸ hw)⟩
  unfold State.removeWaiter
  rw [hw]
  exact (erased.trans (State.rewriteRecord_confined _ i)).trans (State.withdraw_confined _ w i)

/-- A request is placed on the list of the object. -/
theorem State.place_confined (s : State) (q : Sender) (request : WaitRequest) (target : Handle) (wait : Half)
    (i : SlotNo) : s.Confined i (s.place q request target wait (.object i)) := by
  have placed : s.Confined i
      { s with waits := s.waits ++ [(⟨q, request, target, s.deadlineFor wait, .object i⟩ : WaitRecord)] } := by
    refine ⟨rfl, fun _ _ => rfl, fun v hv => ?_⟩
    rw [List.mem_append, List.mem_singleton]
    exact or_iff_left fun h => hv (h ▸ rfl)
  exact ((placed.trans (State.rewriteRecord_confined _ i)).trans (State.addDeadline_confined _ q _ i)).trans
    (State.notifyWaiting_confined _ q i)

theorem State.list_of_mem_waitList {s : State} {l : WaitList} {w : WaitRecord} (h : w ∈ s.waitList l) : w.list = l :=
  beq_iff_eq.mp (List.mem_filter.mp h).2

/-! ### Scans (R49, R50) -/

theorem State.serveCellWaiter_confined {w : WaitRecord} {i : SlotNo} (hw : w.list = .object i) (s : State)
    (r : ObjectRecord) (v : Word) (order : Order) (op : CellOp) :
    s.Confined i (s.serveCellWaiter i r v order w op) :=
  ((s.writeRecord_confined i _).trans (State.removeWaiter_confined hw _)).trans (State.complete_confined _ _ _ _ i)

theorem scanStrict_confined {i : SlotNo} (ws : List WaitRecord) (s : State) (hws : ∀ w ∈ ws, w.list = .object i) :
    s.Confined i (scanStrict i ws s) := by
  induction ws generalizing s with
  | nil => exact .refl s i
  | cons w ws ih =>
    obtain ⟨hw, hws⟩ := List.forall_mem_cons.mp hws
    unfold scanStrict
    split
    · split
      · split
        · exact (State.serveCellWaiter_confined hw s _ _ _ _).trans (ih _ hws)
        · exact .refl s i
      · exact .refl s i
    · exact .refl s i

theorem scanPassRecord_confined {i : SlotNo} {w : WaitRecord} (hw : w.list = .object i) (x : State × Bool) :
    x.1.Confined i (scanPassRecord i x w).1 := by
  rcases scanPassRecord_cases i x w with hx | ⟨r, v, order, op, -, -, hx⟩
  · rw [hx]
    exact .refl _ i
  · rw [hx]
    exact State.serveCellWaiter_confined hw _ _ _ _ _

theorem scanPass_confined (i : SlotNo) (s : State) : s.Confined i (scanPass i s).1 :=
  List.foldlRecOn (motive := fun x : State × Bool => s.Confined i x.1) _ (scanPassRecord i) (.refl s i)
    fun x hx _ hw => hx.trans (scanPassRecord_confined (State.list_of_mem_waitList hw) x)

theorem scanPasses_confined (i : SlotNo) (n : Nat) (s : State) : s.Confined i (scanPasses i n s) := by
  induction n generalizing s with
  | zero => exact .refl s i
  | succ n ih =>
    have pass := scanPass_confined i s
    rw [scanPasses_succ (t := (scanPass i s).1) (served := (scanPass i s).2) rfl]
    split
    · exact pass.trans (ih _)
    · exact pass

theorem State.scan_confined (s : State) (i : SlotNo) : s.Confined i (s.scan i) := by
  unfold State.scan
  split
  · split
    · exact scanStrict_confined _ s fun _ => State.list_of_mem_waitList
    · exact scanPasses_confined i _ s
    · exact .refl s i
  · exact .refl s i

/-! ### The hand-off of a lock (R97) -/

theorem serveReentry_confined {i : SlotNo} {w : WaitRecord} (hw : w.list = .object i) (s : State) :
    s.Confined i (serveReentry i s w) := by
  unfold serveReentry
  split
  · split
    · exact ((s.writeRecord_confined i _).trans (State.removeWaiter_confined hw _)).trans
        (State.complete_confined _ _ _ _ i)
    · exact .refl s i
  · exact .refl s i

theorem State.assignLock_confined {i : SlotNo} {w : WaitRecord} (hw : w.list = .object i) (s : State)
    (r : ObjectRecord) (damaged : Bool) : s.Confined i (s.assignLock i r damaged w) :=
  (s.writeRecord_confined i _).trans (State.removeWaiter_confined hw _)

theorem State.replyHandOff_confined (s : State) (i : SlotNo) (damaged : Bool) (w : WaitRecord) :
    s.Confined i (s.replyHandOff i damaged w) :=
  (s.complete_confined _ _ _ i).trans (.foldl _ _ fun _ hv =>
    serveReentry_confined (State.list_of_mem_waitList (List.mem_filter.mp hv).1))

/-! ### The requests at step 8 -/

theorem runCell_confined (q : Sender) (h : Handle) (op : CellOp) (guard : Guard) (wait : Half) (s : State)
    (r : ObjectRecord) (value : Word) (order : Order) :
    s.Confined h.slot (runCell q h op guard wait s r value order) := by
  unfold runCell
  split
  · split
    · exact s.writeRecord_complete_confined _ _ _ _ _
    · exact (s.writeRecord_complete_confined _ _ _ _ _).trans (State.scan_confined _ _)
  · split
    · exact s.complete_confined _ _ _ _
    · exact s.place_confined _ _ _ _ _

theorem runAcquire_confined (q : Sender) (h : Handle) (wait : Half) (s : State) (r : ObjectRecord)
    (holder : Option SessionId) (count : Nat) (damaged : Bool) :
    s.Confined h.slot (runAcquire q h wait s r holder count damaged) := by
  unfold runAcquire
  split
  · exact s.writeRecord_complete_confined _ _ _ _ _
  · split
    · split
      · exact s.writeRecord_complete_confined _ _ _ _ _
      · exact s.complete_confined _ _ _ _
    · split
      · exact s.complete_confined _ _ _ _
      · exact s.place_confined _ _ _ _ _

theorem releaseLast_confined (q : Sender) (h : Handle) (s : State) (r : ObjectRecord) (damaged : Bool) :
    s.Confined h.slot (releaseLast q h s r damaged) := by
  unfold releaseLast
  split
  · exact s.writeRecord_complete_confined _ _ _ _ _
  · next w hw =>
    have assigned := State.assignLock_confined (State.list_of_mem_waitList (List.mem_of_head? hw)) s r damaged
    exact (assigned.trans (State.complete_confined _ _ _ _ _)).trans (State.replyHandOff_confined _ _ _ _)

theorem runRelease_confined (q : Sender) (h : Handle) (s : State) (r : ObjectRecord) (holder : Option SessionId)
    (count : Nat) (damaged : Bool) : s.Confined h.slot (runRelease q h s r holder count damaged) := by
  unfold runRelease
  split
  · split
    · exact s.writeRecord_complete_confined _ _ _ _ _
    · exact releaseLast_confined q h s r damaged
  · exact s.complete_confined _ _ _ _

theorem runRestore_confined (q : Sender) (h : Handle) (s : State) (r : ObjectRecord) (holder : Option SessionId)
    (count : Nat) (damaged : Bool) : s.Confined h.slot (runRestore q h s r holder count damaged) := by
  unfold runRestore
  split
  · exact s.writeRecord_complete_confined _ _ _ _ _
  · exact s.complete_confined _ _ _ _

/-! ### The jobs -/

/-- A request on a record that does not fail its check is refused, or carried out (R9). -/
theorem State.withObject_confined {s : State} {h : Handle} {i : SlotNo} {run : ObjectRecord → State}
    (hc : ∀ o, s.resolve h = some o → o.check = .agrees ∨ o.quarantined = true) (hrun : ∀ r, s.Confined i (run r))
    (q : Sender) (code : RequestCode) (c : Checks) : s.Confined i (s.withObject q code h c run) := by
  have refused := fun status => s.complete_confined q code (.refuse status) i
  unfold State.withObject
  split
  · exact refused _
  · next r hr =>
    rw [if_neg (by rw [ObjectRecord.not_failsCheck (hc r hr)]; exact Bool.false_ne_true)]
    iterate 5
      split
      · exact refused _
    exact hrun r

/-- The job of a request on a cell or a lock is confined to the object named, and continues the state. -/
theorem storeJob_confined_continues {s : State} {r : Request} {h : Handle} (hr : onCellOrLock r = true)
    (hh : requestHandle r = some h)
    (hc : ∀ o, s.resolve h = some o → o.check = .agrees ∨ o.quarantined = true) (q : Sender) :
    s.Confined h.slot (storeJob q r s) ∧ s.Continues (storeJob q r s) := by
  cases r with
  | cell h' op guard wait =>
    cases hh
    refine ⟨State.withObject_confined hc (fun r => ?_) _ _ _, jobCell_continues q h op guard wait s⟩
    split
    · exact runCell_confined q h op guard wait s r _ _
    · exact .refl s _
  | setOrder h' order =>
    cases hh
    refine ⟨State.withObject_confined hc (fun r => ?_) _ _ _, jobSetOrder_continues q h order s⟩
    split
    · exact (s.writeRecord_complete_confined _ _ _ _ _).trans (State.scan_confined _ _)
    · exact .refl s _
  | acquire h' wait =>
    cases hh
    refine ⟨State.withObject_confined hc (fun r => ?_) _ _ _, jobAcquire_continues q h wait s⟩
    split
    · exact runAcquire_confined q h wait s r _ _ _
    · exact .refl s _
  | release h' =>
    cases hh
    refine ⟨State.withObject_confined hc (fun r => ?_) _ _ _, jobRelease_continues q h s⟩
    split
    · exact runRelease_confined q h s r _ _ _
    · exact .refl s _
  | restore h' =>
    cases hh
    refine ⟨State.withObject_confined hc (fun r => ?_) _ _ _, jobRestore_continues q h s⟩
    split
    · exact runRestore_confined q h s r _ _ _
    · exact .refl s _
  | _ => cases hr

/-! ### The commands -/

/-- A command of the store changes nothing, or it runs its job to its end (log 1). -/
theorem exec_requestCommand_cases {s t : State} {q : Sender} {r : Request} (hr : isStoreJob r = true)
    (he : exec (requestCommand q r) s = .next t) :
    t = s ∨ t = s.endsJob (storeJob q r (s.takeRequest q.port)) := by
  rw [exec_requestCommand hr] at he
  obtain ⟨u, hu, hcases⟩ := perform_next (requestJob q r (storeJob q r)) s
  obtain rfl : u = t := Host.Outcome.next.inj (hu.symm.trans he)
  rcases hcases with rfl | rfl
  · exact .inl rfl
  · by_cases hn : s.nextJob = some (.request q.port ⟨q.tag, q.gen, r⟩)
    · exact .inr (requestJob_taken _ hn)
    · exact .inl (requestJob_other _ hn)

/-- A port keeps its link, its session, its teardown job and its statistics. -/
def PortState.keepsLink (x y : PortState) : Prop :=
  y.rxd = x.rxd ∧ y.rx = x.rx ∧ y.tx = x.tx ∧ y.session = x.session ∧ y.teardown = x.teardown ∧ y.stats = x.stats

theorem PortState.Continues.keepsLink {x y : PortState} (h : x.Continues y) : x.keepsLink y :=
  ⟨h.rxd, h.rx, h.tx, h.session, h.teardown, h.stats⟩

theorem State.takeRequest_port_ne (s : State) {p p' : Port} (hp : p' ≠ p) : (s.takeRequest p).port p' = s.port p' :=
  s.port_setPort_ne _ (Ne.symm hp)

/-- What continues a port whose request was taken keeps that port's link. -/
theorem State.takeRequest_keepsLink {s : State} {p p' : Port} {y : PortState}
    (h : ((s.takeRequest p).port p').Continues y) : (s.port p').keepsLink y := by
  by_cases hp : p' = p
  · subst hp
    have taken : (s.takeRequest p').port p' = { s.port p' with requests := (s.port p').requests.tail } :=
      s.port_setPort_same p' _
    rw [taken] at h
    exact h.keepsLink
  · rw [s.takeRequest_port_ne hp] at h
    exact h.keepsLink

theorem State.Confined.sameOutside {s t : State} {i : SlotNo} (h : s.Confined i t)
    (hp : ∀ p, (s.port p).keepsLink (t.port p)) : s.sameOutside t :=
  ⟨h.reads State.resetn rfl, h.reads State.straps rfl, h.reads State.lineRate rfl,
    h.reads State.timebase rfl, h.reads State.expiry rfl, h.reads State.resetPending rfl,
    h.reads State.rights rfl, h.reads State.poolMark rfl, h.reads State.labelMap rfl, hp⟩

/-- Settles O54: the job of the request is confined to the object that it names, and ends without an alert, since it
leaves the free count. -/
theorem cellAndLockRequestsFrame : Obligations.CellAndLockRequestsFrame := by
  intro s t q r h hr hh hc he
  rcases exec_requestCommand_cases (isStoreJob_of_requestHandle hh) he with rfl | ht
  · exact ⟨(State.Confined.refl t h.slot).sameOutside fun p => (PortState.Continues.refl _).keepsLink,
      rfl, rfl, rfl, rfl, rfl, fun _ _ => rfl, rfl, fun _ _ => .rfl, fun _ _ => rfl⟩
  · obtain ⟨job, continues⟩ := storeJob_confined_continues (s := s.takeRequest q.port) hr hh hc q
    have confined := (s.takeRequest_confined q.port h.slot).trans job
    rw [State.endsJob_of_free_le (confined.reads State.free rfl).ge] at ht
    subst ht
    refine ⟨confined.sameOutside fun p => State.takeRequest_keepsLink (continues.port p),
      confined.reads State.queues rfl, confined.reads State.free rfl, confined.reads State.alerts rfl,
      confined.reads State.dropped rfl, confined.reads State.indications rfl, confined.slot,
      continues.stamp h.slot, confined.waits, fun p hp => ?_⟩
    rw [(continues.port p).requests, s.takeRequest_port_ne hp]

end Sys2Proof.Machine
end

section
/-! PROOFS. The law of wait records and tags port by port (O60): what carries the request of each tag, with the requests
that the running job has in hand, and how each operation of a port unit keeps it. -/

namespace Sys2Proof.Machine

/-! ### What carries the requests of a port -/

/-- The generations that a list of requests, by tag and generation, names for one tag. -/
def gensOf (l : List (Tag × Gen)) (t : Tag) : List Gen := (l.filter (fun x => x.1 == t)).map Prod.snd

@[simp] theorem gensOf_nil (t : Tag) : gensOf [] t = [] := rfl

@[simp] theorem gensOf_append (l m : List (Tag × Gen)) (t : Tag) : gensOf (l ++ m) t = gensOf l t ++ gensOf m t := by
  simp [gensOf]

@[simp] theorem gensOf_cons_same (t : Tag) (g : Gen) (l : List (Tag × Gen)) :
    gensOf ((t, g) :: l) t = g :: gensOf l t := by
  simp [gensOf]

theorem gensOf_cons_ne {t t' : Tag} (h : t ≠ t') (g : Gen) (l : List (Tag × Gen)) :
    gensOf ((t, g) :: l) t' = gensOf l t' := by
  simp [gensOf, h]

theorem gensOf_perm {l m : List (Tag × Gen)} (h : l.Perm m) (t : Tag) : (gensOf l t).Perm (gensOf m t) :=
  (h.filter _).map _

theorem gensOf_eq_nil_of_sublist {l m : List (Tag × Gen)} (h : l.Sublist m) {t : Tag} (hm : gensOf m t = []) :
    gensOf l t = [] :=
  List.sublist_nil.mp (hm ▸ (h.filter _).map _)

/-- The tag and generation of a request on the pending list. -/
def PendingRequest.key (r : PendingRequest) : Tag × Gen := (r.tag, r.gen)

/-- The requests that a teardown job carries: the CLOSE itself and those taken off the pending list. -/
def TeardownJob.asked (j : TeardownJob) : List (Tag × Gen) := j.closing.toList ++ j.taken.map PendingRequest.key

/-- The requests of a port that the store has not taken, on its pending list or in its teardown job. -/
def PortState.asked (x : PortState) : List (Tag × Gen) :=
  x.requests.map PendingRequest.key ++ (x.teardown.map TeardownJob.asked).getD []

/-- The tag and generation of a tag frame. -/
def TxFrame.key? (f : TxFrame) : Option (Tag × Gen) := f.tag.map fun t => (t, f.reply.gen)

/-- The requests whose replies stand in the transmit queue. -/
def PortState.sent (x : PortState) : List (Tag × Gen) := x.queue.filterMap TxFrame.key?

theorem gensOf_requests (t : Tag) (rs : List PendingRequest) :
    gensOf (rs.map PendingRequest.key) t = (rs.filter (fun r => r.tag == t)).map PendingRequest.gen := by
  unfold gensOf
  rw [List.filter_map, List.map_map]
  rfl

theorem gensOf_frames (t : Tag) (fs : List TxFrame) :
    gensOf (fs.filterMap TxFrame.key?) t = (fs.filter (fun f => f.tag == some t)).map fun f => f.reply.gen := by
  induction fs with
  | nil => rfl
  | cons f fs ih =>
    cases hf : f.tag with
    | none => simp [TxFrame.key?, hf, ih]
    | some t' =>
      by_cases ht : t' = t
      · subst ht
        simp [TxFrame.key?, hf, ih]
      · simp [TxFrame.key?, hf, ih, gensOf_cons_ne ht, ht]

/-- A tag's state says what carries its request, given the generations that each kind of carrier names for the tag: wait
records, requests not yet taken, frames, and requests in the hand of the running job. -/
def TagState.carried (st : TagState) (waits asked sent hand : List Gen) : Prop :=
  match st with
  | .idle => waits = [] ∧ asked = [] ∧ sent = [] ∧ hand = []
  | .pending g => waits = [] ∧ asked ++ hand = [g] ∧ sent = []
  | .waiting g => waits ++ hand = [g] ∧ asked = [] ∧ sent = []
  | .replying g => waits = [] ∧ asked = [] ∧ sent = [g] ∧ hand = []

section
variable {st : TagState} {g : Gen} {waits asked sent hand : List Gen}

/-- A request in hand is the only one of its tag. -/
theorem TagState.carried_in_hand (h : st.carried waits asked sent (g :: hand)) :
    (st = .pending g ∨ st = .waiting g) ∧ waits = [] ∧ asked = [] ∧ sent = [] ∧ hand = [] := by
  cases st with
  | idle => simp [TagState.carried] at h
  | replying _ => simp [TagState.carried] at h
  | pending g' =>
    obtain ⟨hw, ha, hs⟩ := h
    obtain ⟨rfl, hg⟩ | ⟨-, hg⟩ := List.append_eq_singleton_iff.mp ha
    · obtain ⟨rfl, rfl⟩ := List.cons.inj hg
      exact ⟨.inl rfl, hw, rfl, hs, rfl⟩
    · cases hg
  | waiting g' =>
    obtain ⟨hw, ha, hs⟩ := h
    obtain ⟨rfl, hg⟩ | ⟨-, hg⟩ := List.append_eq_singleton_iff.mp hw
    · obtain ⟨rfl, rfl⟩ := List.cons.inj hg
      exact ⟨.inr rfl, rfl, ha, hs, rfl⟩
    · cases hg

/-- A wait record is the only carrier of its tag. -/
theorem TagState.carried_waiting (h : st.carried (g :: waits) asked sent hand) :
    st = .waiting g ∧ waits = [] ∧ asked = [] ∧ sent = [] ∧ hand = [] := by
  cases st with
  | idle => simp [TagState.carried] at h
  | replying _ => simp [TagState.carried] at h
  | pending _ => simp [TagState.carried] at h
  | waiting g' =>
    obtain ⟨hw, ha, hs⟩ := h
    simp only [List.cons_append, List.cons.injEq, List.append_eq_nil_iff] at hw
    obtain ⟨rfl, rfl, rfl⟩ := hw
    exact ⟨rfl, rfl, ha, hs, rfl⟩

/-- A request not yet taken is the only carrier of its tag. -/
theorem TagState.carried_asked (h : st.carried waits (g :: asked) sent hand) :
    st = .pending g ∧ waits = [] ∧ asked = [] ∧ sent = [] ∧ hand = [] := by
  cases st with
  | idle => simp [TagState.carried] at h
  | replying _ => simp [TagState.carried] at h
  | waiting _ => simp [TagState.carried] at h
  | pending g' =>
    obtain ⟨hw, ha, hs⟩ := h
    simp only [List.cons_append, List.cons.injEq, List.append_eq_nil_iff] at ha
    obtain ⟨rfl, rfl, rfl⟩ := ha
    exact ⟨rfl, hw, rfl, hs, rfl⟩

/-- A frame is the only carrier of its tag. -/
theorem TagState.carried_sent (h : st.carried waits asked (g :: sent) hand) :
    st = .replying g ∧ waits = [] ∧ asked = [] ∧ sent = [] ∧ hand = [] := by
  cases st with
  | idle => simp [TagState.carried] at h
  | pending _ => simp [TagState.carried] at h
  | waiting _ => simp [TagState.carried] at h
  | replying g' =>
    obtain ⟨hw, ha, hs, hh⟩ := h
    obtain ⟨rfl, rfl⟩ := List.cons.inj hs
    exact ⟨rfl, hw, ha, rfl, hh⟩

/-- The order within each kind of carrier says nothing. -/
theorem TagState.carried_perm {waits' asked' hand' : List Gen} (hw : waits.Perm waits') (ha : asked.Perm asked')
    (hh : hand.Perm hand') (h : st.carried waits asked sent hand) : st.carried waits' asked' sent hand' := by
  cases st with
  | idle =>
    obtain ⟨rfl, rfl, hs, rfl⟩ := h
    exact ⟨hw.nil_eq.symm, ha.nil_eq.symm, hs, hh.nil_eq.symm⟩
  | pending g =>
    obtain ⟨rfl, hg, hs⟩ := h
    exact ⟨hw.nil_eq.symm, List.perm_singleton.mp (hg ▸ ha.symm.append hh.symm), hs⟩
  | waiting g =>
    obtain ⟨hg, rfl, hs⟩ := h
    exact ⟨List.perm_singleton.mp (hg ▸ hw.symm.append hh.symm), ha.nil_eq.symm, hs⟩
  | replying g =>
    obtain ⟨rfl, rfl, hs, rfl⟩ := h
    exact ⟨hw.nil_eq.symm, ha.nil_eq.symm, hs, hh.nil_eq.symm⟩

/-- A request is taken in hand. -/
theorem TagState.carried_take {taken : List Gen} (h : st.carried waits (taken ++ asked) sent hand) :
    st.carried waits asked sent (taken ++ hand) := by
  cases st with
  | idle =>
    obtain ⟨hw, ha, hs, rfl⟩ := h
    obtain ⟨rfl, rfl⟩ := List.append_eq_nil_iff.mp ha
    exact ⟨hw, rfl, hs, rfl⟩
  | pending g =>
    obtain ⟨hw, ha, hs⟩ := h
    refine ⟨hw, List.perm_singleton.mp (ha ▸ ?_), hs⟩
    rw [← List.append_assoc]
    exact List.perm_append_comm.append_right hand
  | waiting g =>
    obtain ⟨hw, ha, hs⟩ := h
    obtain ⟨rfl, rfl⟩ := List.append_eq_nil_iff.mp ha
    exact ⟨hw, rfl, hs⟩
  | replying g =>
    obtain ⟨hw, ha, hs, rfl⟩ := h
    obtain ⟨rfl, rfl⟩ := List.append_eq_nil_iff.mp ha
    exact ⟨hw, rfl, hs, rfl⟩

end

/-! ### The law of one port -/

/-- Where the teardown job of a port stands: not running, clearing the port's wait records away, or past that. -/
inductive Phase where
  | idle
  | clearing
  | cleared

/-- The law of wait records and tags for one port while a job runs, given the requests of the port's wait records and
those in the hand of the job. -/
structure PortState.Sound (x : PortState) (waits hand : List (Tag × Gen)) (phase : Phase) : Prop where
  law : x.portLaw
  carried : ∀ t, (x.tag t).state.carried (gensOf waits t) (gensOf x.asked t) (gensOf x.sent t) (gensOf hand t)
  job : ∀ j, x.teardown = some j → j.number = x.session.number ∧ j.cause = x.session.cause ∧
    (j.closing.isSome = true ↔ j.cause = .closed) ∧ (j.closing = none → j.taken = [])
  ended : x.session.state = .closing → x.session.cause ≠ .closed →
    ∀ k, (x.tag k).state = .idle ∨ ∃ g, (x.tag k).state = .waiting g
  parted : x.session.state ≠ .opened → x.teardown = none → phase ≠ .clearing → waits = []
  answered : (∃ f ∈ x.queue, f.purpose = .closeReply) → waits = [] ∧ hand = [] ∧ phase = .idle
  last : x.queue.Pairwise fun f y => f.purpose = .closeReply → y.tag = none

namespace PortState.Sound

variable {x y : PortState} {waits hand waits' hand' : List (Tag × Gen)} {phase : Phase} {t : Tag} {g : Gen}

/-- The law reads the session, the tags, the pending list, the transmit queue and the teardown job alone. -/
theorem of_same (h : x.Sound waits hand phase) (hs : y.session = x.session) (ht : y.tags = x.tags)
    (hr : y.requests = x.requests) (hq : y.queue = x.queue) (hj : y.teardown = x.teardown) :
    y.Sound waits hand phase := by
  obtain ⟨rxd, rx, tx, session, tags, requests, queue, teardown, stats⟩ := x
  obtain ⟨rxd', rx', tx', session', tags', requests', queue', teardown', stats'⟩ := y
  dsimp only at hs ht hr hq hj
  subst hs ht hr hq hj
  exact ⟨h.law, h.carried, h.job, h.ended, h.parted, h.answered, h.last⟩

theorem perm (h : x.Sound waits hand phase) (hw : waits.Perm waits') (hh : hand.Perm hand') :
    x.Sound waits' hand' phase where
  law := h.law
  carried t := TagState.carried_perm (gensOf_perm hw t) (.refl _) (gensOf_perm hh t) (h.carried t)
  job := h.job
  ended := h.ended
  parted hs hj hb := (h.parted hs hj hb ▸ hw).nil_eq.symm
  answered hf :=
    have ⟨waits, hand, idle⟩ := h.answered hf
    ⟨(waits ▸ hw).nil_eq.symm, (hand ▸ hh).nil_eq.symm, idle⟩
  last := h.last

/-- A request in hand is the only one of its tag, which is PENDING or WAITING. -/
theorem in_hand (h : x.Sound waits ((t, g) :: hand) phase) :
    ((x.tag t).state = .pending g ∨ (x.tag t).state = .waiting g) ∧ gensOf waits t = [] ∧ gensOf x.asked t = [] ∧
      gensOf x.sent t = [] ∧ gensOf hand t = [] :=
  TagState.carried_in_hand (by simpa using h.carried t)

/-- A port with a request in hand has not sent the CLOSE reply. -/
theorem no_closeReply (h : x.Sound waits ((t, g) :: hand) phase) : ∀ f ∈ x.queue, f.purpose ≠ .closeReply :=
  fun f hf hp => List.cons_ne_nil _ _ (h.answered ⟨f, hf, hp⟩).2.1

/-- A port with a request in hand is not CLOSED. -/
theorem not_closed (h : x.Sound waits ((t, g) :: hand) phase) : x.session.state ≠ .closed := by
  intro hc
  obtain ⟨-, -, -, closed, -⟩ := h.law
  have hst := h.in_hand.1
  rw [closed hc t] at hst
  rcases hst with hst | hst <;> cases hst

end PortState.Sound

/-! ### The law of one port kept by its parts -/

namespace PortState.portLaw

variable {x : PortState}

theorem setTag (h : x.portLaw) (hs : x.session.state ≠ .closed) (t : Tag) (e : TagEntry) : (x.setTag t e).portLaw := by
  obtain ⟨timer, requests, job, -, number, untracked, replies, reply⟩ := h
  exact ⟨timer, requests, job, fun hc => absurd hc hs, number, untracked, replies, reply⟩

/-- A frame joins the transmit queue: an untracked one while there are fewer than four, the CLOSE reply alone (R118,
R144). -/
theorem enqueue (h : x.portLaw) {f : TxFrame} (hu : f.tag = none → x.untracked < 4)
    (hp : f.purpose = .closeReply →
      x.session.state = .closing ∧ x.teardown = none ∧ ∀ f ∈ x.queue, f.purpose ≠ .closeReply) :
    PortState.portLaw { x with queue := x.queue ++ [f] } := by
  obtain ⟨timer, requests, job, closed, number, untracked, replies, reply⟩ := h
  refine ⟨timer, requests, job, closed, number, ?_, ?_, ?_⟩
  · rw [List.filter_append, List.length_append]
    cases ht : f.tag with
    | none =>
      have : (x.queue.filter (fun f => f.tag.isNone)).length < 4 := hu ht
      simpa [ht] using this
    | some t => simpa [ht] using untracked
  · rw [List.filter_append, List.length_append]
    by_cases hf : f.purpose = .closeReply
    · have none : x.queue.filter (fun f => f.purpose == .closeReply) = [] :=
        List.filter_eq_nil_iff.mpr fun y hy => by simpa using (hp hf).2.2 y hy
      simp [none, hf]
    · simpa [hf] using replies
  · rintro ⟨y, hy, hf⟩
    rcases List.mem_append.mp hy with hy | hy
    · exact reply ⟨y, hy, hf⟩
    · rw [List.mem_singleton.mp hy] at hf
      exact ⟨(hp hf).1, (hp hf).2.1⟩

/-- The frame at the head leaves the transmit queue (R119). -/
theorem dequeue (h : x.portLaw) {f : TxFrame} {rest : List TxFrame} (hq : x.queue = f :: rest) :
    PortState.portLaw { x with queue := rest } := by
  obtain ⟨timer, requests, job, closed, number, untracked, replies, reply⟩ := h
  have sub : rest.Sublist x.queue := hq ▸ List.sublist_cons_self f rest
  exact ⟨timer, requests, job, closed, number, (sub.filter _).length_le.trans untracked,
    (sub.filter _).length_le.trans replies, fun ⟨y, hy, hf⟩ => reply ⟨y, sub.subset hy, hf⟩⟩

end PortState.portLaw

theorem PortState.sent_append (x : PortState) (f : TxFrame) :
    PortState.sent { x with queue := x.queue ++ [f] } = x.sent ++ f.key?.toList := by
  unfold PortState.sent
  rw [List.filterMap_append]
  cases hk : f.key? <;> simp [hk]

namespace PortState.Sound

variable {x y : PortState} {waits hand waits' hand' : List (Tag × Gen)} {phase : Phase} {t : Tag} {g : Gen}

/-! ### The operations of a port -/

/-- A reply joins the transmit queue and its tag becomes REPLYING; the CLOSE reply comes last of all (R116, R144). -/
theorem replying {r : Reply} (h : x.Sound waits ((t, r.gen) :: hand) phase) {purpose : Purpose}
    (hs : x.session.state = .closing → x.session.cause = .closed)
    (hp : purpose = .closeReply →
      x.session.state = .closing ∧ x.teardown = none ∧ waits = [] ∧ hand = [] ∧ phase = .idle)
    (cache : Option Reply) :
    PortState.Sound { x.setTag t ⟨.replying r.gen, cache⟩ with queue := x.queue ++ [⟨some t, r, purpose⟩] }
      waits hand phase where
  law := (h.law.setTag h.not_closed t _).enqueue nofun fun hf => ⟨(hp hf).1, (hp hf).2.1, h.no_closeReply⟩
  carried t' := by
    obtain ⟨-, hw, ha, hsent, hh⟩ := h.in_hand
    have sent : PortState.sent { x.setTag t ⟨.replying r.gen, cache⟩ with
        queue := x.queue ++ [⟨some t, r, purpose⟩] } = x.sent ++ [(t, r.gen)] := PortState.sent_append x _
    rw [sent, gensOf_append]
    show ((x.setTag t _).tag t').state.carried _ (gensOf x.asked t') _ _
    rw [PortState.tag_setTag]
    by_cases htt : t = t'
    · subst htt
      rw [if_pos rfl, hsent, gensOf_cons_same]
      exact ⟨hw, ha, rfl, hh⟩
    · have hc := h.carried t'
      rw [gensOf_cons_ne htt] at hc
      rw [if_neg htt, gensOf_cons_ne htt, gensOf_nil, List.append_nil]
      exact hc
  job := h.job
  ended hc hcause := absurd (hs hc) hcause
  parted := h.parted
  answered := by
    rintro ⟨f, hf, hc⟩
    rcases List.mem_append.mp hf with hf | hf
    · exact absurd hc (h.no_closeReply f hf)
    · rw [List.mem_singleton.mp hf] at hc
      exact (hp hc).2.2
  last := List.pairwise_append.mpr ⟨h.last, List.pairwise_singleton _ _, fun f hf _ _ hc =>
    absurd hc (h.no_closeReply f hf)⟩

/-- A change of one tag's state alone, its request being in hand. -/
theorem retag (h : x.Sound waits ((t, g) :: hand) phase) {e : TagEntry}
    (hc : e.state.carried (gensOf waits' t) (gensOf x.asked t) (gensOf x.sent t) (gensOf hand' t))
    (hw : ∀ t', t ≠ t' → gensOf waits' t' = gensOf waits t') (hh : ∀ t', t ≠ t' → gensOf hand' t' = gensOf hand t')
    (hended : x.session.state = .closing → x.session.cause ≠ .closed →
      e.state = .idle ∨ ∃ g, e.state = .waiting g)
    (hparted : x.session.state ≠ .opened → x.teardown = none → phase ≠ .clearing → waits' = []) :
    (x.setTag t e).Sound waits' hand' phase where
  law := h.law.setTag h.not_closed t e
  carried t' := by
    show ((x.setTag t e).tag t').state.carried _ (gensOf x.asked t') (gensOf x.sent t') _
    rw [PortState.tag_setTag]
    by_cases htt : t = t'
    · subst htt
      rw [if_pos rfl]
      exact hc
    · have hold := h.carried t'
      rw [gensOf_cons_ne htt] at hold
      rw [if_neg htt, hw t' htt, hh t' htt]
      exact hold
  job := h.job
  ended hs hcause k := by
    rw [PortState.tag_setTag]
    split
    · exact hended hs hcause
    · exact h.ended hs hcause k
  parted := hparted
  answered := fun ⟨f, hf, hp⟩ => absurd hp (h.no_closeReply f hf)
  last := h.last

/-- The reply to a port that ends by lapse, break or forced close is lost and the tag becomes IDLE (R137). -/
theorem dropped (h : x.Sound waits ((t, g) :: hand) phase) : (x.setTagState t .idle).Sound waits hand phase :=
  have ⟨_, hw, ha, hs, hh⟩ := h.in_hand
  h.retag ⟨hw, ha, hs, hh⟩ (fun _ _ => rfl) (fun _ _ => rfl) (fun _ _ => .inl rfl) h.parted

/-- A request placed as a waiter of a port that is OPEN: its tag becomes WAITING (R47, R117). -/
theorem placed (h : x.Sound waits ((t, g) :: hand) phase) (ho : x.session.state = .opened) :
    (x.setTagState t (.waiting g)).Sound (waits ++ [(t, g)]) hand phase := by
  obtain ⟨-, hw, ha, hs, hh⟩ := h.in_hand
  refine h.retag ⟨?_, ha, hs⟩ (fun t' htt => ?_) (fun _ _ => rfl) (fun hc => ?_) (fun hn => absurd ho hn)
  · simp [hw, hh]
  · simp [gensOf_cons_ne htt]
  · rw [ho] at hc
    cases hc

/-- A waiter leaves its list: its request is in hand. -/
theorem unlisted (h : x.Sound ((t, g) :: waits) hand phase) : x.Sound waits ((t, g) :: hand) phase where
  law := h.law
  carried t' := by
    have hc := h.carried t'
    by_cases htt : t = t'
    · subst htt
      rw [gensOf_cons_same] at hc ⊢
      obtain ⟨hst, hw, ha, hs, hh⟩ := TagState.carried_waiting hc
      rw [hst, hw, ha, hs, hh]
      exact ⟨rfl, rfl, rfl⟩
    · rw [gensOf_cons_ne htt] at hc ⊢
      exact hc
  job := h.job
  ended := h.ended
  parted hs hj hb := absurd (h.parted hs hj hb) (List.cons_ne_nil _ _)
  answered hf := absurd (h.answered hf).1 (List.cons_ne_nil _ _)
  last := h.last

/-- A tag that is IDLE becomes PENDING with a request in hand, its session being OPEN (R111). -/
theorem pended (h : x.Sound waits hand phase) (ho : x.session.state = .opened) (ht : (x.tag t).state = .idle) :
    (x.setTagState t (.pending g)).Sound waits ((t, g) :: hand) phase := by
  have open_ne : x.session.state ≠ .closing := by simp [ho]
  obtain ⟨hw, ha, hs, hh⟩ : (TagState.idle).carried _ _ _ _ := ht ▸ h.carried t
  obtain ⟨-, -, -, -, -, -, -, reply⟩ := h.law
  refine ⟨h.law.setTag (by simp [ho]) t _, fun t' => ?_, h.job, fun hc => absurd hc open_ne,
    fun hn => absurd ho hn, fun hf => absurd (reply hf).1 open_ne, h.last⟩
  show ((x.setTagState t _).tag t').state.carried _ (gensOf x.asked t') (gensOf x.sent t') _
  unfold PortState.setTagState
  rw [PortState.tag_setTag]
  by_cases htt : t = t'
  · subst htt
    rw [if_pos rfl, gensOf_cons_same, hw, ha, hs, hh]
    exact ⟨rfl, rfl, rfl⟩
  · rw [if_neg htt, gensOf_cons_ne htt]
    exact h.carried t'

/-- Requests that are PENDING are taken in hand, off the pending list or with the teardown job (R1). -/
theorem taken (h : x.Sound waits hand phase) {keys : List (Tag × Gen)} {phase' : Phase} (hl : y.portLaw)
    (hs : y.session = x.session) (ht : y.tags = x.tags) (hq : y.queue = x.queue)
    (ha : x.asked.Perm (keys ++ y.asked)) (hj : y.teardown = x.teardown ∨ y.teardown = none)
    (hparted : y.session.state ≠ .opened → y.teardown = none → phase' ≠ .clearing → waits = [])
    (hn : ∀ f ∈ x.queue, f.purpose ≠ .closeReply) : y.Sound waits (keys ++ hand) phase' := by
  have tag : ∀ t, y.tag t = x.tag t := fun t => by unfold PortState.tag; rw [ht]
  have sent : y.sent = x.sent := by unfold PortState.sent; rw [hq]
  refine ⟨hl, fun t => ?_, fun j hjy => ?_, fun hc hcause k => ?_, hparted, fun ⟨f, hf, hp⟩ => ?_, hq ▸ h.last⟩
  · rw [tag, sent, gensOf_append]
    refine TagState.carried_take ?_
    rw [← gensOf_append]
    exact TagState.carried_perm (.refl _) (gensOf_perm ha t) (.refl _) (h.carried t)
  · rcases hj with hj | hj
    · rw [hs]
      exact h.job j (hj ▸ hjy)
    · rw [hj] at hjy
      cases hjy
  · rw [tag]
    rw [hs] at hc hcause
    exact h.ended hc hcause k
  · exact absurd hp (hn f (hq ▸ hf))

/-- The head of the pending list is taken as a job (R1). -/
theorem requestTaken (h : x.Sound waits hand phase) {r : PendingRequest} {rest : List PendingRequest}
    (hr : x.requests = r :: rest) : PortState.Sound { x with requests := rest } waits (r.key :: hand) phase := by
  obtain ⟨timer, requests, job, closed, number, untracked, replies, reply⟩ := h.law
  have ho : x.session.state = .opened := by
    by_contra hs
    rw [requests hs] at hr
    cases hr
  refine h.taken (keys := [r.key]) ⟨timer, fun hs => absurd ho hs, job, closed, number, untracked, replies, reply⟩
    rfl rfl rfl ?_ (.inl rfl) (fun hs => absurd ho hs) fun f hf hp => ?_
  · unfold PortState.asked
    rw [hr]
    exact .refl _
  · have := (reply ⟨f, hf, hp⟩).1
    rw [ho] at this
    cases this

/-- The teardown job is taken, with the requests that it carries (R1, R138). -/
theorem teardownTaken (h : x.Sound waits hand phase) {j : TeardownJob} (hj : x.teardown = some j) :
    PortState.Sound { x with teardown := none } waits (j.asked ++ hand) .clearing := by
  obtain ⟨timer, requests, job, closed, number, untracked, replies, reply⟩ := h.law
  have hn : ∀ f ∈ x.queue, f.purpose ≠ .closeReply := fun f hf hp => by
    have := (reply ⟨f, hf, hp⟩).2
    rw [hj] at this
    cases this
  refine h.taken ⟨timer, requests, nofun, closed, number, untracked, replies, fun ⟨f, hf, hp⟩ => absurd hp (hn f hf)⟩
    rfl rfl rfl ?_ (.inr rfl) (fun _ _ hb => absurd rfl hb) hn
  unfold PortState.asked
  rw [hj]
  simpa using List.perm_append_comm

/-- A request in hand that is PENDING joins the requests that the store has not taken, and the port's session is OPEN or
ends by CLOSE (R115, R134). -/
theorem asking (h : x.Sound waits ((t, g) :: hand) phase) (hp : (x.tag t).state = .pending g) (hl : y.portLaw)
    (ht : y.tags = x.tags) (hq : y.queue = x.queue) (ha : y.asked.Perm ((t, g) :: x.asked))
    (hj : ∀ j, y.teardown = some j → j.number = y.session.number ∧ j.cause = y.session.cause ∧
      (j.closing.isSome = true ↔ j.cause = .closed) ∧ (j.closing = none → j.taken = []))
    (hc : y.session.state = .closing → y.session.cause = .closed)
    (ho : y.session.state ≠ .opened → y.teardown ≠ none) : y.Sound waits hand phase := by
  have tag : ∀ t, y.tag t = x.tag t := fun t => by unfold PortState.tag; rw [ht]
  have sent : y.sent = x.sent := by unfold PortState.sent; rw [hq]
  refine ⟨hl, fun t' => ?_, hj, fun hs hcause => absurd (hc hs) hcause, fun hs hn => absurd hn (ho hs),
    fun ⟨f, hf, hf'⟩ => absurd hf' (h.no_closeReply f (hq ▸ hf)), hq ▸ h.last⟩
  rw [tag, sent]
  refine TagState.carried_perm (.refl _) (gensOf_perm ha.symm t') (.refl _) ?_
  by_cases htt : t = t'
  · subst htt
    obtain ⟨-, hw, hasked, hs, hh⟩ := h.in_hand
    rw [gensOf_cons_same, hp, hw, hasked, hs, hh]
    exact ⟨rfl, rfl, rfl⟩
  · have hold := h.carried t'
    rw [gensOf_cons_ne htt] at hold ⊢
    exact hold

/-- An accepted request joins the tail of the pending list (R115). -/
theorem appended (h : x.Sound waits ((t, g) :: hand) phase) (ho : x.session.state = .opened)
    (hp : (x.tag t).state = .pending g) (r : Request) :
    PortState.Sound { x with requests := x.requests ++ [⟨t, g, r⟩] } waits hand phase := by
  obtain ⟨timer, requests, job, closed, number, untracked, replies, reply⟩ := h.law
  refine h.asking hp ⟨timer, fun hs => absurd ho hs, job, closed, number, untracked, replies, reply⟩ rfl rfl ?_ h.job
    (fun hs => ?_) (fun hs => absurd ho hs)
  · unfold PortState.asked
    rw [List.map_append, List.append_assoc]
    exact List.perm_middle
  · rw [show x.session.state = .closing from hs] at ho
    cases ho

/-- An accepted CLOSE ends the session: it and the pending requests are the teardown job's (R134). -/
theorem closing (h : x.Sound waits ((t, g) :: hand) phase) (ho : x.session.state = .opened)
    (hp : (x.tag t).state = .pending g) : (x.endByClose t g).Sound waits hand phase := by
  obtain ⟨timer, requests, job, closed, number, untracked, replies, reply⟩ := h.law
  have idle : x.teardown = none := by
    by_contra hn
    rw [job hn] at ho
    cases ho
  refine h.asking hp ⟨nofun, fun _ => rfl, fun _ => rfl, nofun, fun _ => number (by simp [ho]), untracked, replies,
    fun ⟨f, hf, hf'⟩ => absurd hf' (h.no_closeReply f hf)⟩ rfl rfl ?_ ?_ (fun _ => rfl) (fun _ => nofun)
  · unfold PortState.asked
    rw [idle]
    simp [PortState.endByClose, TeardownJob.asked]
  · rintro j ⟨rfl⟩
    exact ⟨rfl, rfl, iff_of_true rfl rfl, nofun⟩

/-- An untracked frame joins the transmit queue or is dropped (R118). -/
theorem untracked (h : x.Sound waits hand phase) (r : Reply) (isRefusal : Bool) :
    (x.sendUntracked r isRefusal).Sound waits hand phase := by
  unfold PortState.sendUntracked
  split
  · next hu =>
    have joined : PortState.Sound { x with queue := x.queue ++ [⟨none, r, .plain⟩] } waits hand phase := by
      refine ⟨h.law.enqueue (fun _ => hu) nofun, fun t => ?_, h.job, h.ended, h.parted, fun ⟨f, hf, hp⟩ => ?_,
        List.pairwise_append.mpr ⟨h.last, List.pairwise_singleton _ _, fun f _ y hy _ => ?_⟩⟩
      · have hc := h.carried t
        rw [PortState.sent_append, show (⟨none, r, .plain⟩ : TxFrame).key? = none from rfl, Option.toList_none,
          List.append_nil]
        exact hc
      · rcases List.mem_append.mp hf with hf | hf
        · exact h.answered ⟨f, hf, hp⟩
        · rw [List.mem_singleton.mp hf] at hp
          cases hp
      · rw [List.mem_singleton.mp hy]
    cases isRefusal with
    | true => exact joined.of_same rfl rfl rfl rfl rfl
    | false => exact joined
  · exact h.of_same rfl rfl rfl rfl rfl

/-- The silence timer of an OPEN session restarted (R131). -/
theorem timer (h : x.Sound waits hand phase) (ho : x.session.state = .opened) {timer : Timer}
    (ht : timer ≠ .stopped → x.session.silence ≠ 0#16) :
    PortState.Sound { x with session := { x.session with timer := timer } } waits hand phase := by
  obtain ⟨-, requests, job, closed, number, untracked, replies, reply⟩ := h.law
  exact ⟨⟨fun hn => ⟨ho, ht hn⟩, requests, job, closed, number, untracked, replies, reply⟩, h.carried, h.job, h.ended,
    h.parted, h.answered, h.last⟩

/-- The tag of the frame at the head of the queue carries it alone (R118). -/
theorem head_tag (h : x.Sound waits hand phase) {f : TxFrame} {rest : List TxFrame} (hq : x.queue = f :: rest)
    (ht : f.tag = some t) : gensOf waits t = [] ∧ gensOf x.asked t = [] ∧
      gensOf (rest.filterMap TxFrame.key?) t = [] ∧ gensOf hand t = [] := by
  have hc := h.carried t
  unfold PortState.sent at hc
  rw [hq, List.filterMap_cons_some (show f.key? = some (t, f.reply.gen) by simp [TxFrame.key?, ht]),
    gensOf_cons_same] at hc
  exact (TagState.carried_sent hc).2

/-- The frame at the head of the queue has gone and its tag, if any, is IDLE (R119). -/
theorem gone (h : x.Sound waits hand phase) {f : TxFrame} {rest : List TxFrame} (hq : x.queue = f :: rest) :
    (x.frameGone f rest).Sound waits hand phase := by
  have mem : ∀ y ∈ rest, y ∈ x.queue := fun y hy => hq ▸ List.mem_cons_of_mem f hy
  have last := hq ▸ h.last
  unfold PortState.frameGone
  cases ht : f.tag with
  | none =>
    refine ⟨h.law.dequeue hq, fun t => ?_, h.job, h.ended, h.parted, fun ⟨y, hy, hp⟩ => h.answered ⟨y, mem y hy, hp⟩,
      (List.pairwise_cons.mp last).2⟩
    have hc := h.carried t
    unfold PortState.sent at hc ⊢
    rw [hq, List.filterMap_cons_none (show f.key? = none by simp [TxFrame.key?, ht])] at hc
    exact hc
  | some t =>
    obtain ⟨hw, ha, hs, hh⟩ := h.head_tag hq ht
    refine ⟨?_, fun t' => ?_, h.job, fun hs hc k => ?_, h.parted, fun ⟨y, hy, hp⟩ => h.answered ⟨y, mem y hy, hp⟩,
      (List.pairwise_cons.mp last).2⟩
    · obtain ⟨timer, requests, job, closed, number, untracked, replies, reply⟩ := h.law.dequeue hq
      refine ⟨timer, requests, job, fun hs k => ?_, number, untracked, replies, reply⟩
      show (x.setTag t _).tag k = _
      have idle := closed hs
      rw [PortState.tag_setTag]
      split
      · exact congrArg (TagEntry.mk .idle) (congrArg TagEntry.cache (idle t))
      · exact idle k
    · show ((x.setTag t _).tag t').state.carried _ (gensOf x.asked t') _ _
      rw [PortState.tag_setTag]
      by_cases htt : t = t'
      · subst htt
        rw [if_pos rfl]
        exact ⟨hw, ha, hs, hh⟩
      · have hc := h.carried t'
        unfold PortState.sent at hc
        rw [hq, List.filterMap_cons_some (show f.key? = some (t, f.reply.gen) by simp [TxFrame.key?, ht]),
          gensOf_cons_ne htt] at hc
        rw [if_neg htt]
        exact hc
    · show ((x.setTag t ⟨.idle, _⟩).tag k).state = _ ∨ ∃ g, ((x.setTag t ⟨.idle, _⟩).tag k).state = .waiting g
      rw [PortState.tag_setTag]
      split
      · exact .inl rfl
      · exact h.ended hs hc k

end PortState.Sound

/-! ### The ends of a session -/

/-- A tag after a reset of its table (R106). -/
theorem PortState.becomeClosed_tag (x : PortState) (t : Tag) : x.becomeClosed.tag t = TagEntry.reset := by
  show (Vector.replicate 4 TagEntry.reset)[t.val] = _
  rw [Vector.getElem_replicate]

namespace PortState.Sound

variable {x y : PortState} {waits hand waits' hand' : List (Tag × Gen)} {phase : Phase} {t : Tag} {g : Gen}

/-- The tag table of a CLOSING port is emptied and the session CLOSED, nothing of the port being carried any more
(R144). -/
theorem becomeClosed (hl : x.portLaw) (hs : x.session.state = .closing) (hj : x.teardown = none)
    (hq : ∀ f ∈ x.queue, f.tag = none ∧ f.purpose ≠ .closeReply) : x.becomeClosed.Sound [] [] .idle := by
  obtain ⟨timer, requests, job, closed, number, untracked, replies, reply⟩ := hl
  have stopped : x.session.timer = .stopped := by
    by_contra hn
    have := (timer hn).1
    rw [hs] at this
    cases this
  have none_asked : x.requests = [] := requests (by simp [hs])
  refine ⟨⟨fun hn => absurd stopped hn, fun _ => none_asked, fun hn => absurd hj hn, fun _ => x.becomeClosed_tag,
    fun hn => absurd rfl hn, untracked, replies, fun ⟨f, hf, hp⟩ => absurd hp (hq f hf).2⟩, fun t => ?_, fun j h => ?_,
    nofun, fun _ _ _ => rfl, fun _ => ⟨rfl, rfl, rfl⟩, List.Pairwise.imp_of_mem ?_ (List.pairwise_of_forall fun _ _ => trivial)⟩
  · have sent : x.becomeClosed.sent = [] :=
      List.filterMap_eq_nil_iff.mpr fun f hf => by simp [TxFrame.key?, (hq f hf).1]
    have asked : x.becomeClosed.asked = [] := by
      show x.requests.map _ ++ (x.teardown.map _).getD [] = []
      rw [none_asked, hj]
      rfl
    rw [x.becomeClosed_tag, sent, asked]
    exact ⟨rfl, rfl, rfl, rfl⟩
  · rw [show x.teardown = some j from h] at hj
    cases hj
  · intro f y _ hy _ _
    exact (hq y hy).1

/-- A session OPEN until now ends by lapse, break or forced close (R132, R135, R136). -/
theorem endAbruptly (h : x.Sound waits [] phase) (ho : x.session.state = .opened) {cause : EndCause}
    (hc : cause ≠ .closed) : (x.endAbruptly cause).Sound waits [] phase := by
  obtain ⟨timer, requests, job, closed, number, untracked, replies, reply⟩ := h.law
  have no_reply : ∀ f ∈ x.begun.map (fun f => { f with tag := none }), f.purpose ≠ .closeReply := by
    intro f hf hp
    obtain ⟨f', hf', rfl⟩ := List.mem_map.mp hf
    have mem : f' ∈ x.queue := by
      unfold PortState.begun at hf'
      split at hf'
      · exact List.mem_of_mem_take hf'
      · cases hf'
    have := (reply ⟨f', mem, hp⟩).1
    rw [ho] at this
    cases this
  have short : (x.begun.map fun f => { f with tag := none }).length ≤ 1 := by
    rw [List.length_map]
    unfold PortState.begun
    split
    · exact List.length_take_le _ _
    · exact Nat.zero_le _
  have tag : ∀ t, (x.endAbruptly cause).tag t = (x.tag t).atAbruptEnd := fun t => mapVector_get _ _ _
  refine ⟨⟨nofun, fun _ => rfl, fun _ => rfl, nofun, fun _ => number (by simp [ho]),
    (List.length_filter_le _ _).trans (short.trans (by decide)), (List.length_filter_le _ _).trans short,
    fun ⟨f, hf, hp⟩ => absurd hp (no_reply f hf)⟩, fun t => ?_, ?_, fun _ _ t => ?_, fun _ => nofun,
    fun ⟨f, hf, hp⟩ => absurd hp (no_reply f hf), ?_⟩
  · have sent : (x.endAbruptly cause).sent = [] := List.filterMap_eq_nil_iff.mpr fun f hf => by
      obtain ⟨f', -, rfl⟩ := List.mem_map.mp hf
      rfl
    have hold := h.carried t
    rw [tag, sent]
    unfold TagEntry.atAbruptEnd
    cases hst : (x.tag t).state with
    | waiting g =>
      rw [hst] at hold ⊢
      exact ⟨hold.1, rfl, rfl⟩
    | idle | pending _ | replying _ =>
      rw [hst] at hold
      exact ⟨hold.1, rfl, rfl, rfl⟩
  · rintro j ⟨rfl⟩
    exact ⟨rfl, rfl, iff_of_false nofun hc, fun _ => rfl⟩
  · rw [tag]
    unfold TagEntry.atAbruptEnd
    cases hst : (x.tag t).state with
    | waiting g => exact .inr ⟨g, hst⟩
    | idle | pending _ | replying _ => exact .inl rfl
  · exact List.Pairwise.imp_of_mem (fun hf _ _ hp => absurd hp (no_reply _ hf))
      (List.pairwise_of_forall fun _ _ => trivial)

/-- A CLOSED session is opened (R129). -/
theorem opening (h : x.Sound waits hand phase) (hc : x.session.state = .closed) {session : Session}
    (ho : session.state = .opened) (hn : session.number ≠ 0#16)
    (ht : session.timer ≠ .stopped → session.silence ≠ 0#16) :
    PortState.Sound { x with session := session } waits hand phase := by
  obtain ⟨timer, requests, job, closed, number, untracked, replies, reply⟩ := h.law
  have idle : x.teardown = none := by
    by_contra hj
    rw [job hj] at hc
    cases hc
  have no_reply : ∀ f ∈ x.queue, f.purpose ≠ .closeReply := fun f hf hp => by
    rw [(reply ⟨f, hf, hp⟩).1] at hc
    cases hc
  refine ⟨⟨fun hr => ⟨ho, ht hr⟩, fun hs => absurd ho hs, fun hj => absurd idle hj, fun hs => ?_, fun _ => hn,
    untracked, replies, fun ⟨f, hf, hp⟩ => absurd hp (no_reply f hf)⟩, h.carried, fun j hj => ?_, fun hs => ?_,
    fun hs => absurd ho hs, h.answered, h.last⟩
  · rw [show session.state = .closed from hs] at ho
    cases ho
  · rw [show x.teardown = some j from hj] at idle
    cases idle
  · rw [show session.state = .closing from hs] at ho
    cases ho

/-- While a session ends by lapse, break or forced close no tag frame of its port stands in the queue (R132). -/
theorem untagged (h : x.Sound waits hand phase) (hs : x.session.state = .closing) (hc : x.session.cause ≠ .closed) :
    ∀ f ∈ x.queue, f.tag = none := by
  intro f hf
  cases ht : f.tag with
  | none => rfl
  | some t =>
    have mem : f.reply.gen ∈ gensOf x.sent t := by
      unfold PortState.sent
      rw [gensOf_frames]
      exact List.mem_map.mpr ⟨f, List.mem_filter.mpr ⟨hf, by simp [ht]⟩, rfl⟩
    have carried := h.carried t
    rcases h.ended hs hc t with hst | ⟨g, hst⟩ <;> rw [hst] at carried
    · obtain ⟨-, -, hsent, -⟩ := carried
      rw [hsent] at mem
      cases mem
    · obtain ⟨-, -, hsent⟩ := carried
      rw [hsent] at mem
      cases mem

/-- The teardown job has cleared the port's wait records away (R139). -/
theorem drained (h : x.Sound waits hand .clearing) (hw : waits = []) : x.Sound waits hand .cleared :=
  ⟨h.law, h.carried, h.job, h.ended, fun _ _ _ => hw, fun hf => absurd (h.answered hf).2.2 nofun, h.last⟩

/-- The teardown job of the port is at its end. -/
theorem settled (h : x.Sound waits hand .cleared) : x.Sound waits hand .idle :=
  ⟨h.law, h.carried, h.job, h.ended, fun hs hj _ => h.parted hs hj nofun, fun hf => absurd (h.answered hf).2.2 nofun,
    h.last⟩

theorem reset (level : Level) : (PortState.reset level).Sound [] [] .idle := by
  have tag : ∀ t, (PortState.reset level).tag t = ⟨.idle, none⟩ := fun t => by
    show (Vector.replicate 4 TagEntry.reset)[t.val] = _
    rw [Vector.getElem_replicate]
    rfl
  refine ⟨⟨fun hn => absurd rfl hn, fun _ => rfl, fun hn => absurd rfl hn, fun _ => tag, fun hn => absurd rfl hn,
    Nat.zero_le _, Nat.zero_le _, fun ⟨_, hf, _⟩ => absurd hf List.not_mem_nil⟩, fun t => ?_, nofun, nofun,
    fun _ _ _ => rfl, fun _ => ⟨rfl, rfl, rfl⟩, List.Pairwise.nil⟩
  rw [tag]
  exact ⟨rfl, rfl, rfl, rfl⟩

end PortState.Sound

end Sys2Proof.Machine
end

section
/-! PROOFS. The law of wait records and tags of the part (O60): what each operation that the jobs share does to the wait
records and to the requests in hand. -/

namespace Sys2Proof.Machine

/-! ### The law of the part while a job runs -/

/-- The tag and generation of a sender. -/
def senderKey (q : Sender) : Tag × Gen := (q.tag, q.gen)

/-- The requests of one port among those of a list of senders. -/
def keysAt (p : Port) (qs : List Sender) : List (Tag × Gen) := (qs.filter (fun q => q.port == p)).map senderKey

@[simp] theorem keysAt_nil (p : Port) : keysAt p [] = [] := rfl

@[simp] theorem keysAt_append (p : Port) (l m : List Sender) : keysAt p (l ++ m) = keysAt p l ++ keysAt p m := by
  simp [keysAt]

@[simp] theorem keysAt_cons_same (q : Sender) (l : List Sender) : keysAt q.port (q :: l) = senderKey q :: keysAt q.port l := by
  simp [keysAt]

theorem keysAt_cons_ne {q : Sender} {p : Port} (h : q.port ≠ p) (l : List Sender) : keysAt p (q :: l) = keysAt p l := by
  simp [keysAt, h]

theorem keysAt_eq_nil {p : Port} {qs : List Sender} (h : ∀ q ∈ qs, q.port ≠ p) : keysAt p qs = [] := by
  simpa [keysAt, List.filter_eq_nil_iff] using h

theorem keysAt_perm {l m : List Sender} (h : l.Perm m) (p : Port) : (keysAt p l).Perm (keysAt p m) :=
  (h.filter _).map _

/-- The senders of the wait records, in order. -/
def State.waiters (s : State) : List Sender := s.waits.map WaitRecord.sender

/-- No teardown job is running. -/
def quiet : Port → Phase := fun _ => .idle

/-- The teardown job of one port is running. -/
def teardownAt (p : Port) (phase : Phase) : Port → Phase := fun p' => if p' = p then phase else .idle

/-- The law of wait records and tags while a job runs, some requests being in its hand. -/
structure State.Sound (s : State) (hand : List Sender) (phase : Port → Phase) : Prop where
  port : ∀ p, (s.port p).Sound (keysAt p s.waiters) (keysAt p hand) (phase p)
  list : s.listLaw

/-- The generations that the wait records of a port name for a tag. -/
theorem gensOf_keysAt (p : Port) (t : Tag) (ws : List WaitRecord) :
    gensOf (keysAt p (ws.map WaitRecord.sender)) t =
      (ws.filter (fun w => w.sender.port == p && w.sender.tag == t)).map fun w => w.sender.gen := by
  induction ws with
  | nil => rfl
  | cons w ws ih =>
    rw [List.map_cons, List.filter_cons]
    by_cases hp : w.sender.port = p
    · subst hp
      rw [keysAt_cons_same]
      by_cases ht : w.sender.tag = t
      · subst ht
        simp [senderKey, ih]
      · simp [senderKey, gensOf_cons_ne ht, ht, ih]
    · rw [keysAt_cons_ne hp, ih]
      simp [hp]

/-- The law of one tag in the words of the statement. -/
theorem State.carried_iff (s : State) (p : Port) (t : Tag) (st : TagState) :
    st.carried (gensOf (keysAt p s.waiters) t) (gensOf (s.port p).asked t) (gensOf (s.port p).sent t) [] ↔
      match st with
      | .idle => s.carriers p t = ⟨[], [], [], []⟩
      | .pending g => (∃ r, r.gen = g ∧ s.carriers p t = ⟨[], [r], [], []⟩) ∨ s.carriers p t = ⟨[], [], [(t, g)], []⟩
      | .waiting g => ∃ w, w.sender.gen = g ∧ s.carriers p t = ⟨[w], [], [], []⟩
      | .replying g => ∃ f, f.reply.gen = g ∧ s.carriers p t = ⟨[], [], [], [f]⟩ := by
  have waits : gensOf (keysAt p s.waiters) t = (s.carriers p t).waits.map fun w => w.sender.gen :=
    gensOf_keysAt p t s.waits
  have asked : gensOf (s.port p).asked t =
      (s.carriers p t).requests.map PendingRequest.gen ++ (s.carriers p t).taken.map Prod.snd := by
    unfold PortState.asked
    rw [gensOf_append, gensOf_requests]
    unfold State.carriers gensOf
    cases (s.port p).teardown <;> rfl
  have sent : gensOf (s.port p).sent t = (s.carriers p t).frames.map fun f => f.reply.gen :=
    gensOf_frames t (s.port p).queue
  have tags : ∀ x ∈ (s.carriers p t).taken, x.1 = t := fun x hx => beq_iff_eq.mp (List.mem_filter.mp hx).2
  rw [waits, asked, sent]
  generalize s.carriers p t = c at tags ⊢
  obtain ⟨ws, rs, ks, fs⟩ := c
  dsimp only at tags
  cases st with
  | idle => simp [TagState.carried, and_assoc]
  | waiting g =>
    constructor
    · rintro ⟨hw, ha, hs⟩
      rw [List.append_nil] at hw
      obtain ⟨w, rfl, hg⟩ := List.map_eq_singleton_iff.mp hw
      simp at ha hs
      exact ⟨w, hg, by simp [ha, hs]⟩
    · rintro ⟨w, hg, hc⟩
      cases hc
      simp [TagState.carried, hg]
  | replying g =>
    constructor
    · rintro ⟨hw, ha, hs, -⟩
      obtain ⟨f, rfl, hg⟩ := List.map_eq_singleton_iff.mp hs
      simp at hw ha
      exact ⟨f, hg, by simp [hw, ha]⟩
    · rintro ⟨f, hg, hc⟩
      cases hc
      simp [TagState.carried, hg]
  | pending g =>
    constructor
    · rintro ⟨hw, ha, hs⟩
      rw [List.append_nil] at ha
      simp only [List.map_eq_nil_iff] at hw hs
      subst hw hs
      obtain ⟨hr, hk⟩ | ⟨hr, hk⟩ := List.append_eq_singleton_iff.mp ha
      · obtain ⟨x, rfl, hg⟩ := List.map_eq_singleton_iff.mp hk
        have hx : x.1 = t := tags x (by simp)
        obtain rfl : rs = [] := List.map_eq_nil_iff.mp hr
        exact .inr (by rw [← hx, ← hg])
      · obtain ⟨r, rfl, hg⟩ := List.map_eq_singleton_iff.mp hr
        obtain rfl : ks = [] := List.map_eq_nil_iff.mp hk
        exact .inl ⟨r, hg, rfl⟩
    · rintro (⟨r, hg, hc⟩ | hc) <;> cases hc
      · simp [TagState.carried, hg]
      · simp [TagState.carried]

/-- No tag frame stands behind the CLOSE reply, in the words of the statement. -/
theorem pairwise_last_iff (q : List TxFrame) : (q.Pairwise fun f y => f.purpose = .closeReply → y.tag = none) ↔
    ∀ before f after, q = before ++ f :: after → f.purpose = .closeReply → ∀ x ∈ after, x.tag = none := by
  constructor
  · rintro h before f after rfl hf x hx
    exact (List.pairwise_cons.mp (List.pairwise_append.mp h).2.1).1 x hx hf
  · intro h
    induction q with
    | nil => exact .nil
    | cons f q ih =>
      exact .cons (fun x hx hf => h [] f q rfl hf x hx) (ih fun before f' after hq => h (f :: before) f' after (by simp [hq]))

/-- Where no job runs this is the law of the statement. -/
theorem State.waitLaw_iff_sound (s : State) : s.waitLaw ↔ s.Sound [] quiet := by
  have none_waits : ∀ p, keysAt p s.waiters = [] ↔ ∀ w ∈ s.waits, w.sender.port ≠ p := fun p => by
    simp [keysAt, State.waiters, List.filter_eq_nil_iff]
  constructor
  · rintro ⟨tags, ending, list, law⟩
    refine ⟨fun p => ?_, list⟩
    obtain ⟨job, ended, parted, behind⟩ := ending p
    obtain ⟨-, -, -, -, -, -, -, reply⟩ := law p
    exact ⟨law p, fun t => (s.carried_iff p t _).mpr (tags p t), job, ended,
      fun ho hj _ => (none_waits p).mpr (parted ho hj),
      fun hf => ⟨(none_waits p).mpr (parted (by simp [(reply hf).1]) (reply hf).2), rfl, rfl⟩, (pairwise_last_iff _).mpr behind⟩
  · rintro ⟨port, list⟩
    exact ⟨fun p t => (s.carried_iff p t _).mp ((port p).carried t),
      fun p => ⟨(port p).job, (port p).ended, fun ho hj => (none_waits p).mp ((port p).parted ho hj nofun),
        (pairwise_last_iff _).mp (port p).last⟩, list, fun p => (port p).law⟩

/-- A waiter notice to a tag whose request is placed: it is WAITING then (R117). -/
theorem State.notifyWaiting_eq {s : State} {q : Sender}
    (h : ((s.port q.port).tag q.tag).state = .pending q.gen ∨ ((s.port q.port).tag q.tag).state = .waiting q.gen) :
    s.notifyWaiting q = s.setPort q.port ((s.port q.port).setTagState q.tag (.waiting q.gen)) := by
  unfold State.notifyWaiting
  rcases h with h | h
  · rw [h]
  · have same : (s.port q.port).setTagState q.tag (.waiting q.gen) = s.port q.port := by
      unfold PortState.setTagState PortState.setTag
      rw [← h]
      exact congrArg (fun v => { s.port q.port with tags := v }) (vector_set_get _ q.tag)
    rw [h, same, State.setPort_port]

namespace State.Sound

variable {s t : State} {hand hand' : List Sender} {phase : Port → Phase}

/-- The law reads the ports and the wait records alone. -/
theorem of_same (h : s.Sound hand phase) (hp : t.ports = s.ports) (hw : t.waits = s.waits) : t.Sound hand phase := by
  have port : ∀ p, t.port p = s.port p := fun p => by unfold State.port; rw [hp]
  refine ⟨fun p => ?_, ?_⟩
  · unfold State.waiters
    rw [port, hw]
    exact h.port p
  · unfold State.listLaw
    rw [hw]
    exact h.list

theorem perm (h : s.Sound hand phase) (hh : hand.Perm hand') : s.Sound hand' phase :=
  ⟨fun p => (h.port p).perm (.refl _) (keysAt_perm hh p), h.list⟩

/-- One port changes and, of the requests in hand, those of that port. -/
theorem setPort (h : s.Sound hand phase) {p : Port} {x : PortState}
    (hx : x.Sound (keysAt p s.waiters) (keysAt p hand') (phase p))
    (hh : ∀ p', p ≠ p' → keysAt p' hand' = keysAt p' hand) : (s.setPort p x).Sound hand' phase := by
  refine ⟨fun p' => ?_, h.list⟩
  rw [State.port_setPort]
  split
  · next hp =>
    subst hp
    exact hx
  · next hp =>
    rw [hh p' hp]
    exact h.port p'

/-- The port of a request in hand, that request first. -/
theorem hand_port {q : Sender} (h : s.Sound (q :: hand) phase) :
    (s.port q.port).Sound (keysAt q.port s.waiters) ((q.tag, q.gen) :: keysAt q.port hand) (phase q.port) := by
  have := h.port q.port
  rwa [keysAt_cons_same] at this

/-- A completion takes its request out of the hand of the job (R116, R137). -/
theorem completeFor {q : Sender} (h : s.Sound (q :: hand) phase) {purpose : Purpose}
    (hp : purpose = .closeReply → (s.port q.port).session.state = .closing ∧ (s.port q.port).teardown = none ∧
      keysAt q.port s.waiters = [] ∧ keysAt q.port hand = [] ∧ phase q.port = .idle) (code : Byte) (x : Answer) :
    (s.completeFor purpose q code x).Sound hand phase := by
  have hq := h.hand_port
  have rest : ∀ p', q.port ≠ p' → keysAt p' hand = keysAt p' (q :: hand) := fun p' hne => (keysAt_cons_ne hne _).symm
  have replied : ((s.port q.port).session.state = .closing → (s.port q.port).session.cause = .closed) →
      (s.setPort q.port ((s.port q.port).sendTagFrame q.tag (s.replyTo q code x) purpose)).Sound hand phase :=
    fun hs => h.setPort (hq.replying (r := s.replyTo q code x) hs hp _) rest
  unfold State.completeFor
  split
  · next ho => exact replied fun hc => by rw [ho] at hc; cases hc
  · split
    · next hc => exact replied fun _ => hc
    · exact h.setPort hq.dropped rest
  · next hc => exact absurd hc hq.not_closed

theorem complete {q : Sender} (h : s.Sound (q :: hand) phase) (code : RequestCode) (x : Answer) :
    (s.complete q code x).Sound hand phase := h.completeFor (purpose := .plain) nofun code.byte x

/-- A wait record leaves the list: its request is in hand. -/
theorem unlisted {w : WaitRecord} (h : s.Sound hand phase) (hw : w ∈ s.waits) (hp : t.ports = s.ports)
    (ht : t.waits = s.waits.erase w) : t.Sound (w.sender :: hand) phase := by
  have port : ∀ p, t.port p = s.port p := fun p => by unfold State.port; rw [hp]
  have waiters : s.waiters.Perm (w.sender :: t.waiters) := by
    unfold State.waiters
    rw [ht]
    exact (List.perm_cons_erase hw).map WaitRecord.sender
  refine ⟨fun p => ?_, fun v hv => h.list v (List.mem_of_mem_erase (ht ▸ hv))⟩
  have old := (h.port p).perm (keysAt_perm waiters p) (.refl _)
  rw [port]
  by_cases hne : w.sender.port = p
  · subst hne
    rw [keysAt_cons_same] at old ⊢
    exact old.unlisted
  · rw [keysAt_cons_ne hne] at old ⊢
    exact old

/-- A wait record moves to another list of its own (R48). -/
theorem relisted {w : WaitRecord} (h : s.Sound hand phase) (hw : w ∈ s.waits) {l : WaitList}
    (hl : l = .object w.target.slot ∨ l = .pool) (hp : t.ports = s.ports)
    (ht : t.waits = s.waits.erase w ++ [{ w with list := l }]) : t.Sound hand phase := by
  have port : ∀ p, t.port p = s.port p := fun p => by unfold State.port; rw [hp]
  have waiters : s.waiters.Perm t.waiters := by
    unfold State.waiters
    rw [ht, List.map_append]
    exact ((List.perm_cons_erase hw).map WaitRecord.sender).trans (List.perm_append_singleton _ _).symm
  refine ⟨fun p => ?_, fun v hv => ?_⟩
  · rw [port]
    exact (h.port p).perm (keysAt_perm waiters p) (.refl _)
  · rw [ht, List.mem_append, List.mem_singleton] at hv
    rcases hv with hv | rfl
    · exact h.list v (List.mem_of_mem_erase hv)
    · exact hl

theorem removeWaiter {w : WaitRecord} (h : s.Sound hand phase) (hw : w ∈ s.waits) :
    (s.removeWaiter w).Sound (w.sender :: hand) phase :=
  h.unlisted hw (State.removeWaiter_ports _ _) (State.removeWaiter_waits _ _)

/-- A wait record joins the list for a request in hand, its port's session being OPEN (R47). -/
theorem listed {w : WaitRecord} (h : s.Sound (w.sender :: hand) phase)
    (ho : (s.port w.sender.port).session.state = .opened) (hl : w.list = .object w.target.slot ∨ w.list = .pool)
    (hp : t.ports = s.ports) (ht : t.waits = s.waits ++ [w]) : (t.notifyWaiting w.sender).Sound hand phase := by
  have port : ∀ p, t.port p = s.port p := fun p => by unfold State.port; rw [hp]
  have waiters : t.waiters = s.waiters ++ [w.sender] := by
    unfold State.waiters
    rw [ht, List.map_append]
    rfl
  have hq := h.hand_port
  rw [State.notifyWaiting_eq (by rw [port]; exact hq.in_hand.1), port]
  refine ⟨fun p => ?_, fun v hv => ?_⟩
  · show ((t.setPort _ _).port p).Sound (keysAt p t.waiters) _ _
    rw [State.port_setPort, waiters, keysAt_append]
    split
    · next hne =>
      subst hne
      rw [keysAt_cons_same]
      exact hq.placed ho
    · next hne =>
      have old := h.port p
      rw [keysAt_cons_ne hne] at old ⊢
      rw [port, keysAt_nil, List.append_nil]
      exact old
  · rw [State.setPort_waits, ht, List.mem_append, List.mem_singleton] at hv
    rcases hv with hv | rfl
    · exact h.list v hv
    · exact hl

/-- A placement takes its request out of the hand of the job (R47). -/
theorem place {q : Sender} (h : s.Sound (q :: hand) phase) (ho : (s.port q.port).session.state = .opened)
    (request : WaitRequest) {target : Handle} (wait : Half) {l : WaitList} (hl : l = .object target.slot ∨ l = .pool) :
    (s.place q request target wait l).Sound hand phase :=
  h.listed (w := ⟨q, request, target, s.deadlineFor wait, l⟩) ho hl (by simp) (by simp)

end State.Sound

/-! ### The services of waiters -/

/-- What a service does with a waiter: nothing, or the waiter leaves its list and is replied, or it moves to another list
of its own. -/
inductive State.Treats (s : State) (w : WaitRecord) (t : State) : Prop
  | left (hp : t.ports = s.ports) (hw : t.waits = s.waits)
  | served (u : State) (code : RequestCode) (x : Answer) (hp : u.ports = s.ports) (hw : u.waits = s.waits.erase w)
      (ht : t = u.complete w.sender code x)
  | moved (l : WaitList) (hl : l = .object w.target.slot ∨ l = .pool) (hp : t.ports = s.ports)
      (hw : t.waits = s.waits.erase w ++ [{ w with list := l }])

namespace State.Treats

variable {s t : State} {w : WaitRecord}

theorem refl (s : State) (w : WaitRecord) : s.Treats w s := .left rfl rfl

theorem sound (h : s.Treats w t) {hand : List Sender} {phase : Port → Phase} (hs : s.Sound hand phase)
    (hw : w ∈ s.waits) : t.Sound hand phase := by
  cases h with
  | left hp ht => exact hs.of_same hp ht
  | served u code x hp ht he =>
    rw [he]
    exact (hs.unlisted hw hp ht).complete code x
  | moved l hl hp ht => exact hs.relisted hw hl hp ht

/-- A waiter treated is the only one that may leave the wait records. -/
theorem subperm (h : s.Treats w t) : (s.waits.erase w).Subperm t.waits := by
  cases h with
  | left _ ht => exact ht ▸ List.erase_subperm w s.waits
  | served u code x _ ht he => rw [he, State.complete_waits, ht]
  | moved l _ _ ht => exact ht ▸ (List.sublist_append_left _ _).subperm

/-- Waiters treated one after another, each as the one before left the state. -/
theorem foldl {σ : Type} (state : σ → State) {f : σ → WaitRecord → σ}
    (hf : ∀ x w, (state x).Treats w (state (f x w))) {hand : List Sender} {phase : Port → Phase} (ws : List WaitRecord)
    (x : σ) (hws : ws.Subperm (state x).waits) (hs : (state x).Sound hand phase) :
    (state (ws.foldl f x)).Sound hand phase := by
  induction ws generalizing x with
  | nil => exact hs
  | cons w ws ih =>
    have hw : w ∈ (state x).waits := hws.subset List.mem_cons_self
    have rest : ws.Subperm ((state x).waits.erase w) := by simpa using hws.erase w
    exact ih (f x w) (rest.trans (hf x w).subperm) ((hf x w).sound hs hw)

end State.Treats

theorem State.waitList_subperm (s : State) (l : WaitList) : (s.waitList l).Subperm s.waits :=
  List.filter_sublist.subperm

theorem State.poolPuts_subperm (s : State) (i : SlotNo) : (s.poolPuts i).Subperm s.waits := List.filter_sublist.subperm

theorem State.dismiss_treats (st : Status) (s : State) (w : WaitRecord) : s.Treats w (State.dismiss st s w) :=
  .served _ _ _ (State.removeWaiter_ports _ _) (State.removeWaiter_waits _ _) rfl

theorem State.grantPut_treats (s : State) (i : SlotNo) (a : QueueAccount) (w : WaitRecord) (value : Word)
    (side : QueueEnd) : s.Treats w (s.grantPut i a w value side) := by
  refine .served _ _ _ ?_ ?_ rfl
  · exact State.removeWaiter_ports s w
  · exact s.removeWaiter_waits w

theorem State.moveWaiter_treats (s : State) {w : WaitRecord} {l : WaitList}
    (hl : l = .object w.target.slot ∨ l = .pool) : s.Treats w (s.moveWaiter w l) :=
  .moved l hl (State.moveWaiter_ports _ _ _) (State.moveWaiter_waits _ _ _)

theorem serveOwnPutter_treats (i : SlotNo) (s : State) (w : WaitRecord) : s.Treats w (serveOwnPutter i s w) := by
  unfold serveOwnPutter
  split
  · split
    · split
      · exact s.grantPut_treats _ _ _ _ _
      · exact s.moveWaiter_treats (.inr rfl)
    · exact .refl s w
  · exact .refl s w

theorem poolPassRecord_treats (x : State × Bool) (w : WaitRecord) : x.1.Treats w (poolPassRecord x w).1 := by
  unfold poolPassRecord
  split
  · split
    · exact x.1.moveWaiter_treats (.inl rfl)
    · split
      · exact x.1.grantPut_treats _ _ _ _ _
      · exact .refl _ w
  · exact .refl _ w

theorem State.serveCellWaiter_treats (s : State) (i : SlotNo) (r : ObjectRecord) (v : Word) (order : Order)
    (w : WaitRecord) (op : CellOp) : s.Treats w (s.serveCellWaiter i r v order w op) := by
  refine .served _ _ _ ?_ ?_ rfl
  · exact State.removeWaiter_ports _ w
  · exact State.removeWaiter_waits _ w

theorem scanPassRecord_treats (i : SlotNo) (x : State × Bool) (w : WaitRecord) :
    x.1.Treats w (scanPassRecord i x w).1 := by
  rcases scanPassRecord_cases i x w with hx | ⟨r, v, order, op, -, -, hx⟩ <;> rw [hx]
  · exact .refl _ w
  · exact x.1.serveCellWaiter_treats _ _ _ _ _ _

theorem serveReentry_treats (i : SlotNo) (s : State) (w : WaitRecord) : s.Treats w (serveReentry i s w) := by
  unfold serveReentry
  split
  · split
    · refine .served _ _ _ ?_ ?_ rfl
      · exact State.removeWaiter_ports _ w
      · exact State.removeWaiter_waits _ w
    · exact .refl s w
  · exact .refl s w

namespace State.Sound

variable {s t : State} {hand : List Sender} {phase : Port → Phase}

theorem dismiss (h : s.Sound hand phase) {w : WaitRecord} (hw : w ∈ s.waits) (st : Status) :
    (State.dismiss st s w).Sound hand phase := (s.dismiss_treats st w).sound h hw

theorem dismissAll (h : s.Sound hand phase) {ws : List WaitRecord} (hws : ws.Subperm s.waits) (st : Status) :
    (State.dismissAll st s ws).Sound hand phase :=
  State.Treats.foldl (fun s => s) (State.dismiss_treats st) ws s hws h

theorem serveOwnPutters (h : s.Sound hand phase) (i : SlotNo) : (s.serveOwnPutters i).Sound hand phase :=
  State.Treats.foldl (fun s => s) (serveOwnPutter_treats i) _ s (s.waitList_subperm _) h

theorem poolPass (h : s.Sound hand phase) : (poolPass s).1.Sound hand phase :=
  State.Treats.foldl Prod.fst poolPassRecord_treats _ (s, false) (s.waitList_subperm _) h

theorem poolPasses (n : Nat) (h : s.Sound hand phase) : (poolPasses n s).Sound hand phase := by
  induction n generalizing s with
  | zero => exact h
  | succ n ih =>
    have pass := h.poolPass
    unfold Machine.poolPasses
    split
    · next s' hs =>
      rw [hs] at pass
      exact ih pass
    · next s' hs =>
      rw [hs] at pass
      exact pass

theorem poolService (h : s.Sound hand phase) : s.poolService.Sound hand phase := h.poolPasses _

theorem poolServiceIf (h : s.Sound hand phase) (due : Bool) : (s.poolServiceIf due).Sound hand phase := by
  cases due with
  | true => exact h.poolService
  | false => exact h

theorem scanStrict (i : SlotNo) {ws : List WaitRecord} (hws : ws.Subperm s.waits) (h : s.Sound hand phase) :
    (scanStrict i ws s).Sound hand phase := by
  induction ws generalizing s with
  | nil => exact h
  | cons w ws ih =>
    have hw : w ∈ s.waits := hws.subset List.mem_cons_self
    have rest : ws.Subperm (s.waits.erase w) := by simpa using hws.erase w
    unfold Machine.scanStrict
    split
    · split
      · split
        · have served := s.serveCellWaiter_treats i ‹_› ‹_› ‹_› w ‹_›
          exact ih (rest.trans served.subperm) (served.sound h hw)
        · exact h
      · exact h
    · exact h

theorem scanPass (h : s.Sound hand phase) (i : SlotNo) : (scanPass i s).1.Sound hand phase :=
  State.Treats.foldl Prod.fst (scanPassRecord_treats i) _ (s, false) (s.waitList_subperm _) h

theorem scanPasses (i : SlotNo) (n : Nat) (h : s.Sound hand phase) : (scanPasses i n s).Sound hand phase := by
  induction n generalizing s with
  | zero => exact h
  | succ n ih =>
    rw [scanPasses_succ (t := (Machine.scanPass i s).1) (served := (Machine.scanPass i s).2) rfl]
    split
    · exact ih (h.scanPass i)
    · exact h.scanPass i

theorem scan (h : s.Sound hand phase) (i : SlotNo) : (s.scan i).Sound hand phase := by
  unfold State.scan
  split
  · split
    · exact State.Sound.scanStrict i (s.waitList_subperm _) h
    · exact State.Sound.scanPasses i _ h
    · exact h
  · exact h

theorem scanIf (h : s.Sound hand phase) (cell : Option SlotNo) : (s.scanIf cell).Sound hand phase := by
  cases cell with
  | some i => exact h.scan i
  | none => exact h

/-- Quarantine dismisses waiters of the object, and of the rest changes neither ports nor wait records (R19, R20). -/
theorem quarantine (h : s.Sound hand phase) (i : SlotNo) (r : ObjectRecord) : (s.quarantine i r).Sound hand phase := by
  have flagged : (s.writeRecord i { r with quarantined := true }).Sound hand phase := h.of_same rfl rfl
  have own := flagged.dismissAll (State.waitList_subperm _ (.object i)) .fault
  have puts := own.dismissAll (State.poolPuts_subperm _ i) .fault
  exact (puts.of_same (State.quarantineKind_ports _ _ _) (State.quarantineKind_waits _ _ _)).of_same
    (State.appendAlert_ports _ _) (State.appendAlert_waits _ _)

theorem verify (h : s.Sound hand phase) (i : SlotNo) : (s.verify i).state.Sound hand phase := by
  unfold State.verify
  split
  · split
    · exact h.quarantine _ _
    · exact h
  · exact h

theorem deleteObject (h : s.Sound hand phase) (i : SlotNo) : (s.deleteObject i).Sound hand phase := by
  have waiters : (s.deletionWaiters i).Subperm s.waits := by
    have puts : s.poolPuts i = (s.waits.filter fun w => !(w.list == .object i)).filter
        fun w => w.list == .pool && w.target.slot == i := (poolPuts_without_own s.waits i).symm
    unfold State.deletionWaiters
    rw [puts]
    exact (List.filter_sublist.append_left _).subperm.trans (List.filter_append_perm _ s.waits).subperm
  exact (h.dismissAll waiters .deleted).of_same rfl rfl

/-- A lock passes to a waiter, whose request is then in hand (R97). -/
theorem assignLock (h : s.Sound hand phase) {w : WaitRecord} (hw : w ∈ s.waits) (i : SlotNo) (r : ObjectRecord)
    (damaged : Bool) : (s.assignLock i r damaged w).Sound (w.sender :: hand) phase :=
  State.Sound.removeWaiter (h.of_same rfl rfl) hw

/-- The new holder of a lock is replied, and its port's other waiters re-enter (R97). -/
theorem replyHandOff {w : WaitRecord} (h : s.Sound (w.sender :: hand) phase) (i : SlotNo) (damaged : Bool) :
    (s.replyHandOff i damaged w).Sound hand phase :=
  State.Treats.foldl (fun s => s) (serveReentry_treats i) _ _
    (List.filter_sublist.subperm.trans (State.waitList_subperm _ _)) (h.complete .acquire _)

theorem abandonLock (h : s.Sound hand phase) (i : SlotNo) (r : ObjectRecord) :
    (abandonLock i r s).Sound hand phase := by
  unfold Machine.abandonLock
  split
  · exact h.of_same rfl rfl
  · next w hw =>
    have mem : w ∈ s.waits := (s.waitList_subperm _).subset (List.mem_of_head? hw)
    exact (h.assignLock mem i r true).replyHandOff i true

end State.Sound

end Sys2Proof.Machine
end

section
/-! PROOFS. The law of wait records and tags job by job (O60): a job takes its request out of its hand, with a reply or by
placing it as a waiter. -/

namespace Sys2Proof.Machine

/-- The oldest put on the pool wait list stands among the wait records (R76). -/
theorem State.mem_of_oldestPoolPut {s : State} {i : SlotNo} {w : WaitRecord} {value : Word}
    (h : s.oldestPoolPut i = some (w, value)) : w ∈ s.waits := by
  unfold State.oldestPoolPut at h
  obtain ⟨v, hv, hw⟩ := List.exists_of_findSome?_eq_some h
  split at hw
  · cases hw
    exact (s.poolPuts_subperm i).subset hv
  · cases hw

namespace State.Sound

variable {s : State} {q : Sender}

theorem refused (h : s.Sound [q] quiet) (code : RequestCode) (status : Status) :
    (s.complete q code (.refuse status)).Sound [] quiet := h.complete code _

/-- A record is written and the request replied. -/
theorem written (h : s.Sound [q] quiet) (i : SlotNo) (r : ObjectRecord) (code : RequestCode) (x : Answer) :
    ((s.writeRecord i r).complete q code x).Sound [] quiet :=
  State.Sound.complete (s := s.writeRecord i r) (h.of_same rfl rfl) code x

/-- A request that names an object is refused, finds a failing record, or is carried out (R9, R10). -/
theorem withObject (h : s.Sound [q] quiet) {code : RequestCode} {o : Handle} {c : Checks} {run : ObjectRecord → State}
    (hrun : ∀ r, c.kind r.part = true → c.range s = true → (run r).Sound [] quiet) :
    (s.withObject q code o c run).Sound [] quiet := by
  unfold State.withObject
  split
  · exact h.refused _ _
  · split
    · exact ((h.quarantine _ _).complete code _).poolServiceIf _
    · split
      · exact h.refused _ _
      · next hk =>
        iterate 3
          split
          · exact h.refused _ _
        split
        · exact h.refused _ _
        · next hr => exact hrun _ (by simpa using hk) (by simpa using hr)

theorem runCell (h : s.Sound [q] quiet) (ho : (s.port q.port).session.state = .opened) (o : Handle) (op : CellOp)
    (guard : Guard) (wait : Half) (r : ObjectRecord) (value : Word) (order : Order) :
    (runCell q o op guard wait s r value order).Sound [] quiet := by
  unfold Machine.runCell
  split
  · exact (h.written _ _ _ _).scanIf _
  · split
    · exact h.complete _ _
    · exact h.place ho _ _ (.inl rfl)

theorem waitOrReport (h : s.Sound [q] quiet) (ho : (s.port q.port).session.state = .opened) (code : RequestCode)
    (request : WaitRequest) {o : Handle} (wait : Half) {l : WaitList} (hl : l = .object o.slot ∨ l = .pool)
    (status : Status) (depth : Nat) : (waitOrReport q code request o wait l status depth s).Sound [] quiet := by
  unfold Machine.waitOrReport
  split
  · exact h.complete _ _
  · exact h.place ho _ _ hl

/-- The request is replied and then a waiter that it serves (R72, R76). -/
theorem replyBoth (h : s.Sound [q] quiet) {w : WaitRecord} (hw : w ∈ s.waits) (code code' : RequestCode)
    (x x' : Answer) : (((s.removeWaiter w).complete q code x).complete w.sender code' x').Sound [] quiet :=
  ((((h.removeWaiter hw).perm (.swap q w.sender [])).complete code x).complete code' x')

theorem runPut (h : s.Sound [q] quiet) (ho : (s.port q.port).session.state = .opened) (o : Handle) (side : QueueEnd)
    (value : Word) (wait : Half) : (runPut q o side value wait s).Sound [] quiet := by
  unfold Machine.runPut
  split
  · next w hw => exact h.replyBoth ((s.waitList_subperm _).subset (List.mem_of_find?_eq_some hw)) _ _ _ _
  · split
    · exact h.waitOrReport ho _ _ _ (.inl rfl) _ _
    · split
      · exact h.waitOrReport ho _ _ _ (.inr rfl) _ _
      · exact State.Sound.complete (s := s.linkEntry _ _ _ _) (h.of_same rfl rfl) _ _

/-- Entries go back to the pool, the request is replied, and the queue's putters and the pool are served (R75, R79,
R81). -/
theorem entriesTaken (h : s.Sound [q] quiet) (i : SlotNo) (a : Option QueueAccount) (free : Nat) (code : RequestCode)
    (x : Answer) :
    ((({ s.setQueue i a with free := free }.complete q code x).serveOwnPutters i).poolService).Sound [] quiet :=
  ((State.Sound.complete (s := { s.setQueue i a with free := free }) (h.of_same rfl rfl) code x).serveOwnPutters
    i).poolService

theorem runTake (h : s.Sound [q] quiet) (ho : (s.port q.port).session.state = .opened) (o : Handle) (side : QueueEnd)
    (wait : Half) : (runTake q o side wait s).Sound [] quiet := by
  unfold Machine.runTake
  split
  · exact h.entriesTaken _ _ _ _ _
  · split
    · next w value hw => exact h.replyBoth (State.mem_of_oldestPoolPut hw) _ _ _ _
    · exact h.waitOrReport ho _ _ _ (.inl rfl) _ _

theorem runFlush (h : s.Sound [q] quiet) (o : Handle) : (runFlush q o s).Sound [] quiet := by
  unfold Machine.runFlush
  split
  · exact h.complete _ _
  · exact h.entriesTaken _ _ _ _ _

theorem runSetQueueLimits (h : s.Sound [q] quiet) (o : Handle) (limit reserve : Half) :
    (runSetQueueLimits q o limit reserve s).Sound [] quiet := by
  unfold Machine.runSetQueueLimits
  split
  · exact h.refused _ _
  · have replied := fun x => State.Sound.complete (s := s.withLimits o.slot limit reserve) (h.of_same rfl rfl)
      .setQueueLimits x
    dsimp only
    split
    · exact ((replied _).serveOwnPutters _).poolService
    · exact (replied _).poolService

theorem runAcquire (h : s.Sound [q] quiet) (ho : (s.port q.port).session.state = .opened) (o : Handle) (wait : Half)
    (r : ObjectRecord) (holder : Option SessionId) (count : Nat) (damaged : Bool) :
    (runAcquire q o wait s r holder count damaged).Sound [] quiet := by
  unfold Machine.runAcquire
  split
  · exact h.written _ _ _ _
  · split
    · split
      · exact h.written _ _ _ _
      · exact h.complete _ _
    · split
      · exact h.complete _ _
      · exact h.place ho _ _ (.inl rfl)

theorem releaseLast (h : s.Sound [q] quiet) (o : Handle) (r : ObjectRecord) (damaged : Bool) :
    (releaseLast q o s r damaged).Sound [] quiet := by
  unfold Machine.releaseLast
  split
  · exact h.written _ _ _ _
  · next w hw =>
    have mem : w ∈ s.waits := (s.waitList_subperm _).subset (List.mem_of_head? hw)
    exact (((h.assignLock mem _ r damaged).perm (.swap q w.sender [])).complete .release _).replyHandOff _ damaged

theorem runRelease (h : s.Sound [q] quiet) (o : Handle) (r : ObjectRecord) (holder : Option SessionId) (count : Nat)
    (damaged : Bool) : (runRelease q o s r holder count damaged).Sound [] quiet := by
  unfold Machine.runRelease
  split
  · split
    · exact h.written _ _ _ _
    · exact h.releaseLast _ _ _
  · exact h.complete _ _

theorem runRestore (h : s.Sound [q] quiet) (o : Handle) (r : ObjectRecord) (holder : Option SessionId) (count : Nat)
    (damaged : Bool) : (runRestore q o s r holder count damaged).Sound [] quiet := by
  unfold Machine.runRestore
  split
  · exact h.written _ _ _ _
  · exact h.complete _ _

/-! ### The jobs -/

theorem jobCreate (h : s.Sound [q] quiet) (slot : SlotChoice) (access : Byte) (isScoped : Bool) (kind : KindParams)
    (label : Label) : (jobCreate q slot access isScoped kind label s).Sound [] quiet := by
  unfold Machine.jobCreate
  iterate 2
    split
    · exact h.refused _ _
  split
  · exact h.refused _ _
  · iterate 2
      split
      · exact h.refused _ _
    exact State.Sound.complete (s := s.placeObject q _ access isScoped kind label) (h.of_same rfl rfl) _ _

theorem jobDelete (h : s.Sound [q] quiet) (o : Handle) : (jobDelete q o s).Sound [] quiet :=
  h.withObject fun _ _ _ => ((h.deleteObject o.slot).complete .delete _).poolServiceIf _

theorem jobDescribe (h : s.Sound [q] quiet) (o : Handle) : (jobDescribe q o s).Sound [] quiet :=
  h.withObject fun _ _ _ => h.complete .describe _

theorem jobFind (h : s.Sound [q] quiet) (label : Label) : (jobFind q label s).Sound [] quiet := by
  unfold Machine.jobFind
  split
  · exact h.refused _ _
  · split
    · exact h.refused _ _
    · split
      · exact h.refused _ _
      · split
        · exact ((h.quarantine _ _).complete .find _).poolServiceIf _
        · split
          · exact h.complete _ _
          · exact h.refused _ _

theorem jobSetAccess (h : s.Sound [q] quiet) (o : Handle) (access : Byte) : (jobSetAccess q o access s).Sound [] quiet :=
  h.withObject fun _ _ _ => h.written _ _ _ _

theorem jobCell (h : s.Sound [q] quiet) (ho : (s.port q.port).session.state = .opened) (o : Handle) (op : CellOp)
    (guard : Guard) (wait : Half) : (jobCell q o op guard wait s).Sound [] quiet := by
  refine h.withObject fun r hk _ => ?_
  cases hp : r.part with
  | cell value order => exact h.runCell ho _ _ _ _ _ _ _
  | queue | lock _ _ _ => simp [Checks.ofKind, hp, KindPart.isCell] at hk

theorem jobSetOrder (h : s.Sound [q] quiet) (o : Handle) (order : Order) : (jobSetOrder q o order s).Sound [] quiet := by
  refine h.withObject fun r hk _ => ?_
  cases hp : r.part with
  | cell value _ => exact (h.written _ _ _ _).scan _
  | queue | lock _ _ _ => simp [Checks.ofKind, hp, KindPart.isCell] at hk

theorem jobPeek (h : s.Sound [q] quiet) (o : Handle) (index : Half) : (jobPeek q o index s).Sound [] quiet := by
  refine h.withObject fun r _ hr => ?_
  have hlt : index.toNat < (s.account o.slot).chain.length := of_decide_eq_true hr
  rw [List.getElem?_eq_getElem hlt]
  exact h.complete _ _

theorem jobAcquire (h : s.Sound [q] quiet) (ho : (s.port q.port).session.state = .opened) (o : Handle) (wait : Half) :
    (jobAcquire q o wait s).Sound [] quiet := by
  refine h.withObject fun r hk _ => ?_
  cases hp : r.part with
  | lock _ _ _ => exact h.runAcquire ho _ _ _ _ _ _
  | queue | cell _ _ => simp [lockChecks, Checks.ofKind, hp, KindPart.isLock] at hk

theorem jobRelease (h : s.Sound [q] quiet) (o : Handle) : (jobRelease q o s).Sound [] quiet := by
  refine h.withObject fun r hk _ => ?_
  cases hp : r.part with
  | lock _ _ _ => exact h.runRelease _ _ _ _ _
  | queue | cell _ _ => simp [lockChecks, Checks.ofKind, hp, KindPart.isLock] at hk

theorem jobRestore (h : s.Sound [q] quiet) (o : Handle) : (jobRestore q o s).Sound [] quiet := by
  refine h.withObject fun r hk _ => ?_
  cases hp : r.part with
  | lock _ _ _ => exact h.runRestore _ _ _ _ _
  | queue | cell _ _ => simp [lockChecks, Checks.ofKind, hp, KindPart.isLock] at hk

/-- The target's waiter is dismissed or its object quarantined, and the CANCEL replied (R62, R63). -/
theorem jobCancel (h : s.Sound [q] quiet) (target : Tag) : (jobCancel q target s).Sound [] quiet := by
  unfold Machine.jobCancel
  split
  · next w hw =>
    unfold Machine.cancelWaiter
    dsimp only
    split
    · exact ((h.verify _).complete .cancel _).poolServiceIf _
    · exact ((h.dismiss (List.mem_of_find?_eq_some hw) .cancelled).complete .cancel _).scanIf _
  · exact h.refused _ _

theorem asAdmin (h : s.Sound [q] quiet) (code : RequestCode) {run : State} (hr : run.Sound [] quiet) :
    (s.asAdmin q code run).Sound [] quiet := by
  unfold State.asAdmin
  split
  · exact hr
  · exact h.refused _ _

theorem withPort (h : s.Sound [q] quiet) (code : RequestCode) (target : Byte) {run : Port → State}
    (hr : ∀ p, (run p).Sound [] quiet) : (s.withPort q code target run).Sound [] quiet := by
  unfold State.withPort
  split
  · exact hr _
  · exact h.refused _ _

theorem jobSetRights (h : s.Sound [q] quiet) (target : Byte) (rights : Rights) :
    (jobSetRights q target rights s).Sound [] quiet := by
  refine h.asAdmin _ (h.withPort _ _ fun p => ?_)
  split
  · exact h.refused _ _
  · exact State.Sound.complete (s := s.setRights p rights) (h.of_same rfl rfl) _ _

theorem jobReadAlerts (h : s.Sound [q] quiet) : (jobReadAlerts q s).Sound [] quiet :=
  h.asAdmin _ (State.Sound.complete (s := s.setAlerts _ _) (h.of_same rfl rfl) _ _)

theorem jobStats (h : s.Sound [q] quiet) (target : Byte) (clear : Bool) : (jobStats q target clear s).Sound [] quiet := by
  refine h.asAdmin _ (h.withPort _ _ fun p => State.Sound.complete ?_ _ _)
  split
  · exact h.setPort ((h.port p).of_same rfl rfl rfl rfl rfl) fun _ _ => rfl
  · exact h

theorem jobSetPoolMark (h : s.Sound [q] quiet) (mark : Half) : (jobSetPoolMark q mark s).Sound [] quiet := by
  refine h.asAdmin _ ?_
  split
  · exact h.refused _ _
  · exact State.Sound.complete (s := { s with poolMark := mark.toNat }) (h.of_same rfl rfl) _ _

theorem jobPartReset (h : s.Sound [q] quiet) : (jobPartReset q s).Sound [] quiet :=
  h.asAdmin _ ((h.completeFor (purpose := .partResetReply) nofun _ _).of_same rfl rfl)

theorem clearSlots (h : s.Sound [q] quiet) : (clearSlots s).state.Sound [q] quiet := by
  refine List.foldlRecOn (motive := fun x : ClearRun => x.state.Sound [q] quiet) _ _ h fun x hx i _ => ?_
  unfold Machine.clearSlot
  split
  · exact (hx.verify i).deleteObject i
  · exact hx

theorem jobStoreClear (h : s.Sound [q] quiet) : (jobStoreClear q s).Sound [] quiet :=
  h.asAdmin _ (h.clearSlots.poolService.complete _ _)

end State.Sound

/-! ### The ends of a session -/

/-- After a reset of the part nothing is carried (R176). -/
theorem State.resetPart_sound (s : State) : s.resetPart.Sound [] quiet := by
  refine ⟨fun p => ?_, nofun⟩
  have port : s.resetPart.port p = PortState.reset (s.port p).rxd := mapVector_get _ _ _
  rw [port]
  exact PortState.Sound.reset _

/-- A completion on a part just reset is lost (R145). -/
theorem State.resetPart_complete (s : State) (q : Sender) (code : RequestCode) (x : Answer) :
    s.resetPart.complete q code x = s.resetPart := by
  have port : s.resetPart.port q.port = PortState.reset (s.port q.port).rxd := mapVector_get _ _ _
  unfold State.complete State.completeFor
  rw [port]
  rfl

/-- The end of a session by lapse, break or forced close resets the part, or replaces its port (R132, R175). -/
theorem State.endAbruptly_cases (s : State) (cause : EndCause) (p : Port) :
    (∃ u : State, s.endAbruptly cause p = u.resetPart) ∨
      s.endAbruptly cause p = s.setPort p ((s.port p).endAbruptly cause) := by
  unfold State.endAbruptly
  dsimp only
  split
  · exact .inl ⟨_, rfl⟩
  · exact .inr rfl

namespace State.Sound

variable {s : State} {q : Sender} {hand : List Sender}

/-- An OPEN session of a port with no request in hand ends by lapse, break or forced close. -/
theorem portEnded (h : s.Sound hand quiet) {p : Port} (ho : (s.port p).session.state = .opened)
    (hh : keysAt p hand = []) {cause : EndCause} (hc : cause ≠ .closed) :
    (s.setPort p ((s.port p).endAbruptly cause)).Sound hand quiet := by
  have hp := h.port p
  rw [hh] at hp
  exact h.setPort (by rw [hh]; exact hp.endAbruptly ho hc) fun _ _ => rfl

theorem endAbruptly (h : s.Sound [] quiet) {p : Port} (ho : (s.port p).session.state = .opened) {cause : EndCause}
    (hc : cause ≠ .closed) : (s.endAbruptly cause p).Sound [] quiet := by
  rcases s.endAbruptly_cases cause p with ⟨u, hu⟩ | hu <;> rw [hu]
  · exact u.resetPart_sound
  · exact h.portEnded ho rfl hc

/-- A forced close ends the session of another port (R136, R165). -/
theorem jobForceClose (h : s.Sound [q] quiet) (target : Byte) : (jobForceClose q target s).Sound [] quiet := by
  refine h.asAdmin _ (h.withPort _ _ fun p => ?_)
  split
  · exact h.refused _ _
  · next hp =>
    split
    · exact h.refused _ _
    · next ho =>
      rcases s.endAbruptly_cases .forced p with ⟨u, hu⟩ | hu <;> rw [hu]
      · rw [State.resetPart_complete]
        exact u.resetPart_sound
      · exact (h.portEnded (cause := .forced) (not_not.mp ho) (keysAt_cons_ne (Ne.symm hp) _) nofun).complete _ _

/-- Every job of the store takes its request out of its hand. -/
theorem storeJob (h : s.Sound [q] quiet) (ho : (s.port q.port).session.state = .opened) {r : Request}
    (hr : isStoreJob r = true) : (storeJob q r s).Sound [] quiet := by
  cases r with
  | create slot access isScoped kind label => exact h.jobCreate slot access isScoped kind label
  | delete o => exact h.jobDelete o
  | describe o => exact h.jobDescribe o
  | find label => exact h.jobFind label
  | setAccess o access => exact h.jobSetAccess o access
  | cell o op guard wait => exact h.jobCell ho o op guard wait
  | setOrder o order => exact h.jobSetOrder o order
  | put o side value wait => exact h.withObject fun _ _ _ => h.runPut ho o side value wait
  | take o side wait => exact h.withObject fun _ _ _ => h.runTake ho o side wait
  | peek o index => exact h.jobPeek o index
  | flush o => exact h.withObject fun _ _ _ => h.runFlush o
  | setQueueLimits o limit reserve => exact h.withObject fun _ _ _ => h.runSetQueueLimits o limit reserve
  | acquire o wait => exact h.jobAcquire ho o wait
  | release o => exact h.jobRelease o
  | restore o => exact h.jobRestore o
  | cancel target => exact h.jobCancel target
  | setRights target rights => exact h.jobSetRights target rights
  | forceClose target => exact h.jobForceClose target
  | storeClear => exact h.jobStoreClear
  | readAlerts => exact h.jobReadAlerts
  | stats target clear => exact h.jobStats target clear
  | setPoolMark mark => exact h.jobSetPoolMark mark
  | partReset => exact h.jobPartReset
  | nop | identify | queryTags | openSession | closeSession => cases hr

/-- An expiry job times its waiter out, quarantines the object, or is stale (R60). -/
theorem jobExpiry (h : s.Sound hand quiet) (q : Sender) : (jobExpiry q s).Sound hand quiet := by
  unfold Machine.jobExpiry
  split
  · next w hw =>
    split
    · unfold Machine.expireWaiter
      dsimp only
      split
      · exact (h.verify _).poolServiceIf _
      · exact ((h.removeWaiter (List.mem_of_find?_eq_some hw)).complete _ _).scanIf _
    · exact h
  · exact h

end State.Sound

end Sys2Proof.Machine
end

section
/-! PROOFS. The law of wait records and tags under the port units, the links and the teardown job, and the law at every
step (O60). -/

namespace Sys2Proof.Machine

/-! ### What the arbiter takes (R1) -/

theorem State.presents_of_nextJob {s : State} {j : Job} (h : s.nextJob = some j) : ∃ k, s.presents k = some j := by
  unfold State.nextJob at h
  split at h
  · cases h
  · obtain ⟨k, -, hk⟩ := List.exists_of_findSome?_eq_some h
    exact ⟨k, hk⟩

/-- The request job taken next is the head of its port's pending list (R1). -/
theorem State.head_of_nextJob {s : State} {p : Port} {r : PendingRequest} (h : s.nextJob = some (.request p r)) :
    (s.port p).requests.head? = some r := by
  obtain ⟨k, hk⟩ := State.presents_of_nextJob h
  unfold State.presents at hk
  split at hk
  · unfold State.portJob at hk
    split at hk
    · cases hk
    · obtain ⟨r', hr, hj⟩ := Option.map_eq_some_iff.mp hk
      obtain ⟨rfl, rfl⟩ := Job.request.inj hj
      exact hr
  · obtain ⟨q, -, hj⟩ := Option.map_eq_some_iff.mp hk
    cases hj

/-- The teardown job taken next is that of its port (R1). -/
theorem State.teardown_of_nextJob {s : State} {p : Port} {j : TeardownJob} (h : s.nextJob = some (.teardown p j)) :
    (s.port p).teardown = some j := by
  obtain ⟨k, hk⟩ := State.presents_of_nextJob h
  unfold State.presents at hk
  split at hk
  · unfold State.portJob at hk
    split at hk
    · next j' hj' =>
      obtain ⟨rfl, rfl⟩ := Job.teardown.inj (Option.some.inj hk)
      exact hj'
    · obtain ⟨r', -, hj⟩ := Option.map_eq_some_iff.mp hk
      cases hj
  · obtain ⟨q, -, hj⟩ := Option.map_eq_some_iff.mp hk
    cases hj

/-! ### Requests that the port unit answers -/

@[simp] theorem PortState.setTag_setTag (x : PortState) (t : Tag) (e e' : TagEntry) :
    (x.setTag t e).setTag t e' = x.setTag t e' := by simp [PortState.setTag]

/-- The silence timer runs for a limit other than 0 alone (R131). -/
theorem State.silenceTimer_running {s : State} {silence : Half}
    (h : s.silenceTimer silence ≠ .stopped) : silence ≠ 0#16 := by
  rintro rfl
  exact h (if_pos rfl)

/-- A session that is opened has a number (R128). -/
theorem nextSession_ne_zero (n : Half) : nextSession n ≠ 0#16 := by
  unfold nextSession
  split
  · decide
  · next hn => bv_omega

/-- A reply to a tag that is IDLE, its session being OPEN (R111, R113). -/
theorem PortState.Sound.answering {x : PortState} {waits hand : List (Tag × Gen)} {phase : Phase} {t : Tag}
    (h : x.Sound waits hand phase) (ho : x.session.state = .opened) (ht : (x.tag t).state = .idle) (r : Reply)
    (cache : Option Reply) :
    PortState.Sound { x.setTag t ⟨.replying r.gen, cache⟩ with queue := x.queue ++ [⟨some t, r, .plain⟩] }
      waits hand phase := by
  have replied := (h.pended (g := r.gen) ho ht).replying (r := r) (purpose := .plain)
    (fun hc => by rw [show x.session.state = .closing from hc] at ho; cases ho) nofun cache
  unfold PortState.setTagState at replied
  rwa [PortState.setTag_setTag] at replied

namespace State.Sound

variable {s : State} {q : Sender}

/-- A port changes while no job runs. -/
theorem port_set (h : s.Sound [] quiet) {p : Port} {x : PortState}
    (hx : x.Sound (keysAt p s.waiters) [] .idle) : (s.setPort p x).Sound [] quiet :=
  h.setPort hx fun _ _ => rfl

theorem refusePort (h : s.Sound [] quiet) (q : Sender) (code : Byte) (x : Answer) :
    (s.refusePort q code x).Sound [] quiet := h.port_set ((h.port q.port).untracked _ _)

theorem answerUntracked (h : s.Sound [] quiet) (q : Sender) (code : RequestCode) (x : Answer) :
    (s.answerUntracked q code x).Sound [] quiet := h.port_set ((h.port q.port).untracked _ _)

theorem restartTimer (h : s.Sound [] quiet) (p : Port) : (s.restartTimer p).Sound [] quiet := by
  unfold State.restartTimer
  split
  · next ho => exact h.port_set ((h.port p).timer ho State.silenceTimer_running)
  · exact h

/-- An OPEN opens the session and is replied, its reply not cached (R113, R129). -/
theorem openSession (h : s.Sound [] quiet) {q : Sender} (hc : (s.port q.port).session.state = .closed) (silence : Half)
    (label : Label) : (s.openSession q silence label).Sound [] quiet := by
  unfold State.openSession
  split
  · have opened := (h.port q.port).opening hc (session := s.openedSession q.port silence label) rfl
      (nextSession_ne_zero _) State.silenceTimer_running
    obtain ⟨-, -, -, closed, -⟩ := (h.port q.port).law
    have idle : ((s.port q.port).tag q.tag).state = .idle := by rw [closed hc q.tag]
    have counted := opened.of_same (y := PortState.counting { s.port q.port with
      session := s.openedSession q.port silence label } countSessionOpened) rfl rfl rfl rfl rfl
    exact h.port_set (counted.answering rfl idle _ _)
  · exact h.answerUntracked _ _ _

theorem decodeClosed (h : s.Sound [] quiet) {q : Sender} (hc : (s.port q.port).session.state = .closed) (r : Request) :
    (s.decodeClosed q r).Sound [] quiet := by
  unfold State.decodeClosed
  split
  · exact h.answerUntracked _ _ _
  · exact h.answerUntracked _ _ _
  · exact h.openSession hc _ _
  · exact h.refusePort _ _ _

theorem pendTag (h : s.Sound [] quiet) {q : Sender} (ho : (s.port q.port).session.state = .opened)
    (ht : ((s.port q.port).tag q.tag).state = .idle) : (s.pendTag q).Sound [q] quiet := by
  refine State.Sound.setPort h ?_ fun p hp => keysAt_cons_ne hp _
  rw [keysAt_cons_same]
  exact (h.port q.port).pended ho ht

/-- An accepted request is replied, ends the session, or joins the pending list (R115, R134). -/
theorem accept (h : s.Sound [q] quiet) (ho : (s.port q.port).session.state = .opened)
    (ht : ((s.port q.port).tag q.tag).state = .pending q.gen) (r : Request) : (s.accept q r).Sound [] quiet := by
  have hq := h.hand_port
  have rest : ∀ p, q.port ≠ p → keysAt p [] = keysAt p [q] := fun p hp => (keysAt_cons_ne hp _).symm
  unfold State.accept
  split
  case h_1 | h_2 | h_3 | h_4 => exact h.complete _ _
  case h_5 => exact h.setPort (hq.closing ho ht) rest
  case h_6 => exact h.setPort (hq.appended ho ht _) rest

/-- Check 3: a replay, an accepted request, a duplicate or a refusal (R111, R112). -/
theorem checkTag (h : s.Sound [] quiet) {q : Sender} (ho : (s.port q.port).session.state = .opened) (r : Request) :
    (s.checkTag q r).Sound [] quiet := by
  have hq := h.port q.port
  have accepted : ((s.port q.port).tag q.tag).state = .idle → ((s.pendTag q).accept q r).Sound [] quiet := by
    intro ht
    have port : (s.pendTag q).port q.port = (s.port q.port).setTagState q.tag (.pending q.gen) :=
      s.port_setPort_same _ _
    refine (h.pendTag ho ht).accept ?_ ?_ r
    · rw [port]
      exact ho
    · rw [port]
      unfold PortState.setTagState
      rw [PortState.tag_setTag_same]
  unfold State.checkTag
  split
  · next ht =>
    split
    · split
      · have replayed := hq.answering ho ht ‹Reply› (some ‹Reply›)
        exact h.port_set (replayed.of_same rfl rfl rfl rfl rfl)
      · exact accepted ht
    · exact accepted ht
  · split
    · exact h.port_set (hq.of_same rfl rfl rfl rfl rfl)
    · exact h.refusePort _ _ _

theorem decodeRequest (h : s.Sound [] quiet) (q : Sender) (r : Request) : (decodeRequest q r s).Sound [] quiet := by
  unfold Machine.decodeRequest
  split
  · next hc => exact h.decodeClosed hc r
  · next ho =>
    refine (h.restartTimer q.port).checkTag ?_ r
    unfold State.restartTimer
    rw [if_pos ho, State.port_setPort_same]
    exact ho
  · exact h.refusePort _ _ _

theorem decodeFrame (h : s.Sound [] quiet) (p : Port) (body : List Byte) : (decodeFrame p body s).Sound [] quiet := by
  unfold Machine.decodeFrame
  split
  · exact h
  · exact (h.restartTimer p).refusePort _ _ _
  · exact h.decodeRequest _ _

/-! ### The links -/

/-- A port whose link or statistics alone change. -/
theorem linkSet (h : s.Sound [] quiet) {p : Port} {x : PortState} (hs : x.session = (s.port p).session)
    (ht : x.tags = (s.port p).tags) (hr : x.requests = (s.port p).requests) (hq : x.queue = (s.port p).queue)
    (hj : x.teardown = (s.port p).teardown) : (s.setPort p x).Sound [] quiet :=
  h.port_set ((h.port p).of_same hs ht hr hq hj)

theorem takeLastByte (h : s.Sound [] quiet) (p : Port) (b : Byte) : (takeLastByte p b s).Sound [] quiet := by
  unfold Machine.takeLastByte
  dsimp only
  split
  · refine State.Sound.decodeFrame (State.Sound.linkSet h ?_ ?_ ?_ ?_ ?_) _ _ <;> rfl
  · exact h.linkSet rfl rfl rfl rfl rfl

theorem takeByte (h : s.Sound [] quiet) (p : Port) (b : Byte) : (takeByte p b s).Sound [] quiet := by
  unfold Machine.takeByte
  dsimp only
  split
  · exact h.linkSet rfl rfl rfl rfl rfl
  · split <;> exact h.linkSet rfl rfl rfl rfl rfl
  · exact h.linkSet rfl rfl rfl rfl rfl
  · split
    · exact h.takeLastByte p b
    · exact h.linkSet rfl rfl rfl rfl rfl

theorem receiveCharacter (h : s.Sound [] quiet) (p : Port) (b : Byte) : (receiveCharacter p b s).Sound [] quiet := by
  unfold Machine.receiveCharacter
  split
  · exact h
  · refine State.Sound.takeByte (State.Sound.linkSet h ?_ ?_ ?_ ?_ ?_) p b <;> rfl
  · exact h.linkSet rfl rfl rfl rfl rfl
  · exact h

theorem receiveLastByte (h : s.Sound [] quiet) (p : Port) (b : Byte) : (receiveLastByte p b s).Sound [] quiet := by
  unfold Machine.receiveLastByte
  split
  · exact h.receiveCharacter p b
  · exact h

theorem changePin (h : s.Sound [] quiet) (pin : InputPin) (level : Level) : (changePin pin level s).Sound [] quiet := by
  cases pin with
  | link p =>
    show (changeLevel p level s).Sound [] quiet
    unfold changeLevel
    split
    · exact h
    · dsimp only
      split <;> exact h.linkSet rfl rfl rfl rfl rfl
  | ratesel1 | ratesel0 => exact h.of_same rfl rfl

theorem gapExpires (h : s.Sound [] quiet) (p : Port) : (gapExpires p s).Sound [] quiet := by
  unfold Machine.gapExpires
  split
  · exact h.linkSet rfl rfl rfl rfl rfl
  · exact h

/-- A break is counted, and ends a session that is OPEN (R135, R155). -/
theorem reportBreak (h : s.Sound [] quiet) (p : Port) : (reportBreak p s).Sound [] quiet := by
  have counted : (s.port p).countedBreak.session = (s.port p).session ∧
      (s.setPort p (s.port p).countedBreak).Sound [] quiet := by
    unfold PortState.countedBreak PortState.beforeBreak
    split <;> exact ⟨rfl, h.linkSet rfl rfl rfl rfl rfl⟩
  unfold Machine.reportBreak
  split
  · dsimp only
    split
    · next ho =>
      refine counted.2.endAbruptly ?_ nofun
      rw [State.port_setPort_same, counted.1]
      exact ho
    · exact counted.2
  · exact h

theorem lapsePort (h : s.Sound [] quiet) (p : Port) : (lapsePort p s).Sound [] quiet := by
  unfold Machine.lapsePort
  split
  · next ho =>
    have counted : (s.setPort p ((s.port p).counting countLapse)).Sound [] quiet := h.linkSet rfl rfl rfl rfl rfl
    refine counted.endAbruptly ?_ nofun
    rw [State.port_setPort_same]
    exact ho.1
  · exact h

theorem startTransmit (h : s.Sound [] quiet) (p : Port) : (startTransmit p s).Sound [] quiet := by
  unfold Machine.startTransmit
  split
  · exact h.linkSet rfl rfl rfl rfl rfl
  · exact h

/-- The CLOSE reply has gone: nothing of its port is carried any more, and the session is CLOSED (R144). -/
theorem closeSent (h : s.Sound [] quiet) {p : Port} {f : TxFrame} {rest : List TxFrame}
    (hq : (s.port p).queue = f :: rest) (hf : f.purpose = .closeReply) :
    (s.setPort p ((s.port p).frameGone f rest).becomeClosed).Sound [] quiet := by
  have hp := h.port p
  have mem : f ∈ (s.port p).queue := hq ▸ List.mem_cons_self
  have gone := hp.gone hq
  obtain ⟨-, -, -, -, -, -, replies, reply⟩ := hp.law
  have last := hq ▸ hp.last
  have only : ∀ y ∈ rest, y.purpose ≠ .closeReply := by
    rw [hq, List.filter_cons_of_pos (by simp [hf]), List.length_cons] at replies
    have none : rest.filter (fun f => f.purpose == .closeReply) = [] := List.length_eq_zero_iff.mp (by omega)
    simpa using List.filter_eq_nil_iff.mp none
  have same : ((s.port p).frameGone f rest).session = (s.port p).session ∧
      ((s.port p).frameGone f rest).teardown = (s.port p).teardown := by
    unfold PortState.frameGone
    cases f.tag <;> exact ⟨rfl, rfl⟩
  have closed := PortState.Sound.becomeClosed gone.law (by rw [same.1]; exact (reply ⟨f, mem, hf⟩).1)
    (by rw [same.2]; exact (reply ⟨f, mem, hf⟩).2)
    fun y hy => ⟨(List.pairwise_cons.mp last).1 y hy hf, only y hy⟩
  refine h.port_set ?_
  rw [(hp.answered ⟨f, mem, hf⟩).1]
  exact closed

/-- A frame has been sent (R119, R144, R175). -/
theorem finishTransmit (h : s.Sound [] quiet) (p : Port) : (finishTransmit p s).Sound [] quiet := by
  unfold Machine.finishTransmit
  split
  · next f rest _ hq =>
    dsimp only
    split
    · exact h.port_set ((h.port p).gone hq)
    · next hf =>
      split
      · exact h.closeSent hq hf
      · exact h.port_set ((h.port p).gone hq)
    · exact State.resetPart_sound _
  · exact h

end State.Sound

end Sys2Proof.Machine
end

section
/-! PROOFS. The law of wait records and tags under the teardown job, and at every step (O60). -/

namespace Sys2Proof.Machine

/-! ### The ports while a teardown runs -/

/-- Every port continues: link, session, pending list, teardown job and statistics stay. -/
def State.PortsContinue (s t : State) : Prop := ∀ p, (s.port p).Continues (t.port p)

theorem State.PortsContinue.trans {s t u : State} (h : s.PortsContinue t) (h' : t.PortsContinue u) :
    s.PortsContinue u := fun p => (h p).trans (h' p)

theorem State.Continues.portsContinue {s t : State} (h : s.Continues t) : s.PortsContinue t := h.port

/-- What each step of a run continues of the ports, its fold continues. -/
theorem portsContinue_foldl {α : Type} {f : TeardownRun → α → TeardownRun}
    (h : ∀ (x : TeardownRun) a, x.state.PortsContinue (f x a).state) (l : List α) (x : TeardownRun) :
    x.state.PortsContinue (l.foldl f x).state :=
  List.foldlRecOn l f (motive := fun y => x.state.PortsContinue y.state) (fun _ => .refl _)
    fun y hy a _ => hy.trans (h y a)

theorem stageOne_portsContinue (p : Port) (j : TeardownJob) (x : TeardownRun) :
    x.state.PortsContinue (stageOne p j x).state :=
  (portsContinue_foldl (fun y t => (stageOneTag_continues p j y t).portsContinue) allTags x).trans
    (State.Continues.foldl State.scan_continues _ _).portsContinue

theorem stageTwo_portsContinue (ending : SessionId) (x : TeardownRun) :
    x.state.PortsContinue (stageTwo ending x).state :=
  portsContinue_foldl (fun y i => (stageTwoSlot_continues ending y i).portsContinue) allSlots x

theorem State.deleteObject_portsContinue (s : State) (i : SlotNo) : s.PortsContinue (s.deleteObject i) :=
  (s.dismissAll_continues .deleted _).portsContinue

theorem stageThree_portsContinue (ending : SessionId) (x : TeardownRun) :
    x.state.PortsContinue (stageThree ending x).state := by
  refine portsContinue_foldl (fun y i => ?_) allSlots x
  unfold stageThreeSlot
  split
  · split
    · exact ((y.state.verify_continues i).portsContinue.trans (State.deleteObject_portsContinue _ i)).trans
        (State.poolServiceIf_continues _ _).portsContinue
    · exact fun _ => .refl _
  · exact fun _ => .refl _

/-! ### Stage 1, tag by tag (R139) -/

/-- No wait record carries a tag of a port. -/
def State.clearOf (s : State) (p : Port) (t : Tag) : Prop := ∀ w ∈ s.waits, w.sender.port = p → w.sender.tag ≠ t

theorem State.clearOf_of_waiterOf {s : State} {p : Port} {t : Tag} (h : s.waiterOf p t = none) : s.clearOf p t := by
  intro w hw hp ht
  have := List.find?_eq_none.mp h w hw
  simp [hp, ht] at this

/-- No wait record carries a tag that another request in the law occupies. -/
theorem State.waiterOf_eq_none {s : State} {p : Port} {t : Tag} (h : gensOf (keysAt p s.waiters) t = []) :
    s.waiterOf p t = none := by
  unfold State.waiters at h
  rw [gensOf_keysAt, List.map_eq_nil_iff, List.filter_eq_nil_iff] at h
  exact List.find?_eq_none.mpr h

theorem State.mem_of_waiterOf {s : State} {p : Port} {t : Tag} {w : WaitRecord} (h : s.waiterOf p t = some w) :
    w ∈ s.waits ∧ w.sender.port = p ∧ w.sender.tag = t := by
  have hw := List.find?_some h
  simp only [Bool.and_eq_true, beq_iff_eq] at hw
  exact ⟨List.mem_of_find?_eq_some h, hw⟩

/-- A wait record is the only one of its tag, and stands on the list of its object or the pool's (R46). -/
structure State.WaitsSingly (s : State) : Prop where
  only : ∀ w ∈ s.waits,
    s.waits.filter (fun v => v.sender.port == w.sender.port && v.sender.tag == w.sender.tag) = [w]
  list : s.listLaw

theorem State.Sound.waitsSingly {s : State} {hand : List Sender} {phase : Port → Phase} (h : s.Sound hand phase) :
    s.WaitsSingly := by
  refine ⟨fun w hw => ?_, h.list⟩
  have mem : w ∈ s.waits.filter (fun v => v.sender.port == w.sender.port && v.sender.tag == w.sender.tag) :=
    List.mem_filter.mpr ⟨hw, by simp⟩
  have hc := (h.port w.sender.port).carried w.sender.tag
  unfold State.waiters at hc
  rw [gensOf_keysAt] at hc
  generalize s.waits.filter _ = ws at mem hc ⊢
  cases ws with
  | nil => cases mem
  | cons v vs =>
    obtain ⟨-, hvs, -⟩ := TagState.carried_waiting hc
    obtain rfl : vs = [] := List.map_eq_nil_iff.mp hvs
    rw [List.mem_singleton.mp mem]

namespace State.WaitsSingly

variable {s t : State}

theorem sublist (h : s.WaitsSingly) (ht : t.waits.Sublist s.waits) : t.WaitsSingly := by
  refine ⟨fun w hw => ?_, fun w hw => h.list w (ht.subset hw)⟩
  have mem : w ∈ t.waits.filter (fun v => v.sender.port == w.sender.port && v.sender.tag == w.sender.tag) :=
    List.mem_filter.mpr ⟨hw, by simp⟩
  have sub := ht.filter (fun v => v.sender.port == w.sender.port && v.sender.tag == w.sender.tag)
  rw [h.only w (ht.subset hw)] at sub
  rcases List.sublist_singleton.mp sub with hn | hn
  · rw [hn] at mem
    cases mem
  · exact hn

/-- With a wait record off the list, no other carries its tag. -/
theorem clearOf_of_gone (h : s.WaitsSingly) {w : WaitRecord} (hw : w ∈ s.waits) (ht : t.waits.Sublist s.waits)
    (hg : w ∉ t.waits.filter (fun v => v.sender.port == w.sender.port && v.sender.tag == w.sender.tag)) :
    t.clearOf w.sender.port w.sender.tag := by
  intro v hv hp htag
  have mem : v ∈ t.waits.filter (fun v => v.sender.port == w.sender.port && v.sender.tag == w.sender.tag) :=
    List.mem_filter.mpr ⟨hv, by simp [hp, htag]⟩
  have hv' : v = w := List.mem_singleton.mp (h.only w hw ▸ (ht.filter _).subset mem)
  exact hg (hv' ▸ mem)

end State.WaitsSingly

theorem State.verify_failed {s : State} {i : SlotNo} (h : (s.verify i).failed = true) :
    ∃ r, s.object i = some r ∧ (s.verify i).state = s.quarantine i r := by
  unfold State.verify at h ⊢
  split at h
  · next r ho =>
    split at h
    · next hf => exact ⟨r, ho, by rw [if_pos hf]⟩
    · cases h
  · cases h

/-- Stage 1 leaves no wait record of a tag, and adds none (R139). -/
theorem stageOneTag_waits (p : Port) (j : TeardownJob) {x : TeardownRun} (h : x.state.WaitsSingly) (t : Tag) :
    (stageOneTag p j x t).state.waits.Sublist x.state.waits ∧ (stageOneTag p j x t).state.clearOf p t := by
  unfold stageOneTag
  split
  · next w hw =>
    obtain ⟨mem, rfl, rfl⟩ := State.mem_of_waiterOf hw
    have gone : ∀ u : State, u.waits = x.state.waits.erase w →
        u.waits.Sublist x.state.waits ∧ u.clearOf w.sender.port w.sender.tag := fun u hu => by
      have sub : u.waits.Sublist x.state.waits := hu ▸ List.erase_sublist
      refine ⟨sub, h.clearOf_of_gone mem sub ?_⟩
      rw [hu, ← List.erase_filter, h.only w mem, List.erase_cons_head]
      exact List.not_mem_nil
    dsimp only
    split
    · next hf =>
      obtain ⟨r, -, hq⟩ := State.verify_failed hf
      rw [hq]
      have waits := x.state.quarantine_waits w.target.slot r
      have sub : (x.state.quarantine w.target.slot r).waits.Sublist x.state.waits := waits ▸ List.filter_sublist
      refine ⟨sub, h.clearOf_of_gone mem sub fun hm => ?_⟩
      have hon := (List.mem_filter.mp (waits ▸ (List.mem_filter.mp hm).1)).2
      rcases h.list w mem with hl | hl <;> simp [WaitRecord.waitsOn, hl] at hon
    · unfold stageOneRemove
      dsimp only
      split
      · exact gone _ (State.dismiss_waits _ _ _)
      · exact gone _ (State.removeWaiter_waits _ _)
  · next hw =>
    have clear := State.clearOf_of_waiterOf hw
    split
    · next r _ =>
      have waits := x.state.complete_waits ⟨p, r.tag, r.gen⟩ r.request.code (.refuse .cancelled)
      exact ⟨by rw [waits], fun w hm => clear w (waits ▸ hm)⟩
    · exact ⟨.refl _, clear⟩

/-- After stage 1 has gone through the tags of a list, no wait record carries one of them. -/
theorem stageOneTags_waits (p : Port) (j : TeardownJob) (ts : List Tag) {x : TeardownRun} (h : x.state.WaitsSingly) :
    (ts.foldl (stageOneTag p j) x).state.waits.Sublist x.state.waits ∧
      ∀ t ∈ ts, (ts.foldl (stageOneTag p j) x).state.clearOf p t := by
  induction ts generalizing x with
  | nil => exact ⟨.refl _, nofun⟩
  | cons t ts ih =>
    obtain ⟨sub, clear⟩ := stageOneTag_waits p j h t
    obtain ⟨sub', clear'⟩ := ih (h.sublist sub)
    refine ⟨sub'.trans sub, fun k hk => ?_⟩
    rcases List.mem_cons.mp hk with rfl | hk
    · exact fun w hw => clear w (sub'.subset hw)
    · exact clear' k hk

/-- Stage 1 for a tag with no request taken off the pending list, after a CLOSE. -/
theorem State.Sound.stageOneTag_untaken {p : Port} {j : TeardownJob} {x : TeardownRun} {hand : List Sender}
    {phase : Port → Phase} (h : x.state.Sound hand phase) (hc : j.cause = .closed) {t : Tag} (ht : j.takenFor t = none) :
    (stageOneTag p j x t).state.Sound hand phase := by
  unfold stageOneTag
  split
  · next w hw =>
    dsimp only
    split
    · exact h.verify _
    · unfold stageOneRemove
      dsimp only
      rw [if_pos hc]
      exact h.dismiss (State.mem_of_waiterOf hw).1 _
  · rw [ht]
    exact h

/-- Stage 1 for a tag after a lapse, break or forced close: its waiter is not replied, and its request stays in hand. -/
theorem State.Sound.stageOneTag_abrupt {p : Port} {j : TeardownJob} {x : TeardownRun} {hand : List Sender}
    {phase : Port → Phase} (h : x.state.Sound hand phase) (hc : j.cause ≠ .closed) (hj : j.taken = [])
    (hp : ∀ q ∈ hand, q.port = p) (t : Tag) :
    ∃ hand', (stageOneTag p j x t).state.Sound hand' phase ∧ ∀ q ∈ hand', q.port = p := by
  unfold stageOneTag
  split
  · next w hw =>
    obtain ⟨mem, hport, -⟩ := State.mem_of_waiterOf hw
    dsimp only
    split
    · exact ⟨hand, h.verify _, hp⟩
    · unfold stageOneRemove
      dsimp only
      rw [if_neg hc]
      exact ⟨_, h.removeWaiter mem, List.forall_mem_cons.mpr ⟨hport, hp⟩⟩
  · have none : j.takenFor t = none := by simp [TeardownJob.takenFor, hj]
    rw [none]
    exact ⟨hand, h, hp⟩

/-- Requests of one port as their senders. -/
def sendersAt (p : Port) (keys : List (Tag × Gen)) : List Sender := keys.map fun k => ⟨p, k.1, k.2⟩

theorem keysAt_sendersAt (p : Port) (keys : List (Tag × Gen)) : keysAt p (sendersAt p keys) = keys := by
  induction keys with
  | nil => rfl
  | cons k keys ih => exact (keysAt_cons_same ⟨p, k.1, k.2⟩ _).trans (congrArg (k :: ·) ih)

theorem keysAt_sendersAt_ne {p p' : Port} (h : p ≠ p') (keys : List (Tag × Gen)) : keysAt p' (sendersAt p keys) = [] := by
  induction keys with
  | nil => rfl
  | cons k keys ih => exact (keysAt_cons_ne h _).trans ih

/-- What a CLOSE's teardown job still has in hand while stage 1 has the tags of a list before it. -/
def TeardownJob.inHand (j : TeardownJob) (ts : List Tag) : List (Tag × Gen) :=
  j.closing.toList ++ (j.taken.filter (fun r => r.tag ∈ ts)).map PendingRequest.key

theorem TeardownJob.inHand_cons (j : TeardownJob) {t : Tag} {ts : List Tag} (h : t ∉ ts) :
    (j.inHand (t :: ts)).Perm ((j.taken.filter (fun r => r.tag == t)).map PendingRequest.key ++ j.inHand ts) := by
  have split := List.filter_append_perm (fun r : PendingRequest => r.tag == t) (j.taken.filter (fun r => r.tag ∈ t :: ts))
  rw [List.filter_filter, List.filter_filter] at split
  have own : j.taken.filter (fun r => r.tag == t && decide (r.tag ∈ t :: ts)) = j.taken.filter (fun r => r.tag == t) :=
    List.filter_congr fun r _ => by by_cases hr : r.tag = t <;> simp [hr]
  have others : j.taken.filter (fun r => !(r.tag == t) && decide (r.tag ∈ t :: ts)) =
      j.taken.filter (fun r => r.tag ∈ ts) :=
    List.filter_congr fun r _ => by by_cases hr : r.tag = t <;> simp [hr, h]
  rw [own, others] at split
  unfold TeardownJob.inHand
  have := (split.symm.map PendingRequest.key).append_left j.closing.toList
  rw [List.map_append] at this
  exact this.trans (by
    rw [← List.append_assoc, ← List.append_assoc]
    exact List.perm_append_comm.append_right _)

/-- Stage 1 for a tag after a CLOSE: its waiter or the request taken off the pending list is replied (R139). -/
theorem State.Sound.stageOneTag_close {p : Port} {j : TeardownJob} {x : TeardownRun} {phase : Port → Phase} {t : Tag}
    {ts : List Tag} (h : x.state.Sound (sendersAt p (j.inHand (t :: ts))) phase) (hc : j.cause = .closed)
    (ht : t ∉ ts) : (stageOneTag p j x t).state.Sound (sendersAt p (j.inHand ts)) phase := by
  have hs := h.perm ((j.inHand_cons ht).map _)
  rw [List.map_append] at hs
  have found : j.takenFor t = (j.taken.filter (fun r => r.tag == t)).head? := (List.head?_filter).symm
  have tags : ∀ r ∈ j.taken.filter (fun r => r.tag == t), r.tag = t := fun r hr =>
    beq_iff_eq.mp (List.mem_filter.mp hr).2
  generalize j.taken.filter (fun r => r.tag == t) = rs at hs found tags
  cases rs with
  | nil => exact hs.stageOneTag_untaken hc found
  | cons r rs =>
    obtain rfl : r.tag = t := tags r List.mem_cons_self
    have hr : x.state.Sound (⟨p, r.tag, r.gen⟩ :: (sendersAt p (rs.map PendingRequest.key ++ j.inHand ts))) phase := by
      unfold sendersAt
      rw [List.map_append]
      exact hs
    obtain ⟨-, waits, -, -, rest⟩ := hr.hand_port.in_hand
    have none : x.state.waiterOf p r.tag = none := State.waiterOf_eq_none waits
    have only : rs = [] := by
      cases rs with
      | nil => rfl
      | cons r' rs =>
        have same : r'.tag = r.tag := tags r' (by simp)
        rw [keysAt_sendersAt] at rest
        simp [PendingRequest.key, same] at rest
    subst only
    unfold stageOneTag
    rw [none, found]
    exact hr.complete _ _

/-! ### The stages (R138) -/

@[simp] theorem teardownAt_same (p : Port) (phase : Phase) : teardownAt p phase p = phase := if_pos rfl

theorem teardownAt_ne {p p' : Port} (h : p' ≠ p) (phase : Phase) : teardownAt p phase p' = .idle := if_neg h

theorem mem_allTags (t : Tag) : t ∈ allTags := by
  revert t
  decide

/-- What stage 1 leaves in the hand of a teardown job: the CLOSE itself, or, after any other end, requests of the port
that nobody will be replied to (R139). -/
def TeardownJob.leaves (j : TeardownJob) (p : Port) (hand : List Sender) : Prop :=
  match j.closing with
  | some (t, g) => hand = [⟨p, t, g⟩]
  | none => ∀ q ∈ hand, q.port = p

/-- What a teardown job says of its own end: a CLOSE exactly for cause CLOSED, and nothing taken off without one
(R138). -/
structure TeardownJob.Coherent (j : TeardownJob) : Prop where
  closing : j.closing.isSome = true ↔ j.cause = .closed
  taken : j.closing = none → j.taken = []

/-- The tags of stage 1 one after another leave the law, with fewer requests in hand after a CLOSE. -/
theorem stageOneTags_sound {p : Port} {j : TeardownJob} (hj : j.Coherent) {x : TeardownRun} {phase : Port → Phase}
    (h : x.state.Sound (sendersAt p j.asked) phase) :
    ∃ hand, (allTags.foldl (stageOneTag p j) x).state.Sound hand phase ∧ j.leaves p hand := by
  cases hc : j.closing with
  | none =>
    have abrupt : j.cause ≠ .closed := fun hcause => by simpa [hc] using hj.closing.mpr hcause
    have untaken := hj.taken hc
    have asked : j.asked = [] := by simp [TeardownJob.asked, hc, untaken]
    obtain ⟨hand, hs, hp⟩ := List.foldlRecOn (motive := fun y : TeardownRun =>
      ∃ hand, y.state.Sound hand phase ∧ ∀ q ∈ hand, q.port = p) allTags (stageOneTag p j)
      ⟨_, h, by rw [asked]; nofun⟩ fun y ⟨_, hs, hp⟩ t _ => hs.stageOneTag_abrupt abrupt untaken hp t
    refine ⟨hand, hs, ?_⟩
    unfold TeardownJob.leaves
    rw [hc]
    exact hp
  | some k =>
    have closed : j.cause = .closed := hj.closing.mp (by rw [hc]; rfl)
    have tags : ∀ ts : List Tag, ts.Nodup → ∀ y : TeardownRun, y.state.Sound (sendersAt p (j.inHand ts)) phase →
        (ts.foldl (stageOneTag p j) y).state.Sound (sendersAt p (j.inHand [])) phase := by
      intro ts
      induction ts with
      | nil => exact fun _ y hy => hy
      | cons t ts ih =>
        intro hn y hy
        obtain ⟨ht, hn⟩ := List.nodup_cons.mp hn
        exact ih hn _ (hy.stageOneTag_close closed ht)
    have all : j.inHand allTags = j.asked := by
      unfold TeardownJob.inHand TeardownJob.asked
      rw [List.filter_eq_self.mpr fun r _ => decide_eq_true (mem_allTags r.tag)]
    have last : sendersAt p (j.inHand []) = [⟨p, k.1, k.2⟩] := by simp [TeardownJob.inHand, sendersAt, hc]
    refine ⟨_, tags allTags (by decide) x (all ▸ h), ?_⟩
    unfold TeardownJob.leaves
    rw [hc, last]

/-- The wait records of the port are all gone. -/
theorem State.Sound.drained {s : State} {p : Port} {hand : List Sender} (h : s.Sound hand (teardownAt p .clearing))
    (hw : ∀ t, s.clearOf p t) : s.Sound hand (teardownAt p .cleared) := by
  refine ⟨fun p' => ?_, h.list⟩
  have hp := h.port p'
  by_cases hne : p' = p
  · subst hne
    have none : keysAt p' s.waiters = [] := keysAt_eq_nil fun q hq hport => by
      obtain ⟨w, hw', rfl⟩ := List.mem_map.mp hq
      exact hw _ w hw' hport rfl
    rw [teardownAt_same] at hp ⊢
    exact hp.drained none
  · rwa [teardownAt_ne hne] at hp ⊢

/-- Stage 1 clears the port's wait records away (R139, R140). -/
theorem stageOne_sound {p : Port} {j : TeardownJob} (hj : j.Coherent) {x : TeardownRun}
    (h : x.state.Sound (sendersAt p j.asked) (teardownAt p .clearing)) :
    ∃ hand, (stageOne p j x).state.Sound hand (teardownAt p .cleared) ∧ j.leaves p hand := by
  obtain ⟨hand, hs, hl⟩ := stageOneTags_sound hj h
  have drained := hs.drained fun t => (stageOneTags_waits p j allTags h.waitsSingly).2 t (mem_allTags t)
  exact ⟨hand, List.foldlRecOn (motive := fun s : State => s.Sound hand _) _ _ drained fun s hs i _ => hs.scan i, hl⟩

theorem stageTwo_sound {x : TeardownRun} {hand : List Sender} {phase : Port → Phase} (h : x.state.Sound hand phase)
    (ending : SessionId) : (stageTwo ending x).state.Sound hand phase := by
  refine List.foldlRecOn (motive := fun y : TeardownRun => y.state.Sound hand phase) _ _ h fun y hy i _ => ?_
  unfold stageTwoSlot
  split
  · split
    · split
      · split
        · exact hy.quarantine _ _
        · exact hy.abandonLock _ _
      · exact hy
    · exact hy
  · exact hy

theorem stageThree_sound {x : TeardownRun} {hand : List Sender} {phase : Port → Phase} (h : x.state.Sound hand phase)
    (ending : SessionId) : (stageThree ending x).state.Sound hand phase := by
  refine List.foldlRecOn (motive := fun y : TeardownRun => y.state.Sound hand phase) _ _ h fun y hy i _ => ?_
  unfold stageThreeSlot
  split
  · split
    · exact ((hy.verify i).deleteObject i).poolServiceIf _
    · exact hy
  · exact hy

theorem stageFour_sound {x : TeardownRun} {hand : List Sender} {phase : Port → Phase} (h : x.state.Sound hand phase) :
    (stageFour x).state.Sound hand phase := h.poolServiceIf x.due

theorem stageFive_sound {x : TeardownRun} {hand : List Sender} {phase : Port → Phase} (h : x.state.Sound hand phase)
    (ending : SessionId) (cause : EndCause) : (stageFive ending cause x).state.Sound hand phase := by
  cases cause with
  | lapsed | broken | forced => exact h.of_same (State.appendAlert_ports _ _) (State.appendAlert_waits _ _)
  | closed | none => exact h

/-- Once the port's wait records are cleared away nothing of it waits. -/
theorem State.Sound.settled {s : State} {p : Port} {hand : List Sender} (h : s.Sound hand (teardownAt p .cleared)) :
    s.Sound hand quiet := by
  refine ⟨fun p' => ?_, h.list⟩
  have hp := h.port p'
  by_cases hne : p' = p
  · subst hne
    rw [teardownAt_same] at hp
    exact hp.settled
  · rwa [teardownAt_ne hne] at hp

/-- Stage 6: the CLOSE is replied, or the session is CLOSED at once (R144). -/
theorem stageSix_sound {p : Port} {j : TeardownJob} (hj : j.Coherent) {x : TeardownRun} {hand : List Sender}
    (h : x.state.Sound hand (teardownAt p .cleared)) (hl : j.leaves p hand)
    (hs : (x.state.port p).session.state = .closing) (hc : (x.state.port p).session.cause = j.cause)
    (ht : (x.state.port p).teardown = none) : (stageSix p j x).Sound [] quiet := by
  have hp := h.port p
  rw [teardownAt_same] at hp
  have waits : keysAt p x.state.waiters = [] := hp.parted (by simp [hs]) ht nofun
  unfold stageSix
  unfold TeardownJob.leaves at hl
  split
  · next t g hclosing =>
    rw [hclosing] at hl
    rw [hl] at h
    exact h.settled.completeFor (fun _ => ⟨hs, ht, waits, rfl, rfl⟩) _ _
  · next hclosing =>
    rw [hclosing] at hl
    have abrupt : j.cause ≠ .closed := fun hcause => by simpa [hclosing] using hj.closing.mpr hcause
    have no_reply : ∀ f ∈ (x.state.port p).queue, f.purpose ≠ .closeReply := fun f hf hr =>
      absurd (hp.answered ⟨f, hf, hr⟩).2.2 nofun
    have closed := PortState.Sound.becomeClosed hp.law hs ht fun f hf =>
      ⟨hp.untagged hs (by rwa [hc]) f hf, no_reply f hf⟩
    refine State.Sound.setPort h.settled (waits ▸ closed) fun p' hne => ?_
    exact (keysAt_eq_nil fun q hq => by rwa [hl q hq]).symm

/-- The teardown job runs its stages and leaves nothing in hand (R138). -/
theorem jobTeardown_sound {s : State} {p : Port} {j : TeardownJob} (hj : j.Coherent)
    (h : s.Sound (sendersAt p j.asked) (teardownAt p .clearing)) (hs : (s.port p).session.state = .closing)
    (hc : (s.port p).session.cause = j.cause) (ht : (s.port p).teardown = none) :
    (jobTeardown p j s).Sound [] quiet := by
  obtain ⟨hand, hone, hl⟩ := stageOne_sound hj (x := ⟨s, 0, 0, 0, [], false⟩) h
  have two := stageTwo_sound hone ⟨p, j.number⟩
  have three := stageThree_sound two ⟨p, j.number⟩
  have five := stageFive_sound (stageFour_sound three) ⟨p, j.number⟩ j.cause
  have ports := ((((stageOne_portsContinue p j ⟨s, 0, 0, 0, [], false⟩).trans (stageTwo_portsContinue ⟨p, j.number⟩ _)).trans
    (stageThree_portsContinue ⟨p, j.number⟩ _)).trans (stageFour_continues _).portsContinue).trans
    (stageFive_continues ⟨p, j.number⟩ j.cause _).portsContinue
  have port := ports p
  exact stageSix_sound hj five hl (by rw [port.session]; exact hs) (by rw [port.session]; exact hc)
    (by rw [port.teardown]; exact ht)

/-! ### The commands -/

namespace State.Sound

variable {s : State}

theorem runJob {body : State → State} {hand : List Sender} (h : (body s).Sound hand quiet) :
    (runJob body s).Sound hand quiet := by
  rw [runJob_eq_endsJob]
  exact h.of_same (State.endsJob_ports _ _) (State.endsJob_waits _ _)

/-- The request that the arbiter takes is in the hand of its job, and its port's session is OPEN (R1). -/
theorem takeRequest (h : s.Sound [] quiet) {q : Sender} {r : Request}
    (hn : s.nextJob = some (.request q.port ⟨q.tag, q.gen, r⟩)) :
    (s.takeRequest q.port).Sound [q] quiet ∧ ((s.takeRequest q.port).port q.port).session.state = .opened := by
  obtain ⟨rest, hr⟩ := List.head?_eq_some_iff.mp (State.head_of_nextJob hn)
  have hp := h.port q.port
  constructor
  · have taken := hp.requestTaken hr
    refine State.Sound.of_same (s := s.setPort q.port { s.port q.port with requests := rest }) ?_ ?_ rfl
    · refine h.setPort ?_ fun p hne => keysAt_cons_ne hne _
      rw [keysAt_cons_same]
      exact taken
    · unfold State.takeRequest
      rw [hr]
      rfl
  · rw [State.takeRequest_session]
    obtain ⟨-, requests, -⟩ := hp.law
    by_contra ho
    rw [requests ho] at hr
    cases hr

theorem requestJob (h : s.Sound [] quiet) (q : Sender) {r : Request} (hr : isStoreJob r = true) :
    (requestJob q r (Machine.storeJob q r) s).Sound [] quiet := by
  unfold Machine.requestJob
  split
  · next hn =>
    obtain ⟨taken, ho⟩ := h.takeRequest hn
    exact State.Sound.runJob (taken.storeJob ho hr)
  · exact h

theorem takeExpiryJob (h : s.Sound [] quiet) : (takeExpiryJob s).Sound [] quiet := by
  unfold Machine.takeExpiryJob
  split
  · exact State.Sound.runJob (State.Sound.jobExpiry (s := s.takeExpiry) (h.of_same rfl rfl) _)
  · exact h

/-- A teardown job is taken with its requests in hand, and runs (R1, R138). -/
theorem takeTeardownJob (h : s.Sound [] quiet) (p : Port) : (takeTeardownJob p s).Sound [] quiet := by
  unfold Machine.takeTeardownJob
  split
  · next p' j hn =>
    split
    · next hp =>
      subst hp
      have hj := State.teardown_of_nextJob hn
      have hp := h.port p'
      obtain ⟨-, hcause, hclosing, htaken⟩ := hp.job j hj
      obtain ⟨-, -, job, -⟩ := hp.law
      have port : (s.takeTeardown p').port p' = { s.port p' with teardown := none } := s.port_setPort_same p' _
      have taken : (s.takeTeardown p').Sound (sendersAt p' j.asked) (teardownAt p' .clearing) := by
        refine ⟨fun k => ?_, h.list⟩
        by_cases hk : k = p'
        · subst hk
          rw [port, teardownAt_same, keysAt_sendersAt]
          have := hp.teardownTaken hj
          rwa [keysAt_nil, List.append_nil] at this
        · rw [teardownAt_ne hk, keysAt_sendersAt_ne (Ne.symm hk)]
          have same : (s.takeTeardown p').port k = s.port k := s.port_setPort_ne _ (Ne.symm hk)
          rw [same]
          exact h.port k
      refine State.Sound.runJob (jobTeardown_sound ⟨hclosing, htaken⟩ taken ?_ ?_ ?_) <;> rw [port]
      · exact job (by simp [hj])
      · exact hcause.symm
    · exact h
  · exact h

end State.Sound

/-- A command that acts while RESETN is high keeps the law where its effect does. -/
theorem perform_sound {f : State → State} {s t : State} (hs : s.Sound [] quiet) (hf : (f s).Sound [] quiet)
    (ht : perform f s = .next t) : t.Sound [] quiet := by
  obtain ⟨u, hu, hcases⟩ := perform_next f s
  obtain rfl : u = t := Host.Outcome.next.inj (hu.symm.trans ht)
  rcases hcases with rfl | rfl
  · exact hs
  · exact hf

/-- A request that the port unit answers itself. -/
theorem exec_portCommand_sound {c : Instr} {q : Sender} {r : Request} {s t : State} (hc : c.request? = some (q, r))
    (hr : isStoreJob r = false) (hs : s.Sound [] quiet) (ht : exec c s = .next t) : t.Sound [] quiet := by
  cases c <;> cases hc <;> cases hr
  case nop | identify | queryTags | closeSession => exact perform_sound hs (hs.decodeRequest q _) ht
  case openSession silence label =>
    refine perform_sound (f := fun s => if label.fits then decodeRequest q (.openSession silence label) s
      else (s.restartTimer q.port).refusePort q RequestCode.openSession.byte (.refuse .badRequest)) hs ?_ ht
    split
    · exact hs.decodeRequest q _
    · exact (hs.restartTimer q.port).refusePort _ _ _

/-- Every command keeps the law. -/
theorem exec_sound {c : Instr} {s t : State} (hs : s.Sound [] quiet) (ht : exec c s = .next t) : t.Sound [] quiet := by
  cases hc : c.request? with
  | some x =>
    obtain ⟨q, r⟩ := x
    cases hr : isStoreJob r with
    | true =>
      rw [exec_storeCommand hc hr] at ht
      exact perform_sound hs (hs.requestJob q hr) ht
    | false => exact exec_portCommand_sound hc hr hs ht
  | none =>
    cases c with
    | supplyPowerUp | powerOnReset =>
      cases ht
      exact State.resetPart_sound _
    | frameReceived p b => exact perform_sound hs (hs.receiveLastByte p b) ht
    | gapError p => exact perform_sound hs (hs.gapExpires p) ht
    | lineBreak p => exact perform_sound hs (hs.reportBreak p) ht
    | deadlineDue | timebaseTick => exact perform_sound hs (hs.of_same rfl rfl) ht
    | expiryJob => exact perform_sound hs hs.takeExpiryJob ht
    | lapse p => exact perform_sound hs (hs.lapsePort p) ht
    | teardown p => exact perform_sound hs (hs.takeTeardownJob p) ht
    | transmitStart p => exact perform_sound hs (hs.startTransmit p) ht
    | frameSent p => exact perform_sound hs (hs.finishTransmit p) ht
    | characterReceived p b => exact perform_sound hs (hs.receiveCharacter p b) ht
    | inputLevelChange pin level =>
      cases ht
      exact hs.changePin pin level
    | _ => cases hc

/-- Settles O60: the law is that of a part in which no job runs, and every command keeps it, job by job. -/
theorem waitLawIsKept : Obligations.WaitLawIsKept := by
  intro s t h ht
  rw [State.waitLaw_iff_sound] at h ⊢
  unfold step at ht
  split at ht
  · cases ht
    exact h
  · next c rest _ =>
    have popped : State.Sound { s with pending := rest } [] quiet := h.of_same rfl rfl
    exact exec_sound popped ht

end Sys2Proof.Machine
end

section
/-! PROOFS. The relations of a guard (O33), and the deadline list and the timebase (O5). -/

namespace Sys2Proof.Machine

/-! ### Guards (R42) -/

/-- What a word masked is, bit by bit. -/
theorem and_eq_iff_getLsbD (v x y : Word) :
    v &&& x = y ↔ ∀ i < 32, (v.getLsbD i && x.getLsbD i) = y.getLsbD i := by
  constructor
  · rintro rfl i -
    rw [BitVec.getLsbD_and]
  · intro h
    refine BitVec.eq_of_getLsbD_eq fun i hi => ?_
    rw [BitVec.getLsbD_and, h i hi]

theorem and_eq_mask_iff (v x : Word) : v &&& x = x ↔ ∀ i < 32, x.getLsbD i = true → v.getLsbD i = true := by
  rw [and_eq_iff_getLsbD]
  refine forall₂_congr fun i _ => ?_
  cases x.getLsbD i <;> simp

theorem and_eq_zero_iff (v x : Word) : v &&& x = 0#32 ↔ ∀ i < 32, x.getLsbD i = true → v.getLsbD i = false := by
  rw [and_eq_iff_getLsbD]
  refine forall₂_congr fun i _ => ?_
  cases x.getLsbD i <;> simp

theorem and_ne_zero_iff (v x : Word) : v &&& x ≠ 0#32 ↔ ∃ i < 32, x.getLsbD i = true ∧ v.getLsbD i = true := by
  rw [ne_eq, and_eq_zero_iff]
  push Not
  simp only [ne_eq, Bool.not_eq_false]

/-- Settles O33: the signed relations compare two's complement values, the unsigned ones natural numbers, and the mask
relations go bit by bit. -/
theorem guardRelations : Obligations.GuardRelations := by
  intro v x
  refine ⟨rfl, ?eq, ?ne, ?lt, ?le, ?gt, ?ge, ?ltu, ?geu, ?allset, ?anyset, ?allclear⟩
  case eq => exact beq_iff_eq
  case ne => exact bne_iff_ne
  case lt => exact BitVec.slt_iff_toInt_lt
  case le => exact BitVec.sle_iff_toInt_le
  case gt => exact BitVec.slt_iff_toInt_lt
  case ge => exact BitVec.sle_iff_toInt_le
  case ltu => exact BitVec.ult_iff_toNat_lt
  case geu => exact BitVec.ule_iff_toNat_le
  case allset => exact beq_iff_eq.trans (and_eq_mask_iff v x)
  case anyset => exact bne_iff_ne.trans (and_ne_zero_iff v x)
  case allclear => exact beq_iff_eq.trans (and_eq_zero_iff v x)

/-! ### The deadline list (R56, R57) -/

/-- Where an entry stands in the order of the list, counted from a base time: by time, then port, then tag. -/
def DeadlineEntry.rank (base : Word) (e : DeadlineEntry) : Nat :=
  ((e.time - base).toNat * 8 + e.sender.port.val) * 4 + e.sender.tag.val

section
variable {base : Word} {x y : DeadlineEntry} (hx : (x.time - base).toNat ≤ 2147483647)
  (hy : (y.time - base).toNat ≤ 2147483647)

/-- Of two times within half the range of a base, the earlier one lies nearer to the base. -/
theorem earlier_iff {t u : Word} (ht : (t - base).toNat ≤ 2147483647) (hu : (u - base).toNat ≤ 2147483647) :
    earlier t u = true ↔ (t - base).toNat < (u - base).toNat := by
  unfold earlier
  simp only [Bool.and_eq_true, decide_eq_true_eq]
  bv_omega

theorem sub_toNat_inj (t u : Word) : (t - base).toNat = (u - base).toNat ↔ t = u := by
  bv_omega

include hx hy

theorem DeadlineEntry.before_iff : x.before y = true ↔ x.rank base < y.rank base := by
  have ports := x.sender.port.isLt
  have ports' := y.sender.port.isLt
  have tags := x.sender.tag.isLt
  have tags' := y.sender.tag.isLt
  unfold DeadlineEntry.before DeadlineEntry.rank
  simp only [Bool.or_eq_true, Bool.and_eq_true, beq_iff_eq, decide_eq_true_eq, earlier_iff hx hy,
    ← sub_toNat_inj (base := base) x.time y.time, Fin.lt_def, Fin.ext_iff]
  omega

theorem DeadlineEntry.notAfter_iff : x.notAfter y ↔ x.rank base ≤ y.rank base := by
  have ports := x.sender.port.isLt
  have ports' := y.sender.port.isLt
  have tags := x.sender.tag.isLt
  have tags' := y.sender.tag.isLt
  have times : x.time ≠ y.time ∧ (y.time - x.time).toNat ≤ 2147483647 ↔
      (x.time - base).toNat < (y.time - base).toNat := by
    bv_omega
  unfold DeadlineEntry.notAfter DeadlineEntry.rank
  rw [times]
  simp only [← sub_toNat_inj (base := base) x.time y.time, Fin.lt_def, Fin.le_def, Fin.ext_iff]
  omega

end

/-- An entry takes its place in a list in order. -/
theorem insertDeadline_pairwise {base : Word} (x : DeadlineEntry) (l : List DeadlineEntry)
    (near : ∀ e ∈ x :: l, (e.time - base).toNat ≤ 2147483647) (sorted : l.Pairwise DeadlineEntry.notAfter) :
    (insertDeadline x l).Pairwise DeadlineEntry.notAfter := by
  induction l with
  | nil => exact List.pairwise_singleton _ _
  | cons y ys ih =>
    obtain ⟨hx, hy, hys⟩ : _ ∧ _ ∧ ∀ e ∈ ys, _ := by simpa only [List.forall_mem_cons] using near
    obtain ⟨first, rest⟩ := List.pairwise_cons.mp sorted
    unfold insertDeadline
    split
    next hb =>
      have hxy := (DeadlineEntry.before_iff hx hy).mp hb
      refine List.pairwise_cons.mpr ⟨fun e he => (DeadlineEntry.notAfter_iff hx (near e (.tail _ he))).mpr ?_, sorted⟩
      rcases List.mem_cons.mp he with rfl | he
      · exact hxy.le
      · exact hxy.le.trans ((DeadlineEntry.notAfter_iff hy (hys e he)).mp (first e he))
    next hb =>
      have hyx := Nat.le_of_not_lt ((DeadlineEntry.before_iff hx hy).not.mp hb)
      refine List.pairwise_cons.mpr ⟨fun e he => ?_, ih (List.forall_mem_cons.mpr ⟨hx, hys⟩) rest⟩
      rcases List.mem_cons.mp ((insertDeadline_perm x ys).mem_iff.mp he) with rfl | he
      · exact (DeadlineEntry.notAfter_iff hy hx).mpr hyx
      · exact first e he

/-! ### The timebase and the deadline unit (R56, R58) -/

theorem exec_deadlineDue {s : State} (h : s.resetn = .mark) : exec .deadlineDue s = .next (presentExpiry s) :=
  perform_running presentExpiry h

/-- The deadline unit leaves the state alone where its examination finds nothing to present. -/
theorem presentExpiry_eq_self {s : State}
    (h : examineDeadlines s.timebase s.expiry s.deadlines = (s.expiry, s.deadlines)) : presentExpiry s = s := by
  unfold presentExpiry
  rw [h]

/-- Settles O5: an entry takes its place by its rank, and the deadline unit does what its examination of the list
finds. -/
theorem timebaseTickAndDeadlineDue : Obligations.TimebaseTickAndDeadlineDue := by
  refine ⟨fun x l => ⟨insertDeadline_perm x l, fun base => insertDeadline_pairwise x l⟩, fun s hs => ?_⟩
  rw [exec_deadlineDue hs]
  refine ⟨perform_running _ hs, fun e rest hexp hl => ⟨fun due => ?_, fun early => ?_⟩, fun q hexp => ?_, fun hl => ?_⟩
  · unfold presentExpiry
    rw [hexp, hl, examineDeadlines_due rest due]
  · rw [presentExpiry_eq_self (by rw [hexp, hl, examineDeadlines_early rest early])]
  · rw [presentExpiry_eq_self (by rw [hexp, examineDeadlines_some])]
  · rw [presentExpiry_eq_self (by rw [hl, examineDeadlines_nil])]

end Sys2Proof.Machine
end

section
/-! PROOFS. What a scan of a cell leaves: no waiter that a PASSING cell could serve, no head that a STRICT cell could
serve, and all but the cell, its list and the ports as it was (O36). -/

namespace Sys2Proof.Machine

/-! ### A pass that serves nobody (R50) -/

/-- A pass that has served goes on as one that has served. -/
theorem scanPassRecord_served {i : SlotNo} {x : State × Bool} (h : x.2 = true) (w : WaitRecord) :
    (scanPassRecord i x w).2 = true := by
  rcases scanPassRecord_cases i x w with hx | ⟨r, v, order, op, -, -, hx⟩
  · rw [hx, h]
  · rw [hx]

/-- A pass that ends without having served found every record of its list as it began, and left it so. -/
theorem foldl_scanPassRecord_idle {i : SlotNo} (ws : List WaitRecord) (x : State × Bool)
    (h : (ws.foldl (scanPassRecord i) x).2 = false) :
    ws.foldl (scanPassRecord i) x = x ∧ ∀ w ∈ ws, scanPassRecord i x w = x := by
  induction ws with
  | nil => exact ⟨rfl, nofun⟩
  | cons w ws ih =>
    rw [List.foldl_cons] at h ⊢
    rcases scanPassRecord_cases i x w with hx | ⟨r, v, order, op, -, -, hx⟩
    · rw [hx] at h ⊢
      obtain ⟨same, idle⟩ := ih h
      exact ⟨same, List.forall_mem_cons.mpr ⟨hx, idle⟩⟩
    · have served : (ws.foldl (scanPassRecord i) (scanPassRecord i x w)).2 = true :=
        List.foldlRecOn (motive := fun x : State × Bool => x.2 = true) ws (scanPassRecord i) (by rw [hx])
          fun x hx w _ => scanPassRecord_served hx w
      rw [served] at h
      cases h

theorem scanPass_idle {s t : State} {i : SlotNo} (h : scanPass i s = (t, false)) :
    t = s ∧ ∀ w ∈ s.waitList (.object i), scanPassRecord i (s, false) w = (s, false) := by
  obtain ⟨same, idle⟩ := foldl_scanPassRecord_idle (s.waitList (.object i)) (s, false) (congrArg Prod.snd h)
  exact ⟨congrArg Prod.fst (h.symm.trans same), idle⟩

/-- A scan of a PASSING cell ends with a pass that serves nobody. -/
theorem scanPass_scan {s : State} {i : SlotNo} (h : s.cellAt i .passing) :
    scanPass i (s.scan i) = (s.scan i, false) := by
  obtain ⟨n, hn⟩ : ∃ n, (s.waitList (.object i)).length = n := ⟨_, rfl⟩
  induction n using Nat.strong_induction_on generalizing s with
  | _ n ih =>
    cases hpass : scanPass i s with
    | mk t served =>
      rw [State.scan_pass h hpass]
      cases served with
      | false =>
        obtain ⟨rfl, -⟩ := scanPass_idle hpass
        exact hpass
      | true =>
        have cell : t.cellAt i .passing := by simpa only [hpass] using scanPass_cellAt h
        exact ih _ (hn ▸ scanPass_waitList_lt hpass) cell rfl

/-! ### The head of a STRICT list (R49) -/

/-- A STRICT scan serves the head of its list, or stops there because the guard of that waiter does not hold. -/
theorem scanStrict_cons_cases (i : SlotNo) (w : WaitRecord) (ws : List WaitRecord) (s : State) :
    (∃ r v order op, s.object i = some r ∧ r.part = .cell v order ∧
      scanStrict i (w :: ws) s = scanStrict i ws (s.serveCellWaiter i r v order w op)) ∨
    (scanStrict i (w :: ws) s = s ∧ ∀ r v order op g, s.object i = some r → r.part = .cell v order →
      w.request = .cell op g → guardHolds g v = false) := by
  by_cases h : ∃ r v order op g, s.object i = some r ∧ r.part = .cell v order ∧ w.request = .cell op g ∧
    guardHolds g v = true
  · obtain ⟨r, v, order, op, g, ho, hp, hr, hg⟩ := h
    exact .inl ⟨r, v, order, op, ho, hp, (scanStrict_cons ho hp hr ws).trans (if_pos hg)⟩
  · have fails : ∀ r v order op g, s.object i = some r → r.part = .cell v order → w.request = .cell op g →
        guardHolds g v = false := fun r v order op g ho hp hr =>
      Bool.eq_false_iff.mpr fun hg => h ⟨r, v, order, op, g, ho, hp, hr, hg⟩
    refine .inr ⟨?_, fails⟩
    rw [scanStrict]
    split
    · next r op g ho hr =>
      split
      · next v order hp => rw [if_neg (Bool.eq_false_iff.mp (fails r v order op g ho hp hr))]
      · rfl
    · rfl

/-- A scan of a STRICT cell leaves at the head of the list no waiter whose guard holds. -/
theorem scanStrict_head {i : SlotNo} {order : Order} {v : Word} {r : ObjectRecord} {w : WaitRecord} {op : CellOp}
    {g : Guard} (ws : List WaitRecord) (s : State) (hws : s.waitList (.object i) = ws)
    (ho : (scanStrict i ws s).object i = some r) (hp : r.part = .cell v order)
    (hw : ((scanStrict i ws s).waitList (.object i)).head? = some w) (hr : w.request = .cell op g) :
    guardHolds g v = false := by
  induction ws generalizing s with
  | nil =>
    rw [scanStrict, hws] at hw
    cases hw
  | cons w' ws ih =>
    rcases scanStrict_cons_cases i w' ws s with ⟨r', v', order', op', -, -, serve⟩ | ⟨stop, fails⟩
    · rw [serve] at ho hw
      exact ih _ (by rw [State.serveCellWaiter_waitList, hws, List.erase_cons_head]) ho hw
    · rw [stop] at ho hw
      rw [hws] at hw
      obtain rfl : w' = w := Option.some.inj hw
      exact fails r v order op g ho hp hr

/-! ### The scan (R49, R50) -/

theorem State.cellAt_inj {s : State} {i : SlotNo} {order order' : Order} (h : s.cellAt i order)
    (h' : s.cellAt i order') : order = order' := by
  obtain ⟨v, hv⟩ := h
  obtain ⟨v', hv'⟩ := h'
  exact (KindPart.cell.inj (Option.some.inj (hv.symm.trans hv'))).2

theorem scanStrict_cellAt {i : SlotNo} {order : Order} (ws : List WaitRecord) (s : State) (h : s.cellAt i order) :
    (scanStrict i ws s).cellAt i order := by
  induction ws generalizing s with
  | nil => exact h
  | cons w ws ih =>
    rcases scanStrict_cons_cases i w ws s with ⟨r, v, order', op, ho, hp, serve⟩ | ⟨stop, -⟩
    · obtain rfl := State.cellAt_inj h (State.cellAt_of ho hp)
      rw [serve]
      exact ih _ (State.serveCellWaiter_cellAt _ _ _ _ _ _ _)
    · rw [stop]
      exact h

theorem scanPasses_cellAt {i : SlotNo} {order : Order} (n : Nat) (s : State) (h : s.cellAt i order) :
    (scanPasses i n s).cellAt i order := by
  induction n generalizing s with
  | zero => exact h
  | succ n ih =>
    have pass := scanPass_cellAt h
    rw [scanPasses_succ (t := (scanPass i s).1) (served := (scanPass i s).2) rfl]
    split
    · exact ih _ pass
    · exact pass

/-- A scan of what is no cell does nothing. -/
theorem State.scan_other {s : State} {i : SlotNo} (h : ∀ order, ¬ s.cellAt i order) : s.scan i = s := by
  unfold State.scan
  split
  · next r ho =>
    split
    · next v hp => exact absurd (State.cellAt_of ho hp) (h _)
    · next v hp => exact absurd (State.cellAt_of ho hp) (h _)
    · rfl
  · rfl

/-- A scan keeps the policy of its cell, and makes no cell. -/
theorem State.scan_cellAt_iff (s : State) (i : SlotNo) (order : Order) :
    (s.scan i).cellAt i order ↔ s.cellAt i order := by
  by_cases h : ∃ order', s.cellAt i order'
  · obtain ⟨order', h⟩ := h
    have kept : (s.scan i).cellAt i order' := by
      cases order' with
      | strict => exact State.scan_strict h ▸ scanStrict_cellAt _ s h
      | passing => exact State.scan_passing h ▸ scanPasses_cellAt _ s h
    exact ⟨fun h' => State.cellAt_inj kept h' ▸ h, fun h' => State.cellAt_inj h h' ▸ kept⟩
  · rw [State.scan_other fun order' h' => h ⟨order', h'⟩]

theorem State.scan_of_waitList_nil {s : State} {i : SlotNo} (h : s.waitList (.object i) = []) : s.scan i = s := by
  by_cases hs : s.cellAt i .strict
  · rw [State.scan_strict hs, h, scanStrict]
  · by_cases hp : s.cellAt i .passing
    · have pass : scanPass i s = (s, false) := by rw [scanPass, h, List.foldl_nil]
      rw [State.scan_pass hp pass]
      rfl
    · exact State.scan_other fun order => match order with
        | .strict => hs
        | .passing => hp

/-- Settles O36: a PASSING scan ends with a pass that serves nobody, a STRICT one at a head whose guard does not hold,
and a scan is confined to its cell. -/
theorem scanLeavesNoSatisfiableWaiter : Obligations.ScanLeavesNoSatisfiableWaiter := by
  rintro s i t rfl
  have confined := s.scan_confined i
  have continues := s.scan_continues i
  refine ⟨?passing, ?strict, confined.slot, continues.stamp i, s.scan_queues i, s.scan_free i, s.scan_alerts i,
    confined.sameOutside fun p => (continues.port p).keepsLink, confined.waits, State.scan_of_waitList_nil⟩
  case passing =>
    intro r v ho hp w hw op g hr
    have cell := (s.scan_cellAt_iff i .passing).mp (State.cellAt_of ho hp)
    obtain ⟨-, idle⟩ := scanPass_idle (scanPass_scan cell)
    have left := idle w hw
    rw [scanPassRecord_cell ho hp hr] at left
    refine Bool.eq_false_iff.mpr fun hg => ?_
    rw [if_pos hg] at left
    cases congrArg Prod.snd left
  case strict =>
    intro r v w ho hp hw op g hr
    have cell := (s.scan_cellAt_iff i .strict).mp (State.cellAt_of ho hp)
    rw [State.scan_strict cell] at ho hw
    exact scanStrict_head _ s rfl ho hp hw hr

end Sys2Proof.Machine
end

section
/-! PROOFS. The service of a waiting put, from its queue's own list and from the pool wait list (O42). -/

namespace Sys2Proof.Machine

section
variable {s : State} {i : SlotNo} {w : WaitRecord} {a : QueueAccount} {value : Word} {side : QueueEnd}

/-! ### The service of one put (R69, R73, R79, R86) -/

theorem serveOwnPutter_put (hq : s.queue i = some a) (hw : w.request = .put value side) :
    serveOwnPutter i s w = if a.chain.length < a.limit then
      if s.grantable a then s.grantPut i a w value side else s.moveWaiter w .pool else s := by
  unfold serveOwnPutter
  simp only [hq, hw]
  rfl

theorem poolPassRecord_put {done : Bool} (hq : s.queue w.target.slot = some a) (hw : w.request = .put value side) :
    poolPassRecord (s, done) w = if a.limit ≤ a.chain.length then (s.moveWaiter w (.object w.target.slot), true)
      else if s.grantable a then (s.grantPut w.target.slot a w value side, true) else (s, done) := by
  unfold poolPassRecord
  simp only [hq, hw]
  rfl

/-- A put granted, where its list's record agrees with its check: the record off its list, the entry linked at its end,
and the reply. -/
theorem State.grantPut_eq (h : ∀ j o, w.list = .object j → s.object j = some o → o.check = .agrees) :
    s.grantPut i a w value side = ((s.without w).poolBecomes i { a with
      chain := if side = .head then ⟨value, w.sender.port⟩ :: a.chain else a.chain ++ [⟨value, w.sender.port⟩] }
      (s.free - 1)).complete w.sender .put ⟨.ok, Flags.waited, .depth (a.chain.length + 1)⟩ := by
  unfold State.grantPut
  rw [State.removeWaiter_eq_without h]
  cases side <;> rfl

/-- A list of one object, or of the pool, stands with records that agree where that object's record does. -/
theorem agrees_of_list {r : ObjectRecord} (ho : s.object i = some r) (hc : r.check = .agrees) {l : WaitList}
    (hl : l = .object i ∨ l = .pool) : ∀ j o, l = .object j → s.object j = some o → o.check = .agrees := by
  rintro j o rfl hj
  rcases hl with hl | hl
  · obtain rfl := WaitList.object.inj hl
    rwa [← Option.some.inj (ho.symm.trans hj)]
  · cases hl

theorem State.not_grantable (hres : a.reserve ≤ a.chain.length) (hfree : s.free ≤ s.outstanding) :
    ¬ s.grantable a = true := by
  rw [State.grantable_iff]
  omega

end

/-- Settles O42: at its limit a queue keeps its own putter and takes back one of the pool's; below it a put is granted
where it is grantable, else a putter of the queue's own list moves to the pool's. -/
theorem waitingPutsAreServed : Obligations.WaitingPutsAreServed := by
  refine ⟨fun _ _ => rfl, ?_⟩
  rintro s i w a r value side done hq ho hc hw rfl granted rfl
  refine ⟨fun hl => ?own, fun hl => ?pool⟩
  case own =>
    have agrees := agrees_of_list ho hc (l := w.list) (.inl hl)
    rw [serveOwnPutter_put hq hw]
    refine ⟨fun full => if_neg (by omega), fun room grant => ?_, fun room hres hfree => ?_⟩
    · rw [if_pos room, if_pos ((State.grantable_iff s a).mpr grant), State.grantPut_eq agrees]
    · rw [if_pos room, if_neg (State.not_grantable hres hfree),
        State.moveWaiter_eq agrees (agrees_of_list ho hc (.inr rfl))]
  case pool =>
    have agrees := agrees_of_list ho hc (l := w.list) (.inr hl)
    rw [poolPassRecord_put hq hw]
    refine ⟨fun full => ?_, fun room grant => ?_, fun room hres hfree => ?_⟩
    · rw [if_pos full, State.moveWaiter_eq agrees (agrees_of_list ho hc (.inl rfl))]
    · rw [if_neg (by omega), if_pos ((State.grantable_iff s a).mpr grant), State.grantPut_eq agrees]
    · rw [if_neg (by omega), if_neg (State.not_grantable hres hfree)]

end Sys2Proof.Machine
end

section
/-! PROOFS. The jobs that remove one waiter: the expiry job (O6) and CANCEL (O46). -/

namespace Sys2Proof.Machine

/-! ### The record that a job verifies (R10) -/

theorem State.verify_of_agrees {s : State} {i : SlotNo} {r : ObjectRecord} (ho : s.object i = some r)
    (hc : r.check = .agrees) : s.verify i = ⟨s, false, false⟩ := by
  have passes := ObjectRecord.not_failsCheck (r := r) (.inl hc)
  simp only [State.verify, ho, passes, Bool.false_eq_true, if_false]

theorem State.verify_of_fails {s : State} {i : SlotNo} {r : ObjectRecord} (ho : s.object i = some r)
    (hc : r.check = .fails) (hq : r.quarantined = false) :
    s.verify i = ⟨s.quarantine i r, true, s.quarantineDue i r⟩ := by
  simp only [State.verify, ho, ObjectRecord.failsCheck_of hc hq, if_true]

/-- The end of a job that quarantined an object and changed no free count before pool service (R20, R173). -/
theorem State.endsJob_poolServiceIf {s u : State} {i : SlotNo} {r : ObjectRecord} (hf : u.free = s.free) :
    (¬ s.promisesEntries i r → s.endsJob (u.poolServiceIf (s.quarantineDue i r)) = u) ∧
      (s.promisesEntries i r → s.endsJob (u.poolServiceIf (s.quarantineDue i r)) = s.endsJob u.poolService) := by
  refine ⟨fun h => ?_, fun h => ?_⟩
  · rw [Bool.eq_false_iff.mpr (mt (s.quarantineDue_iff i r).mp h)]
    exact State.endsJob_of_free_le hf.ge
  · rw [(s.quarantineDue_iff i r).mpr h]
    rfl

/-! ### The head of a STRICT cell (R40, R55) -/

theorem State.strictHead_eq_some_iff (s : State) (w : WaitRecord) (i : SlotNo) :
    s.strictHead w = some i ↔ s.isStrictHead w i := by
  unfold State.strictHead
  constructor
  · intro h
    split at h
    · cases h
    · next j hl =>
      split at h
      · next v hp =>
        obtain ⟨r, ho, hp⟩ := Option.map_eq_some_iff.mp hp
        split at h
        · next hh =>
          obtain rfl := Option.some.inj h
          exact ⟨hl, ⟨r, v, ho, hp⟩, hh⟩
        · cases h
      · cases h
  · rintro ⟨hl, ⟨r, v, ho, hp⟩, hh⟩
    simp only [hl, ho, Option.map_some, hp, hh, if_true]

theorem State.scanIf_strictHead (s t : State) (w : WaitRecord) :
    (∀ i, s.isStrictHead w i → t.scanIf (s.strictHead w) = t.scan i) ∧
      ((∀ i, ¬ s.isStrictHead w i) → t.scanIf (s.strictHead w) = t) := by
  refine ⟨fun i h => ?_, fun h => ?_⟩
  · rw [(s.strictHead_eq_some_iff w i).mpr h]
    rfl
  · have other : s.strictHead w = none :=
      Option.eq_none_iff_forall_ne_some.mpr fun i hi => h i ((s.strictHead_eq_some_iff w i).mp hi)
    rw [other]
    rfl

/-! ### The expiry job (R60) -/

theorem exec_expiryJob_taken {s : State} {q : Sender} (hs : s.resetn = .mark) (hn : s.nextJob = some (.expiry q)) :
    exec .expiryJob s = .next (s.endsJob (jobExpiry q s.takeExpiry)) := by
  have job : takeExpiryJob s = s.endsJob (jobExpiry q s.takeExpiry) := by
    unfold takeExpiryJob
    rw [hn]
    rfl
  exact (perform_running takeExpiryJob hs).trans (congrArg _ job)

theorem jobExpiry_of_stale {s : State} {q : Sender}
    (h : ∀ w, s.waiterOf q.port q.tag = some w → w.sender.gen ≠ q.gen) : jobExpiry q s = s := by
  unfold jobExpiry
  split
  · next w hw => exact if_neg (h w hw)
  · rfl

theorem jobExpiry_of_waiter {s : State} {q : Sender} {w : WaitRecord} (hw : s.waiterOf q.port q.tag = some w)
    (hg : w.sender.gen = q.gen) : jobExpiry q s = expireWaiter w s := by
  unfold jobExpiry
  rw [hw]
  exact if_pos hg

theorem State.timeoutAnswer_eq {s : State} {w : WaitRecord} {r : ObjectRecord} {x : Answer}
    (ho : s.object w.target.slot = some r) (hx : s.timesOutWith w r x) : s.timeoutAnswer w = x := by
  unfold State.timeoutAnswer
  rcases hx with ⟨op, g, v, o, hr, hp, rfl⟩ | ⟨value, side, a, hr, ha, rfl⟩ | ⟨side, a, hr, ha, rfl⟩ |
    ⟨holder, count, damaged, hr, hp, rfl⟩
  · rw [hr, ho, Option.map_some, hp]
    rfl
  · rw [hr]
    simp only [State.account, ha]
    rfl
  · rw [hr]
    simp only [State.account, ha]
    rfl
  · rw [hr, ho, Option.map_some, hp]
    rfl

section
variable {s : State} {w : WaitRecord} {r : ObjectRecord} (ho : s.object w.target.slot = some r)
include ho

theorem expireWaiter_of_agrees {x : Answer} (hc : r.check = .agrees)
    (hl : w.list = .object w.target.slot ∨ w.list = .pool) (hx : s.timesOutWith w r x) :
    expireWaiter w s = ((s.without w).complete w.sender w.request.code x).scanIf (s.strictHead w) := by
  unfold expireWaiter
  rw [State.verify_of_agrees ho hc, State.removeWaiter_eq_without (agrees_of_list ho hc hl),
    State.timeoutAnswer_eq ho hx]
  rfl

theorem expireWaiter_of_fails (hc : r.check = .fails) (hq : r.quarantined = false) :
    expireWaiter w s =
      (s.quarantine w.target.slot r).poolServiceIf (s.quarantineDue w.target.slot r) := by
  unfold expireWaiter
  rw [State.verify_of_fails ho hc hq]
  rfl

end

/-- Settles O6: the job runs on the state as it is taken, and its waiter's record decides between the TIMEOUT and
quarantine. -/
theorem expiryJobTimesOutOrIsStale : Obligations.ExpiryJobTimesOutOrIsStale := by
  intro s q hs hn
  rw [exec_expiryJob_taken hs hn, ← s.takeExpiry_eq_expiryTaken]
  refine ⟨fun stale => ?_, fun w r hw hg ho => ?_⟩
  · rw [jobExpiry_of_stale (s := s.takeExpiry) stale,
      State.endsJob_of_free_le (s := s) (u := s.takeExpiry) (Nat.le_refl _)]
  · have taken : s.takeExpiry.object w.target.slot = some r := ho
    rw [jobExpiry_of_waiter (s := s.takeExpiry) hw hg]
    refine ⟨fun x hc hl hx => ?_, fun hc hq => ?_⟩
    · rw [expireWaiter_of_agrees taken hc hl hx, State.endsJob_of_free_le]
      · obtain ⟨scanned, unscanned⟩ := State.scanIf_strictHead s.takeExpiry
          ((s.takeExpiry.without w).complete w.sender w.request.code x) w
        exact ⟨fun i hi => congrArg _ (scanned i hi), fun hi => congrArg _ (unscanned hi)⟩
      · simp
    · rw [expireWaiter_of_fails taken hc hq]
      obtain ⟨plain, pool⟩ := State.endsJob_poolServiceIf (s := s.takeExpiry) (i := w.target.slot) (r := r)
        (State.quarantine_free s.takeExpiry w.target.slot r)
      exact ⟨fun h => congrArg _ (plain h), fun h => congrArg _ (pool h)⟩

/-! ### CANCEL (R62, R63) -/

theorem jobCancel_of_none {s : State} {q : Sender} {target : Tag} (h : s.waiterOf q.port target = none) :
    jobCancel q target s = s.complete q .cancel (.refuse .notWaiting) := by
  unfold jobCancel
  rw [h]

theorem jobCancel_of_waiter {s : State} {q : Sender} {target : Tag} {w : WaitRecord}
    (h : s.waiterOf q.port target = some w) : jobCancel q target s = cancelWaiter q w s := by
  unfold jobCancel
  rw [h]

section
variable {s : State} {q : Sender} {w : WaitRecord} {r : ObjectRecord} (ho : s.object w.target.slot = some r)
include ho

theorem cancelWaiter_of_fails (hc : r.check = .fails) (hq : r.quarantined = false) :
    cancelWaiter q w s = ((s.quarantine w.target.slot r).complete q .cancel
      (.refuse .notWaiting)).poolServiceIf (s.quarantineDue w.target.slot r) := by
  unfold cancelWaiter
  rw [State.verify_of_fails ho hc hq]
  rfl

theorem cancelWaiter_of_agrees (hc : r.check = .agrees) (hl : w.list = .object w.target.slot ∨ w.list = .pool)
    (hp : w.sender.port = q.port) (hs : (s.port q.port).session.state = .opened) :
    cancelWaiter q w s = (((s.without w).replied w.sender w.request.code.byte ⟨.cancelled, Flags.waited, .none⟩).replied
      q 0x48#8 ⟨.ok, Flags.clear, .none⟩).scanIf (s.strictHead w) := by
  unfold cancelWaiter
  have waiter : ((s.without w).port w.sender.port).session.state = .opened := hp ▸ hs
  have asker : (((s.without w).complete w.sender w.request.code (.dismissal .cancelled)).port q.port).session.state =
      .opened := by
    rw [((State.complete_continues _ _ _ _).port q.port).session]
    exact hs
  rw [State.verify_of_agrees ho hc, State.dismiss_eq _ (agrees_of_list ho hc hl)]
  dsimp only
  rw [if_neg Bool.false_ne_true, State.complete_opened asker, State.complete_opened waiter]
  rfl

end

/-- Settles O46: without a wait record the job refuses, and with one the record of the waiter's object decides between
the CANCELLED and quarantine. -/
theorem cancelRemovesWaiter : Obligations.CancelRemovesWaiter := by
  intro s q target hs
  have opened := State.serves.opened hs
  refine ⟨fun hw => exec_refused (r := .cancel target) rfl hs ?_, fun w r hw ho => ?_⟩
  · show jobCancel q target (s.takeRequest q.port) = _
    exact jobCancel_of_none hw
  · have taken : (s.takeRequest q.port).object w.target.slot = some r := ho
    obtain ⟨-, hport, -⟩ := State.mem_of_waiterOf hw
    have job : storeJob q (.cancel target) (s.takeRequest q.port) = cancelWaiter q w (s.takeRequest q.port) :=
      jobCancel_of_waiter hw
    refine ⟨fun hc hl u hu => ?_, fun hc hq u hu => ?_⟩
    · rw [cancelWaiter_of_agrees taken hc hl hport opened, ← hu] at job
      have runs := exec_served_of_free_le (r := .cancel target) rfl hs (by rw [job, hu]; simp)
      obtain ⟨scanned, unscanned⟩ := State.scanIf_strictHead (s.takeRequest q.port) u w
      rw [job] at runs
      exact ⟨fun i hi => runs.trans (congrArg _ (scanned i hi)), fun hi => runs.trans (congrArg _ (unscanned hi))⟩
    · have asker : (((s.takeRequest q.port).quarantine w.target.slot r).port q.port).session.state = .opened := by
        rw [((State.quarantine_continues taken).port q.port).session]
        exact opened
      rw [cancelWaiter_of_fails taken hc hq, State.complete_opened asker] at job
      subst hu
      exact exec_quarantines (r := .cancel target) rfl hs job (by simp)

end Sys2Proof.Machine
end

section
/-! PROOFS. Pool service (O43): what a pass does with one record, the passes without their fuel, and the last pass,
which moves and places nothing. -/

namespace Sys2Proof.Machine

/-! ### One record of a pass (R86) -/

theorem State.moveWaiter_waitList_pool (s : State) (w : WaitRecord) (i : SlotNo) :
    (s.moveWaiter w (.object i)).waitList .pool = (s.waitList .pool).erase w := by
  unfold State.waitList
  rw [State.moveWaiter_waits, List.filter_append, List.erase_filter]
  simp

theorem State.grantPut_waitList (s : State) (i : SlotNo) (a : QueueAccount) (w : WaitRecord) (value : Word)
    (side : QueueEnd) (l : WaitList) : (s.grantPut i a w value side).waitList l = (s.waitList l).erase w := by
  unfold State.waitList
  rw [State.grantPut_waits, List.erase_filter]

/-- What a pass does with one record: it moves or places it, off the pool wait list, or leaves all as it is. -/
theorem poolPassRecord_cases (x : State × Bool) (w : WaitRecord) :
    poolPassRecord x w = x ∨
      ∃ u : State, poolPassRecord x w = (u, true) ∧ u.waitList .pool = (x.1.waitList .pool).erase w := by
  unfold poolPassRecord
  split
  · split
    · exact .inr ⟨_, rfl, State.moveWaiter_waitList_pool _ _ _⟩
    · split
      · exact .inr ⟨_, rfl, State.grantPut_waitList _ _ _ _ _ _ _⟩
      · exact .inl rfl
  · exact .inl rfl

/-- A record that a pass leaves is a put below its queue's limit that is not grantable (R86, R87). -/
theorem poolPassRecord_left {s : State} {w : WaitRecord} {a : QueueAccount} {value : Word} {side : QueueEnd}
    (h : poolPassRecord (s, false) w = (s, false)) (hq : s.queue w.target.slot = some a)
    (hw : w.request = .put value side) :
    a.chain.length < a.limit ∧ a.reserve ≤ a.chain.length ∧ s.free ≤ s.outstanding := by
  rw [poolPassRecord_put hq hw] at h
  split at h
  · cases congrArg Prod.snd h
  · next room =>
    split at h
    · cases congrArg Prod.snd h
    · next hg =>
      rw [State.grantable_iff] at hg
      omega

/-! ### A pass (R86) -/

/-- A pass over records that stand on the pool wait list takes one off for each that it moves or places: the list does
not grow, and is shorter where the pass has done something. -/
theorem poolPass_shortens (n : Nat) (ws : List WaitRecord) (x : State × Bool) (hws : ws.Subperm (x.1.waitList .pool))
    (hx : (x.1.waitList .pool).length + x.2.toNat ≤ n) :
    ((ws.foldl poolPassRecord x).1.waitList .pool).length + (ws.foldl poolPassRecord x).2.toNat ≤ n := by
  induction ws generalizing x with
  | nil => exact hx
  | cons w ws ih =>
    rw [List.foldl_cons]
    rcases poolPassRecord_cases x w with same | ⟨u, done, erased⟩
    · rw [same]
      exact ih x ((List.sublist_cons_self w ws).subperm.trans hws) hx
    · have hmem : w ∈ x.1.waitList .pool := hws.subset List.mem_cons_self
      have hlen := List.length_erase_of_mem hmem
      have hpos := List.length_pos_of_mem hmem
      rw [done]
      refine ih _ ?_ ?_
      · rw [erased]
        simpa using hws.erase w
      · rw [erased, hlen, Bool.toNat_true]
        omega

theorem poolPass_waitList_lt {s t : State} (h : poolPass s = (t, true)) :
    (t.waitList .pool).length < (s.waitList .pool).length := by
  have := poolPass_shortens _ (s.waitList .pool) (s, false) (List.Subperm.refl _) (Nat.le_refl _)
  unfold poolPass at h
  rw [h] at this
  simpa using this

/-- A pass that ends without having done anything left every record of its list, and the state, as they were. -/
theorem foldl_poolPassRecord_idle (ws : List WaitRecord) (x : State × Bool)
    (h : (ws.foldl poolPassRecord x).2 = false) :
    ws.foldl poolPassRecord x = x ∧ ∀ w ∈ ws, poolPassRecord x w = x := by
  induction ws with
  | nil => exact ⟨rfl, nofun⟩
  | cons w ws ih =>
    rw [List.foldl_cons] at h ⊢
    rcases poolPassRecord_cases x w with same | ⟨u, done, -⟩
    · rw [same] at h ⊢
      obtain ⟨kept, idle⟩ := ih h
      exact ⟨kept, List.forall_mem_cons.mpr ⟨same, idle⟩⟩
    · have worked : (ws.foldl poolPassRecord (poolPassRecord x w)).2 = true := by
        refine List.foldlRecOn (motive := fun y : State × Bool => y.2 = true) ws _ (by rw [done]) fun y hy v _ => ?_
        rcases poolPassRecord_cases y v with same | ⟨u', done', -⟩
        · rw [same, hy]
        · rw [done']
      rw [worked] at h
      cases h

theorem poolPass_idle {s t : State} (h : poolPass s = (t, false)) :
    t = s ∧ ∀ w ∈ s.waitList .pool, poolPassRecord (s, false) w = (s, false) := by
  obtain ⟨kept, idle⟩ := foldl_poolPassRecord_idle (s.waitList .pool) (s, false) (congrArg Prod.snd h)
  exact ⟨congrArg Prod.fst (h.symm.trans kept), idle⟩

/-! ### The passes without their fuel (R86) -/

theorem poolPasses_succ {s t : State} {done : Bool} (h : poolPass s = (t, done)) (n : Nat) :
    poolPasses (n + 1) s = if done then poolPasses n t else t := by
  rw [poolPasses, h]
  cases done <;> rfl

/-- Passes beyond the length of the list change nothing more. -/
theorem poolPasses_fuel (n m : Nat) (s : State) (hn : (s.waitList .pool).length < n)
    (hm : (s.waitList .pool).length < m) : poolPasses n s = poolPasses m s := by
  induction n generalizing m s with
  | zero => omega
  | succ n ih =>
    obtain ⟨m, rfl⟩ : ∃ k, m = k + 1 := ⟨m - 1, by omega⟩
    cases h : poolPass s with
    | mk t done =>
      rw [poolPasses_succ h, poolPasses_succ h]
      cases done with
      | false => rfl
      | true =>
        have := poolPass_waitList_lt h
        exact ih m t (by omega) (by omega)

/-- Pool service is a pass, and pool service of what the pass leaves where it has done something. -/
theorem State.poolService_pass {s t : State} {done : Bool} (h : poolPass s = (t, done)) :
    s.poolService = if done then t.poolService else t := by
  unfold State.poolService
  rw [poolPasses_succ h]
  cases done with
  | false => rfl
  | true => exact poolPasses_fuel _ _ t (poolPass_waitList_lt h) (Nat.lt_succ_self _)

/-- Pool service ends with a pass that does nothing. -/
theorem poolPass_poolService (s : State) : poolPass s.poolService = (s.poolService, false) := by
  obtain ⟨n, hn⟩ : ∃ n, (s.waitList .pool).length = n := ⟨_, rfl⟩
  induction n using Nat.strong_induction_on generalizing s with
  | _ n ih =>
    cases hpass : poolPass s with
    | mk t done =>
      rw [State.poolService_pass hpass]
      cases done with
      | false =>
        obtain ⟨rfl, -⟩ := poolPass_idle hpass
        exact hpass
      | true => exact ih _ (hn ▸ poolPass_waitList_lt hpass) t rfl

/-- What every pass keeps, pool service keeps. -/
theorem State.poolService_induction {motive : State → State → Prop} (refl : ∀ s, motive s s)
    (trans : ∀ s t u, motive s t → motive t u → motive s u) (pass : ∀ s, motive s (poolPass s).1) (s : State) :
    motive s s.poolService := by
  unfold State.poolService
  generalize (s.waitList .pool).length + 1 = n
  induction n generalizing s with
  | zero => exact refl s
  | succ n ih =>
    rw [poolPasses_succ (t := (poolPass s).1) (done := (poolPass s).2) rfl]
    split
    · exact trans _ _ _ (pass s) (ih _)
    · exact pass s

/-- Settles O43: pool service is passes until one does nothing, and that last pass finds no record to move or place. -/
theorem poolServiceLeavesNoGrantablePut : Obligations.PoolServiceLeavesNoGrantablePut := by
  refine ⟨fun s t done h => State.poolService_pass h.symm, ?_⟩
  rintro s t rfl
  obtain ⟨-, idle⟩ := poolPass_idle (poolPass_poolService s)
  refine ⟨fun w hw value side a hr hq => poolPassRecord_left (idle w hw) hq hr, fun empty => ?_⟩
  have pass : poolPass s = (s, false) := by rw [poolPass, empty, List.foldl_nil]
  rw [State.poolService_pass pass]
  rfl

end Sys2Proof.Machine
end

section
/-! PROOFS. The law of the entry pool under each operation that the jobs share (O56): the changes of one queue's
accounting that keep it, the services of waiting puts, and the operations that leave the accounting alone. -/

namespace Sys2Proof.Machine

/-! ### The law part by part (R66, R67, R68, R73) -/

/-- The numbers of an accounting lie in their ranges (R66, R73). -/
def QueueAccount.fits (a : QueueAccount) : Prop :=
  a.chain.length ≤ a.limit ∧ a.reserve ≤ a.limit ∧ 1 ≤ a.limit ∧ a.limit ≤ 2048

/-- A slot holds the record of a queue. -/
def State.queueAt (s : State) (i : SlotNo) : Prop := ∃ r, s.object i = some r ∧ r.part = .queue

theorem State.queueAt_of_part {s t : State} {i : SlotNo}
    (h : (t.object i).map ObjectRecord.part = (s.object i).map ObjectRecord.part) : t.queueAt i ↔ s.queueAt i := by
  unfold State.queueAt
  simp only [← Option.map_eq_some_iff, h]

theorem State.queueAt_congr {s t : State} (h : t.slots = s.slots) (i : SlotNo) : t.queueAt i ↔ s.queueAt i := by
  have same : t.object i = s.object i := by unfold State.object State.slot; rw [h]
  exact State.queueAt_of_part (congrArg _ same)

theorem State.queueAt_of_object {s : State} {i : SlotNo} {r : ObjectRecord} (ho : s.object i = some r) :
    s.queueAt i ↔ r.part = .queue := by
  unfold State.queueAt
  simp [ho]

theorem State.queueAt_writeRecord (s : State) (i j : SlotNo) (r : ObjectRecord) :
    (s.writeRecord i r).queueAt j ↔ if i = j then r.part = .queue else s.queueAt j := by
  unfold State.queueAt
  rw [State.object_writeRecord]
  split <;> simp

theorem State.promisedBy_le_outstanding (s : State) (i : SlotNo) : promisedBy (s.queue i) ≤ s.outstanding := by
  have removed := s.outstanding_setQueue i none
  simp only [promisedBy] at removed ⊢
  omega

namespace State.poolLaw

variable {s t : State}

/-- The law reads the accounting, the free count and which slots hold a queue. -/
theorem of_same (h : s.poolLaw) (hq : t.queues = s.queues) (hf : t.free = s.free)
    (hp : ∀ i, t.queueAt i ↔ s.queueAt i) : t.poolLaw := by
  obtain ⟨conserved, reserved, fits, placed⟩ := h
  refine ⟨?_, ?_, fun i a ha => ?_, fun i => ?_⟩
  · rw [hf, State.entriesHeld_congr hq]
    exact conserved
  · rw [hf, State.outstanding_congr hq]
    exact reserved
  · rw [State.queue_congr hq] at ha
    exact fits i a ha
  · rw [State.queue_congr hq]
    exact (placed i).trans (hp i).symm

theorem of_same_slots (h : s.poolLaw) (hq : t.queues = s.queues) (hf : t.free = s.free) (hs : t.slots = s.slots) :
    t.poolLaw := h.of_same hq hf (State.queueAt_congr hs)

/-- The accounting of one slot changes: entries move between its chain and the pool, what it promises is covered, and
it stands or goes with the record of a queue. -/
theorem accounted (h : s.poolLaw) {i : SlotNo} {x : Option QueueAccount}
    (hq : t.queues = s.queues.set i.val x i.isLt) (hfits : ∀ a, x = some a → a.fits)
    (hentries : t.free + depthOf x = s.free + depthOf (s.queue i))
    (hreserve : s.outstanding + promisedBy x ≤ t.free + promisedBy (s.queue i))
    (here : x.isSome = true ↔ t.queueAt i) (others : ∀ j, i ≠ j → (t.queueAt j ↔ s.queueAt j)) : t.poolLaw := by
  obtain ⟨conserved, reserved, fits, placed⟩ := h
  have same : t.queues = (s.setQueue i x).queues := hq
  have held := s.entriesHeld_setQueue i x
  have outstanding := s.outstanding_setQueue i x
  refine ⟨?_, ?_, fun j a ha => ?_, fun j => ?_⟩
  · rw [State.entriesHeld_congr same]
    omega
  · rw [State.outstanding_congr same]
    omega
  · rw [State.queue_congr same, State.queue_setQueue] at ha
    split at ha
    · exact hfits a ha
    · exact fits j a ha
  · rw [State.queue_congr same, State.queue_setQueue]
    split
    · next hij => exact hij ▸ here
    · next hij => exact (placed j).trans (others j hij).symm

/-- The accounting of a queue replaced by one that fits. -/
theorem poolBecomes (h : s.poolLaw) {i : SlotNo} {a a' : QueueAccount} {free : Nat} (ha : s.queue i = some a)
    (hfits : a'.fits) (hentries : free + a'.depth = s.free + a.depth)
    (hreserve : s.outstanding + a'.promised ≤ free + a.promised) : (s.poolBecomes i a' free).poolLaw := by
  have ⟨_, _, _, placed⟩ := h
  refine h.accounted rfl (fun b hb => Option.some.inj hb ▸ hfits) ?_ ?_ ?_ (fun j _ => Iff.rfl)
  · rw [ha]
    exact hentries
  · rw [ha]
    exact hreserve
  · exact iff_of_true rfl ((placed i).mp (by rw [ha]; rfl))

/-- The slot of a queue's record has accounting that fits. -/
theorem account (h : s.poolLaw) {i : SlotNo} (hi : s.queueAt i) :
    ∃ a, s.queue i = some a ∧ s.account i = a ∧ a.fits := by
  obtain ⟨-, -, fits, placed⟩ := h
  obtain ⟨a, ha⟩ := Option.isSome_iff_exists.mp ((placed i).mpr hi)
  exact ⟨a, ha, by rw [State.account, ha]; rfl, fits i a ha⟩

/-! ### Replies, records and wait records -/

theorem setPort (h : s.poolLaw) (p : Port) (x : PortState) : (s.setPort p x).poolLaw := h.of_same_slots rfl rfl rfl

theorem replacesPort (h : s.poolLaw) {p : Port} (ht : s.ReplacesPort p t) : t.poolLaw := by
  obtain ⟨x, rfl⟩ := ht
  exact h.setPort p x

theorem completeFor (h : s.poolLaw) (u : Purpose) (q : Sender) (code : Byte) (x : Answer) :
    (s.completeFor u q code x).poolLaw := h.replacesPort (s.completeFor_replacesPort u q code x)

theorem complete (h : s.poolLaw) (q : Sender) (code : RequestCode) (x : Answer) : (s.complete q code x).poolLaw :=
  h.completeFor .plain q code.byte x

theorem appendAlert (h : s.poolLaw) (kind : AlertKind) : (s.appendAlert kind).poolLaw :=
  h.of_same_slots (State.appendAlert_queues _ _) (State.appendAlert_free _ _) (State.appendAlert_slots _ _)

/-- A record written over one of the same kind, as far as queues go. -/
theorem writeRecord (h : s.poolLaw) {i : SlotNo} {r : ObjectRecord} (hr : r.part = .queue ↔ s.queueAt i) :
    (s.writeRecord i r).poolLaw := by
  refine h.of_same rfl rfl fun j => ?_
  rw [State.queueAt_writeRecord]
  split
  · next hij => exact hij ▸ hr
  · exact .rfl

/-- A record that is no queue's written over one that is none. -/
theorem writeOther (h : s.poolLaw) {i : SlotNo} {r r' : ObjectRecord} (ho : s.object i = some r)
    (hr : r.part ≠ .queue) (hr' : r'.part ≠ .queue) : (s.writeRecord i r').poolLaw :=
  h.writeRecord (iff_of_false hr' (mt (State.queueAt_of_object ho).mp hr))

theorem listWritten (h : s.poolLaw) (l : WaitList) : (s.listWritten l).poolLaw :=
  h.of_same (State.listWritten_queues _ _) (State.listWritten_free _ _)
    fun i => State.queueAt_of_part (s.listWritten_part l i)

/-- The wait records change, and the record whose list changed is written. -/
theorem relisted (h : s.poolLaw) (ws : List WaitRecord) (l : WaitList) :
    ({ s with waits := ws }.listWritten l).poolLaw :=
  State.poolLaw.listWritten (s := { s with waits := ws }) (h.of_same_slots rfl rfl rfl) l

theorem removeWaiter (h : s.poolLaw) (w : WaitRecord) : (s.removeWaiter w).poolLaw :=
  (h.relisted _ w.list).of_same_slots (State.withdraw_queues _ _) (State.withdraw_free _ _) (State.withdraw_slots _ _)

theorem moveWaiter (h : s.poolLaw) (w : WaitRecord) (l : WaitList) : (s.moveWaiter w l).poolLaw :=
  (h.relisted _ w.list).listWritten l

theorem place (h : s.poolLaw) (q : Sender) (request : WaitRequest) (target : Handle) (wait : Half) (l : WaitList) :
    (s.place q request target wait l).poolLaw := by
  have listed := (h.relisted (s.waits ++ [⟨q, request, target, s.deadlineFor wait, l⟩]) l).of_same_slots
    (State.addDeadline_queues _ q (s.deadlineFor wait)) (State.addDeadline_free _ _ _) (State.addDeadline_slots _ _ _)
  exact listed.of_same_slots (State.notifyWaiting_queues _ q) (State.notifyWaiting_free _ _)
    (State.notifyWaiting_slots _ _)

theorem dismiss (h : s.poolLaw) (st : Status) (w : WaitRecord) : (State.dismiss st s w).poolLaw :=
  (h.removeWaiter w).complete _ _ _

theorem dismissAll (h : s.poolLaw) (st : Status) (ws : List WaitRecord) : (State.dismissAll st s ws).poolLaw :=
  List.foldlRecOn ws _ (motive := State.poolLaw) h fun _ ht w _ => ht.dismiss st w

/-! ### The services of waiting puts (R73, R79, R86) -/

/-- An entry linked for a put that is grantable, to a queue below its limit (R67, R68, R73). -/
theorem linkEntry (h : s.poolLaw) {i : SlotNo} {a : QueueAccount} (ha : s.queue i = some a)
    (hg : s.grantable a = true) (hl : a.depth < a.limit) (side : QueueEnd) (e : Entry) :
    (s.linkEntry i a side e).poolLaw := by
  have ⟨_, reserved, fits, _⟩ := h
  have promised := s.promisedBy_le_outstanding i
  have length : (linkAt side e a.chain).length = a.chain.length + 1 := by cases side <;> simp [linkAt]
  obtain ⟨-, hreserve, hpos, hmax⟩ := fits i a ha
  rw [State.grantable_iff] at hg
  rw [ha] at promised
  simp only [promisedBy, QueueAccount.promised, QueueAccount.depth] at promised hl
  refine h.poolBecomes (a' := { a with chain := linkAt side e a.chain }) (free := s.free - 1) ha
    ⟨?_, hreserve, hpos, hmax⟩ ?_ ?_
  · rw [length]
    exact hl
  · simp only [QueueAccount.depth, length]
    omega
  · simp only [QueueAccount.promised, QueueAccount.depth, length]
    omega

theorem grantPut (h : s.poolLaw) {i : SlotNo} {a : QueueAccount} (ha : s.queue i = some a)
    (hg : s.grantable a = true) (hl : a.depth < a.limit) (w : WaitRecord) (value : Word) (side : QueueEnd) :
    (s.grantPut i a w value side).poolLaw := by
  have same := State.removeWaiter_queues s w
  refine ((h.removeWaiter w).linkEntry ?_ ?_ hl side ⟨value, w.sender.port⟩).complete _ _ _
  · rw [State.queue_congr same, ha]
  · rw [State.grantable_iff] at hg ⊢
    rw [State.outstanding_congr same, State.removeWaiter_free]
    exact hg

theorem serveOwnPutter (h : s.poolLaw) (i : SlotNo) (w : WaitRecord) : (serveOwnPutter i s w).poolLaw := by
  unfold Machine.serveOwnPutter
  split
  · next a value side ha _ =>
    split
    · next hl =>
      split
      · next hg => exact h.grantPut ha hg hl w value side
      · exact h.moveWaiter w .pool
    · exact h
  · exact h

theorem serveOwnPutters (h : s.poolLaw) (i : SlotNo) : (s.serveOwnPutters i).poolLaw :=
  List.foldlRecOn _ _ (motive := State.poolLaw) h fun _ ht w _ => ht.serveOwnPutter i w

theorem poolPassRecord {x : State × Bool} (h : x.1.poolLaw) (w : WaitRecord) : (poolPassRecord x w).1.poolLaw := by
  unfold Machine.poolPassRecord
  split
  · next a value side ha _ =>
    split
    · exact h.moveWaiter w _
    · next hl =>
      split
      · next hg => exact h.grantPut ha hg (Nat.lt_of_not_le hl) w value side
      · exact h
  · exact h

theorem poolPass (h : s.poolLaw) : (poolPass s).1.poolLaw :=
  List.foldlRecOn _ _ (motive := fun x : State × Bool => x.1.poolLaw) h fun _ hx w _ => hx.poolPassRecord w

theorem poolService (h : s.poolLaw) : s.poolService.poolLaw :=
  State.poolService_induction (motive := fun s t => s.poolLaw → t.poolLaw) (fun _ => id)
    (fun _ _ _ first second => second ∘ first) (fun _ => poolPass) s h

theorem poolServiceIf (h : s.poolLaw) (due : Bool) : (s.poolServiceIf due).poolLaw := by
  cases due with
  | true => exact h.poolService
  | false => exact h

/-! ### Scans and hand-offs (R49, R50, R97) -/

theorem serveCellWaiter (h : s.poolLaw) {i : SlotNo} {r : ObjectRecord} {v : Word} {order : Order}
    (ho : s.object i = some r) (hp : r.part = .cell v order) (order' : Order) (w : WaitRecord) (op : CellOp) :
    (s.serveCellWaiter i r v order' w op).poolLaw :=
  ((h.writeOther ho (by rw [hp]; nofun) (by nofun)).removeWaiter w).complete _ _ _

theorem scanStrict (h : s.poolLaw) (i : SlotNo) (ws : List WaitRecord) : (scanStrict i ws s).poolLaw := by
  induction ws generalizing s with
  | nil => exact h
  | cons w ws ih =>
    rcases scanStrict_cons_cases i w ws s with ⟨r, v, order, op, ho, hp, serve⟩ | ⟨stop, -⟩
    · rw [serve]
      exact ih (h.serveCellWaiter ho hp order w op)
    · rw [stop]
      exact h

theorem scanPass (h : s.poolLaw) (i : SlotNo) : (scanPass i s).1.poolLaw := by
  refine List.foldlRecOn _ _ (motive := fun x : State × Bool => x.1.poolLaw) h fun x hx w _ => ?_
  rcases scanPassRecord_cases i x w with same | ⟨r, v, order, op, ho, hp, serve⟩
  · rw [same]
    exact hx
  · rw [serve]
    exact hx.serveCellWaiter ho hp order w op

theorem scanPasses (h : s.poolLaw) (i : SlotNo) (n : Nat) : (scanPasses i n s).poolLaw := by
  induction n generalizing s with
  | zero => exact h
  | succ n ih =>
    rw [scanPasses_succ (t := (Machine.scanPass i s).1) (served := (Machine.scanPass i s).2) rfl]
    split
    · exact ih (h.scanPass i)
    · exact h.scanPass i

theorem scan (h : s.poolLaw) (i : SlotNo) : (s.scan i).poolLaw := by
  unfold State.scan
  split
  · split
    · exact h.scanStrict i _
    · exact h.scanPasses i _
    · exact h
  · exact h

theorem scanIf (h : s.poolLaw) (cell : Option SlotNo) : (s.scanIf cell).poolLaw := by
  cases cell with
  | some i => exact h.scan i
  | none => exact h

theorem serveReentry (h : s.poolLaw) (i : SlotNo) (w : WaitRecord) : (serveReentry i s w).poolLaw := by
  unfold Machine.serveReentry
  split
  · next ho =>
    split
    · next hp => exact ((h.writeOther ho (by rw [hp]; nofun) (by nofun)).removeWaiter w).complete _ _ _
    · exact h
  · exact h

theorem assignLock (h : s.poolLaw) {i : SlotNo} {r : ObjectRecord} (ho : s.object i = some r) (hp : r.part ≠ .queue)
    (damaged : Bool) (w : WaitRecord) : (s.assignLock i r damaged w).poolLaw :=
  (h.writeOther ho hp (by nofun)).removeWaiter w

theorem replyHandOff (h : s.poolLaw) (i : SlotNo) (damaged : Bool) (w : WaitRecord) :
    (s.replyHandOff i damaged w).poolLaw :=
  List.foldlRecOn _ _ (motive := State.poolLaw) (h.complete _ _ _) fun _ ht v _ => ht.serveReentry i v

theorem abandonLock (h : s.poolLaw) {i : SlotNo} {r : ObjectRecord} (ho : s.object i = some r)
    (hp : r.part ≠ .queue) : (abandonLock i r s).poolLaw := by
  unfold Machine.abandonLock
  split
  · exact h.writeOther ho hp (by nofun)
  · exact (h.assignLock ho hp true _).replyHandOff i true _

end State.poolLaw

/-! ### Quarantine and deletion (R14, R19, R20) -/

/-- Dismissals leave every kind part. -/
theorem State.dismissAll_part (st : Status) (s : State) (ws : List WaitRecord) (i : SlotNo) :
    ((State.dismissAll st s ws).object i).map ObjectRecord.part = (s.object i).map ObjectRecord.part :=
  foldl_keeps (g := fun s : State => (s.object i).map ObjectRecord.part)
    (fun s w => by unfold State.dismiss; rw [State.complete_object, State.removeWaiter_part]) ws s

theorem KindPart.quarantined_eq_queue_iff (part : KindPart) : part.quarantined = .queue ↔ part = .queue := by
  cases part <;> simp [KindPart.quarantined]

namespace State.poolLaw

variable {s : State}

/-- A queue's reserve becomes 0, and its promise with it (R20). -/
theorem reserveCleared (h : s.poolLaw) {i : SlotNo} {part : KindPart} (hp : part = .queue ↔ s.queueAt i) :
    (s.reserveCleared i part).poolLaw := by
  unfold State.reserveCleared
  split
  · next hpart =>
    obtain ⟨a, ha, -, fits⟩ := h.account (hp.mp hpart)
    have ⟨_, reserved, _, _⟩ := h
    obtain ⟨hchain, -, hpos, hmax⟩ := fits
    rw [ha]
    refine h.poolBecomes (a' := a.withoutReserve) (free := s.free) ha ⟨hchain, Nat.zero_le _, hpos, hmax⟩ rfl ?_
    simp only [QueueAccount.withoutReserve, QueueAccount.promised]
    omega
  · exact h

theorem quarantineKind (h : s.poolLaw) {i : SlotNo} {r : ObjectRecord} (hr : r.part = .queue ↔ s.queueAt i) :
    (s.quarantineKind i r).poolLaw := by
  rw [State.quarantineKind_eq]
  refine (h.reserveCleared hr).writeRecord ((KindPart.quarantined_eq_queue_iff r.part).trans (hr.trans ?_))
  unfold State.reserveCleared
  split <;> exact .rfl

theorem quarantine (h : s.poolLaw) {i : SlotNo} {r : ObjectRecord} (ho : s.object i = some r) :
    (s.quarantine i r).poolLaw := by
  have part : r.part = .queue ↔ s.queueAt i := (State.queueAt_of_object ho).symm
  have flagged : (s.holds i { r with quarantined := true, check := .agrees }).poolLaw :=
    h.writeRecord (r := { r with quarantined := true }) part
  rw [State.quarantine_eq]
  refine ((flagged.dismissAll .fault _).quarantineKind ?_).appendAlert _
  refine part.trans (State.queueAt_of_part ?_).symm
  rw [State.dismissAll_part, ho]
  show ((s.writeRecord i { r with quarantined := true }).object i).map _ = _
  rw [State.object_writeRecord, if_pos rfl]
  rfl

theorem verify (h : s.poolLaw) (i : SlotNo) : (s.verify i).state.poolLaw := by
  unfold State.verify
  split
  · next ho =>
    split
    · exact h.quarantine ho
    · exact h
  · exact h

/-- The disposal of an object gives its queue's entries back and ends its promise (R14). -/
theorem dispose (h : s.poolLaw) (i : SlotNo) : (s.dispose i).poolLaw := by
  have ⟨_, reserved, _, _⟩ := h
  have object : ∀ j, (s.dispose i).object j = if i = j then none else s.object j :=
    fun j => State.object_setSlot _ _ _ _
  refine h.accounted (x := none) rfl nofun rfl ?_ (iff_of_false nofun ?_) fun j hij => State.queueAt_of_part ?_
  · show s.outstanding + 0 ≤ (s.free + depthOf (s.queue i)) + promisedBy (s.queue i)
    omega
  · rintro ⟨r, ho, -⟩
    rw [object, if_pos rfl] at ho
    cases ho
  · rw [object, if_neg hij]

theorem deleteObject (h : s.poolLaw) (i : SlotNo) : (s.deleteObject i).poolLaw := (h.dismissAll .deleted _).dispose i

end State.poolLaw

end Sys2Proof.Machine
end

section
/-! PROOFS. The law of the entry pool under each job of the store and under the teardown job, and the law at every step
(O56). -/

namespace Sys2Proof.Machine

/-- An entry taken leaves a chain shorter by one (R75). -/
theorem length_of_takeAt {side : QueueEnd} {chain rest : List Entry} {e : Entry}
    (h : takeAt side chain = some (e, rest)) : chain.length = rest.length + 1 := by
  cases side with
  | head =>
    cases chain with
    | nil => cases h
    | cons x xs =>
      cases h
      rfl
  | tail =>
    obtain ⟨x, hx, hrest⟩ := Option.map_eq_some_iff.mp h
    obtain ⟨rfl, rfl⟩ := Prod.mk.inj hrest
    have nonempty : chain ≠ [] := by
      rintro rfl
      cases hx
    have := List.length_pos_iff.mpr nonempty
    rw [List.length_dropLast]
    omega

theorem sum_map_replicate {α : Type} (n : Nat) {x : α} {f : α → Nat} (hf : f x = 0) :
    ((Vector.replicate n x).toArray.toList.map f).sum = 0 := by simp [hf]

/-- After a reset of the part every entry is free and no queue stands (R176). -/
theorem State.resetPart_poolLaw (s : State) : s.resetPart.poolLaw := by
  have queue : ∀ i, s.resetPart.queue i = none := fun i => by
    show (Vector.replicate 256 (none : Option QueueAccount))[i.val] = none
    rw [Vector.getElem_replicate]
  have object : ∀ i, s.resetPart.object i = none := fun i => by
    show ((Vector.replicate 256 (⟨1#8, none⟩ : Slot))[i.val]).object = none
    rw [Vector.getElem_replicate]
  have held : s.resetPart.entriesHeld = 0 := sum_map_replicate 256 rfl
  have outstanding : s.resetPart.outstanding = 0 := sum_map_replicate 256 rfl
  refine ⟨?_, ?_, fun i a ha => ?_, fun i => iff_of_false ?_ ?_⟩
  · rw [held]
    rfl
  · rw [outstanding]
    exact Nat.zero_le _
  · rw [queue] at ha
    cases ha
  · rw [queue]
    nofun
  · rintro ⟨r, ho, -⟩
    rw [object] at ho
    cases ho

namespace State.poolLaw

variable {s : State} (h : s.poolLaw) (q : Sender)
include h

/-! ### The jobs on objects (R9 to R17) -/

/-- A request that names an object is refused, finds a failing record, or is carried out (R9, R10). -/
theorem withObject (code : RequestCode) (o : Handle) {c : Checks} {run : ObjectRecord → State}
    (hrun : ∀ r, s.object o.slot = some r → c.kind r.part = true → c.range s = true → (run r).poolLaw) :
    (s.withObject q code o c run).poolLaw := by
  have refused := fun status => h.complete q code (.refuse status)
  unfold State.withObject
  split
  · exact refused _
  · next r hr =>
    have ho := (State.object_of_resolve hr).1
    split
    · exact ((h.quarantine ho).complete q code _).poolServiceIf _
    · split
      · exact refused _
      · next hkind =>
        iterate 3
          split
          · exact refused _
        split
        · exact refused _
        · next hrange => exact hrun r ho (by simpa using hkind) (by simpa using hrange)

/-- The object placed: its accounting stands with a queue's record, and the pool covers its reserve (R11, R12). -/
theorem placeObject {i : SlotNo} (he : s.object i = none) {kind : KindParams} {label : Label}
    (hrange : createInRange kind label = true) (hfree : s.outstanding + kindReserve kind ≤ s.free) (access : Byte)
    (isScoped : Bool) : (s.placeObject q i access isScoped kind label).poolLaw := by
  have ⟨_, _, _, placed⟩ := h
  have empty : s.queue i = none := by
    refine Option.not_isSome_iff_eq_none.mp fun hq => ?_
    obtain ⟨r, ho, -⟩ := (placed i).mp hq
    rw [he] at ho
    cases ho
  have written : ∀ j, (s.placeObject q i access isScoped kind label).queueAt j ↔
      if i = j then kindPartOf kind = .queue else s.queueAt j := fun j => State.queueAt_writeRecord _ i j _
  refine h.accounted (x := accountOf kind) rfl (fun a ha => ?_) ?_ ?_ ?_ fun j hij => ?_
  · cases kind with
    | queue limit reserve =>
      cases ha
      simp only [createInRange, Bool.and_eq_true, decide_eq_true_eq] at hrange
      obtain ⟨-, ⟨hpos, hmax⟩, hreserve⟩ := hrange
      exact ⟨Nat.zero_le _, hreserve, hpos, hmax⟩
    | cell _ _ | lock => cases ha
  · rw [empty]
    cases kind <;> rfl
  · have promise : promisedBy (accountOf kind) = kindReserve kind := by cases kind <;> rfl
    rw [empty, promise]
    exact hfree
  · rw [written, if_pos rfl]
    cases kind <;> simp [accountOf, kindPartOf]
  · rw [written, if_neg hij]

theorem jobCreate (slot : SlotChoice) (access : Byte) (isScoped : Bool) (kind : KindParams) (label : Label) :
    (jobCreate q slot access isScoped kind label s).poolLaw := by
  have refused := fun status => h.complete q .create (.refuse status)
  unfold Machine.jobCreate
  split
  · exact refused _
  · split
    · exact refused _
    · next hrange =>
      split
      · exact refused _
      · next i hi =>
        split
        · exact refused _
        · split
          · exact refused _
          · next hfree =>
            exact (h.placeObject q (State.slotFor_empty hi) (by simpa using hrange) (Nat.le_of_not_lt hfree) access
              isScoped).complete _ _ _

theorem jobDelete (o : Handle) : (jobDelete q o s).poolLaw :=
  h.withObject q .delete o fun _ _ _ _ => ((h.deleteObject o.slot).complete q .delete _).poolServiceIf _

theorem jobDescribe (o : Handle) : (jobDescribe q o s).poolLaw :=
  h.withObject q .describe o fun _ _ _ _ => h.complete q .describe _

theorem jobFind (label : Label) : (jobFind q label s).poolLaw := by
  unfold Machine.jobFind
  split
  · exact h.complete _ _ _
  · split
    · exact h.complete _ _ _
    · split
      · exact h.complete _ _ _
      · next ho =>
        split
        · exact ((h.quarantine ho).complete _ _ _).poolServiceIf _
        · split
          · exact h.complete _ _ _
          · exact h.complete _ _ _

theorem jobSetAccess (o : Handle) (access : Byte) : (jobSetAccess q o access s).poolLaw :=
  h.withObject q .setAccess o fun r ho _ _ =>
    (h.writeRecord (r := { r with access := accessWith access r.creator.port })
      (State.queueAt_of_object ho).symm).complete q .setAccess _

/-! ### The requests on cells and locks -/

/-- A record that is no queue's is written over one that is none, and the request replied. -/
theorem written {i : SlotNo} {r r' : ObjectRecord} (ho : s.object i = some r) (hr : r.part ≠ .queue)
    (hr' : r'.part ≠ .queue) (code : RequestCode) (x : Answer) : ((s.writeRecord i r').complete q code x).poolLaw :=
  (h.writeOther ho hr hr').complete q code x

theorem runCell {o : Handle} {r : ObjectRecord} (ho : s.object o.slot = some r) (hr : r.part ≠ .queue) (op : CellOp)
    (guard : Guard) (wait : Half) (value : Word) (order : Order) :
    (runCell q o op guard wait s r value order).poolLaw := by
  unfold Machine.runCell
  split
  · exact (h.written q ho hr (by nofun) _ _).scanIf _
  · split
    · exact h.complete _ _ _
    · exact h.place _ _ _ _ _

theorem jobCell (o : Handle) (op : CellOp) (guard : Guard) (wait : Half) : (jobCell q o op guard wait s).poolLaw := by
  refine h.withObject q _ o fun r ho _ _ => ?_
  split
  · next hp => exact h.runCell q ho (by rw [hp]; nofun) _ _ _ _ _
  · exact h

theorem jobSetOrder (o : Handle) (order : Order) : (jobSetOrder q o order s).poolLaw := by
  refine h.withObject q _ o fun r ho _ _ => ?_
  split
  · next hp => exact (h.written q ho (by rw [hp]; nofun) (by nofun) _ _).scan _
  · exact h

theorem runAcquire {o : Handle} {r : ObjectRecord} (ho : s.object o.slot = some r) (hr : r.part ≠ .queue) (wait : Half)
    (holder : Option SessionId) (count : Nat) (damaged : Bool) :
    (runAcquire q o wait s r holder count damaged).poolLaw := by
  unfold Machine.runAcquire
  split
  · exact h.written q ho hr (by nofun) _ _
  · split
    · split
      · exact h.written q ho hr (by nofun) _ _
      · exact h.complete _ _ _
    · split
      · exact h.complete _ _ _
      · exact h.place _ _ _ _ _

theorem runRelease {o : Handle} {r : ObjectRecord} (ho : s.object o.slot = some r) (hr : r.part ≠ .queue)
    (holder : Option SessionId) (count : Nat) (damaged : Bool) : (runRelease q o s r holder count damaged).poolLaw := by
  unfold Machine.runRelease
  split
  · split
    · exact h.written q ho hr (by nofun) _ _
    · unfold releaseLast
      split
      · exact h.written q ho hr (by nofun) _ _
      · exact ((h.assignLock ho hr damaged _).complete _ _ _).replyHandOff _ _ _
  · exact h.complete _ _ _

theorem runRestore {o : Handle} {r : ObjectRecord} (ho : s.object o.slot = some r) (hr : r.part ≠ .queue)
    (holder : Option SessionId) (count : Nat) (damaged : Bool) : (runRestore q o s r holder count damaged).poolLaw := by
  unfold Machine.runRestore
  split
  · exact h.written q ho hr (by nofun) _ _
  · exact h.complete _ _ _

theorem jobAcquire (o : Handle) (wait : Half) : (jobAcquire q o wait s).poolLaw := by
  refine h.withObject q _ o fun r ho _ _ => ?_
  split
  · next hp => exact h.runAcquire q ho (by rw [hp]; nofun) _ _ _ _
  · exact h

theorem jobRelease (o : Handle) : (jobRelease q o s).poolLaw := by
  refine h.withObject q _ o fun r ho _ _ => ?_
  split
  · next hp => exact h.runRelease q ho (by rw [hp]; nofun) _ _ _
  · exact h

theorem jobRestore (o : Handle) : (jobRestore q o s).poolLaw := by
  refine h.withObject q _ o fun r ho _ _ => ?_
  split
  · next hp => exact h.runRestore q ho (by rw [hp]; nofun) _ _ _
  · exact h

/-! ### The requests on queues (R71 to R83) -/

/-- The slot of a request on a queue that is carried out holds a queue's record. -/
theorem withQueue (code : RequestCode) (o : Handle) {range : State → Bool} {run : ObjectRecord → State}
    (hrun : ∀ r, s.queueAt o.slot → range s = true → (run r).poolLaw) :
    (s.withObject q code o (queueChecks range) run).poolLaw := by
  refine h.withObject q code o fun r ho hkind hrange => hrun r ⟨r, ho, ?_⟩ hrange
  have queue : r.part.isQueue = true := hkind
  cases hp : r.part with
  | queue => rfl
  | cell _ _ | lock _ _ _ => simp [hp, KindPart.isQueue] at queue

theorem waitOrReport (code : RequestCode) (request : WaitRequest) (o : Handle) (wait : Half) (l : WaitList)
    (status : Status) (depth : Nat) : (waitOrReport q code request o wait l status depth s).poolLaw := by
  unfold Machine.waitOrReport
  split
  · exact h.complete _ _ _
  · exact h.place _ _ _ _ _

theorem runPut {o : Handle} (hi : s.queueAt o.slot) (side : QueueEnd) (value : Word) (wait : Half) :
    (runPut q o side value wait s).poolLaw := by
  obtain ⟨a, ha, hacc, -⟩ := h.account hi
  unfold Machine.runPut
  rw [hacc]
  split
  · exact ((h.removeWaiter _).complete _ _ _).complete _ _ _
  · split
    · exact h.waitOrReport _ _ _ _ _ _ _ _
    · next hl =>
      split
      · exact h.waitOrReport _ _ _ _ _ _ _ _
      · next hg => exact (h.linkEntry ha (by simpa using hg) (Nat.lt_of_not_le hl) _ _).complete _ _ _

/-- Entries of a queue go back to the pool, the request is replied, and the queue's putters and the pool are served
(R75, R79, R81). -/
theorem entriesTaken {i : SlotNo} {a : QueueAccount} (ha : s.queue i = some a) (hfits : a.fits) {chain : List Entry}
    {n : Nat} (hn : a.chain.length = chain.length + n) (code : RequestCode) (x : Answer) :
    ((({ s.setQueue i (some { a with chain := chain }) with free := s.free + n }.complete q code x).serveOwnPutters
      i).poolService).poolLaw := by
  have ⟨_, reserved, _, _⟩ := h
  obtain ⟨hchain, hreserve, hpos, hmax⟩ := hfits
  have taken : (s.poolBecomes i { a with chain := chain } (s.free + n)).poolLaw := by
    have room : chain.length ≤ a.limit := by omega
    refine h.poolBecomes ha ⟨room, hreserve, hpos, hmax⟩ ?_ ?_ <;>
      simp only [QueueAccount.promised, QueueAccount.depth] <;> omega
  exact ((taken.complete q code x).serveOwnPutters i).poolService

theorem runTake {o : Handle} (hi : s.queueAt o.slot) (side : QueueEnd) (wait : Half) :
    (runTake q o side wait s).poolLaw := by
  obtain ⟨a, ha, hacc, hfits⟩ := h.account hi
  unfold Machine.runTake
  rw [hacc]
  split
  · next htake => exact h.entriesTaken q ha hfits (length_of_takeAt htake) _ _
  · split
    · exact ((h.removeWaiter _).complete _ _ _).complete _ _ _
    · exact h.waitOrReport _ _ _ _ _ _ _ _

theorem jobPeek (o : Handle) (index : Half) : (jobPeek q o index s).poolLaw := by
  refine h.withObject q _ o fun r _ _ _ => ?_
  split
  · exact h.complete _ _ _
  · exact h

theorem runFlush {o : Handle} (hi : s.queueAt o.slot) : (runFlush q o s).poolLaw := by
  obtain ⟨a, ha, hacc, hfits⟩ := h.account hi
  unfold Machine.runFlush
  rw [hacc]
  split
  · exact h.complete _ _ _
  · exact h.entriesTaken q ha hfits (chain := []) (Nat.zero_add _).symm _ _

/-- The limit and reserve written, where the pool covers the outstanding reserve as it then stands (R82, R83). -/
theorem withLimits {i : SlotNo} (hi : s.queueAt i) {limit reserve : Half} (hpos : 1 ≤ limit.toNat)
    (hmax : limit.toNat ≤ 2048) (hdepth : (s.account i).depth ≤ limit.toNat) (hreserve : reserve.toNat ≤ limit.toNat)
    (hfree : (s.withLimits i limit reserve).outstanding ≤ s.free) : (s.withLimits i limit reserve).poolLaw := by
  obtain ⟨a, ha, hacc, -⟩ := h.account hi
  obtain ⟨a', ha'⟩ : ∃ a' : QueueAccount, a' = { a with limit := limit.toNat, reserve := reserve.toNat } := ⟨_, rfl⟩
  have written : s.withLimits i limit reserve = s.poolBecomes i a' s.free := by
    rw [State.withLimits, hacc, ha']
    rfl
  have outstanding : (s.poolBecomes i a' s.free).outstanding + promisedBy (s.queue i) = s.outstanding + a'.promised :=
    s.outstanding_setQueue i (some a')
  rw [written] at hfree ⊢
  rw [ha, promisedBy] at outstanding
  rw [hacc] at hdepth
  refine h.poolBecomes ha ?_ (by rw [ha']; rfl) (by omega)
  rw [ha']
  exact ⟨hdepth, hreserve, hpos, hmax⟩

theorem runSetQueueLimits {o : Handle} (hi : s.queueAt o.slot) {limit reserve : Half}
    (hrange : limitsInRange o limit reserve s = true) : (runSetQueueLimits q o limit reserve s).poolLaw := by
  simp only [limitsInRange, Bool.and_eq_true, decide_eq_true_eq] at hrange
  obtain ⟨⟨⟨hpos, hmax⟩, hdepth⟩, hreserve⟩ := hrange
  unfold Machine.runSetQueueLimits
  split
  · exact h.complete _ _ _
  · next hfree =>
    have replied := fun x => (h.withLimits hi hpos hmax hdepth hreserve (Nat.le_of_not_lt hfree)).complete q
      .setQueueLimits x
    dsimp only
    split
    · exact ((replied _).serveOwnPutters _).poolService
    · exact (replied _).poolService

/-! ### The other jobs -/

theorem jobCancel (target : Tag) : (jobCancel q target s).poolLaw := by
  unfold Machine.jobCancel
  split
  · unfold Machine.cancelWaiter
    dsimp only
    split
    · exact ((h.verify _).complete _ _ _).poolServiceIf _
    · exact ((h.dismiss .cancelled _).complete _ _ _).scanIf _
  · exact h.complete _ _ _

theorem jobExpiry : (jobExpiry q s).poolLaw := by
  unfold Machine.jobExpiry
  split
  · split
    · unfold Machine.expireWaiter
      dsimp only
      split
      · exact (h.verify _).poolServiceIf _
      · exact ((h.removeWaiter _).complete _ _ _).scanIf _
    · exact h
  · exact h

/-- The end of a session by lapse, break or forced close replaces a port, or resets the part (R132, R175). -/
theorem endAbruptly (cause : EndCause) (p : Port) : (s.endAbruptly cause p).poolLaw := by
  rcases s.endAbruptly_cases cause p with ⟨u, hu⟩ | hu <;> rw [hu]
  · exact u.resetPart_poolLaw
  · exact h.setPort p _

theorem asAdmin (code : RequestCode) {run : State} (hrun : run.poolLaw) : (s.asAdmin q code run).poolLaw := by
  unfold State.asAdmin
  split
  · exact hrun
  · exact h.complete _ _ _

theorem withPort (code : RequestCode) (target : Byte) {run : Port → State} (hrun : ∀ p, (run p).poolLaw) :
    (s.withPort q code target run).poolLaw := by
  unfold State.withPort
  split
  · exact hrun _
  · exact h.complete _ _ _

theorem jobSetRights (target : Byte) (rights : Rights) : (jobSetRights q target rights s).poolLaw := by
  refine h.asAdmin q _ (h.withPort q _ target fun p => ?_)
  split
  · exact h.complete _ _ _
  · exact State.poolLaw.complete (s := s.setRights p rights) (h.of_same_slots rfl rfl rfl) _ _ _

theorem jobForceClose (target : Byte) : (jobForceClose q target s).poolLaw := by
  refine h.asAdmin q _ (h.withPort q _ target fun p => ?_)
  split
  · exact h.complete _ _ _
  · split
    · exact h.complete _ _ _
    · exact (h.endAbruptly .forced p).complete _ _ _

theorem clearSlots : (clearSlots s).state.poolLaw := by
  refine List.foldlRecOn (motive := fun x : ClearRun => x.state.poolLaw) _ _ h fun x hx i _ => ?_
  unfold Machine.clearSlot
  split
  · exact (hx.verify i).deleteObject i
  · exact hx

theorem jobStoreClear : (jobStoreClear q s).poolLaw := h.asAdmin q _ (h.clearSlots.poolService.complete _ _ _)

theorem jobReadAlerts : (jobReadAlerts q s).poolLaw :=
  h.asAdmin q _ (State.poolLaw.complete (s := s.setAlerts _ _) (h.of_same_slots rfl rfl rfl) _ _ _)

theorem jobStats (target : Byte) (clear : Bool) : (jobStats q target clear s).poolLaw := by
  refine h.asAdmin q _ (h.withPort q _ target fun p => State.poolLaw.complete ?_ _ _ _)
  split
  · exact h.setPort p _
  · exact h

theorem jobSetPoolMark (mark : Half) : (jobSetPoolMark q mark s).poolLaw := by
  refine h.asAdmin q _ ?_
  split
  · exact h.complete _ _ _
  · exact State.poolLaw.complete (s := { s with poolMark := mark.toNat }) (h.of_same_slots rfl rfl rfl) _ _ _

theorem jobPartReset : (jobPartReset q s).poolLaw :=
  h.asAdmin q _ ((h.completeFor .partResetReply q _ _).of_same_slots rfl rfl rfl)

/-- Every job of the store keeps the law. -/
theorem storeJob (r : Request) : (storeJob q r s).poolLaw := by
  cases r with
  | create slot access isScoped kind label => exact h.jobCreate q slot access isScoped kind label
  | delete o => exact h.jobDelete q o
  | describe o => exact h.jobDescribe q o
  | find label => exact h.jobFind q label
  | setAccess o access => exact h.jobSetAccess q o access
  | cell o op guard wait => exact h.jobCell q o op guard wait
  | setOrder o order => exact h.jobSetOrder q o order
  | put o side value wait => exact h.withQueue q .put o fun _ hi _ => h.runPut q hi side value wait
  | take o side wait => exact h.withQueue q .take o fun _ hi _ => h.runTake q hi side wait
  | peek o index => exact h.jobPeek q o index
  | flush o => exact h.withQueue q .flush o fun _ hi _ => h.runFlush q hi
  | setQueueLimits o limit reserve =>
    exact h.withQueue q .setQueueLimits o fun _ hi hrange => h.runSetQueueLimits q hi hrange
  | acquire o wait => exact h.jobAcquire q o wait
  | release o => exact h.jobRelease q o
  | restore o => exact h.jobRestore q o
  | cancel target => exact h.jobCancel q target
  | setRights target rights => exact h.jobSetRights q target rights
  | forceClose target => exact h.jobForceClose q target
  | storeClear => exact h.jobStoreClear q
  | readAlerts => exact h.jobReadAlerts q
  | stats target clear => exact h.jobStats q target clear
  | setPoolMark mark => exact h.jobSetPoolMark q mark
  | partReset => exact h.jobPartReset q
  | nop | identify | queryTags | openSession | closeSession => exact h

end State.poolLaw

/-! ### The teardown job (R138 to R144) -/

namespace TeardownRun

/-- The law of the pool holds of the state that the stages have reached. -/
def poolLaw (x : TeardownRun) : Prop := x.state.poolLaw

theorem poolLaw_foldl {α : Type} {f : TeardownRun → α → TeardownRun} (hf : ∀ x a, x.poolLaw → (f x a).poolLaw)
    (l : List α) {x : TeardownRun} (h : x.poolLaw) : (l.foldl f x).poolLaw :=
  List.foldlRecOn l f (motive := poolLaw) h fun y hy a _ => hf y a hy

theorem poolLaw.stageOneTag {x : TeardownRun} (h : x.poolLaw) (p : Port) (j : TeardownJob) (t : Tag) :
    (stageOneTag p j x t).poolLaw := by
  have law : x.state.poolLaw := h
  unfold Machine.stageOneTag
  split
  · dsimp only
    split
    · exact law.verify _
    · unfold stageOneRemove
      dsimp only
      split
      · exact law.dismiss _ _
      · exact law.removeWaiter _
  · split
    · exact law.complete _ _ _
    · exact h

theorem poolLaw.stageOne {x : TeardownRun} (h : x.poolLaw) (p : Port) (j : TeardownJob) : (stageOne p j x).poolLaw :=
  List.foldlRecOn _ _ (motive := State.poolLaw)
    (poolLaw_foldl (fun _ t hy => hy.stageOneTag p j t) allTags h) fun _ hs i _ => State.poolLaw.scan hs i

theorem poolLaw.stageTwoSlot {x : TeardownRun} (h : x.poolLaw) (ending : SessionId) (i : SlotNo) :
    (stageTwoSlot ending x i).poolLaw := by
  have law : x.state.poolLaw := h
  unfold Machine.stageTwoSlot
  split
  · next ho =>
    split
    · next hp =>
      split
      · split
        · exact law.quarantine ho
        · exact law.abandonLock ho (by rw [hp]; nofun)
      · exact h
    · exact h
  · exact h

theorem poolLaw.stageTwo {x : TeardownRun} (h : x.poolLaw) (ending : SessionId) : (stageTwo ending x).poolLaw :=
  poolLaw_foldl (fun _ i hy => hy.stageTwoSlot ending i) allSlots h

theorem poolLaw.stageThreeSlot {x : TeardownRun} (h : x.poolLaw) (ending : SessionId) (i : SlotNo) :
    (stageThreeSlot ending x i).poolLaw := by
  have law : x.state.poolLaw := h
  unfold Machine.stageThreeSlot
  split
  · split
    · exact ((law.verify i).deleteObject i).poolServiceIf _
    · exact h
  · exact h

theorem poolLaw.stageThree {x : TeardownRun} (h : x.poolLaw) (ending : SessionId) : (stageThree ending x).poolLaw :=
  poolLaw_foldl (fun _ i hy => hy.stageThreeSlot ending i) allSlots h

theorem poolLaw.stageFour {x : TeardownRun} (h : x.poolLaw) : (stageFour x).poolLaw := State.poolLaw.poolServiceIf h _

theorem poolLaw.stageFive {x : TeardownRun} (h : x.poolLaw) (ending : SessionId) (cause : EndCause) :
    (stageFive ending cause x).poolLaw := by
  cases cause with
  | lapsed | broken | forced => exact State.poolLaw.appendAlert h _
  | closed | none => exact h

theorem poolLaw.stageSix {x : TeardownRun} (h : x.poolLaw) (p : Port) (j : TeardownJob) : (stageSix p j x).poolLaw := by
  unfold Machine.stageSix
  split
  · exact State.poolLaw.completeFor h _ _ _ _
  · exact State.poolLaw.setPort h p _

end TeardownRun

namespace State.poolLaw

variable {s : State}

/-- The teardown job keeps the law stage by stage (R138). -/
theorem jobTeardown (h : s.poolLaw) (p : Port) (j : TeardownJob) : (jobTeardown p j s).poolLaw := by
  have begun : TeardownRun.poolLaw ⟨s, 0, 0, 0, [], false⟩ := h
  have deleted := ((begun.stageOne p j).stageTwo ⟨p, j.number⟩).stageThree ⟨p, j.number⟩
  exact (deleted.stageFour.stageFive ⟨p, j.number⟩ j.cause).stageSix p j

/-! ### The commands -/

/-- A job keeps the law to its end, where an alert may join the list (R173). -/
theorem runJob {body : State → State} (h : (body s).poolLaw) : (runJob body s).poolLaw := by
  unfold Machine.runJob
  split
  · exact h.appendAlert _
  · exact h

theorem requestJob (h : s.poolLaw) (q : Sender) (r : Request) : (requestJob q r (Machine.storeJob q r) s).poolLaw := by
  unfold Machine.requestJob
  split
  · have taken : (s.takeRequest q.port).poolLaw := h.of_same_slots rfl rfl rfl
    exact State.poolLaw.runJob (taken.storeJob q r)
  · exact h

theorem takeExpiryJob (h : s.poolLaw) : (takeExpiryJob s).poolLaw := by
  unfold Machine.takeExpiryJob
  split
  · have taken : s.takeExpiry.poolLaw := h.of_same_slots rfl rfl rfl
    exact State.poolLaw.runJob (taken.jobExpiry _)
  · exact h

theorem takeTeardownJob (h : s.poolLaw) (p : Port) : (takeTeardownJob p s).poolLaw := by
  unfold Machine.takeTeardownJob
  split
  · split
    · have taken : (s.takeTeardown p).poolLaw := h.of_same_slots rfl rfl rfl
      exact State.poolLaw.runJob (taken.jobTeardown p _)
    · exact h
  · exact h

theorem lapsePort (h : s.poolLaw) (p : Port) : (lapsePort p s).poolLaw := by
  unfold Machine.lapsePort
  split
  · exact (h.setPort p _).endAbruptly _ p
  · exact h

theorem reportBreak (h : s.poolLaw) (p : Port) : (reportBreak p s).poolLaw := by
  unfold Machine.reportBreak
  split
  · dsimp only
    split
    · exact (h.setPort p _).endAbruptly _ p
    · exact h.setPort p _
  · exact h

theorem finishTransmit (h : s.poolLaw) (p : Port) : (finishTransmit p s).poolLaw := by
  unfold Machine.finishTransmit
  split
  · dsimp only
    split
    · exact h.setPort p _
    · exact h.setPort p _
    · exact State.resetPart_poolLaw _
  · exact h

theorem changePin (h : s.poolLaw) (pin : InputPin) (level : Level) : (changePin pin level s).poolLaw := by
  cases pin with
  | link p => exact h.replacesPort (changeLevel_replacesPort p level s)
  | ratesel1 | ratesel0 => exact h.of_same_slots rfl rfl rfl

/-- A command that acts while RESETN is high keeps the law where its effect does. -/
theorem perform {f : State → State} {t : State} (h : s.poolLaw) (hf : (f s).poolLaw) (ht : perform f s = .next t) :
    t.poolLaw := by
  obtain ⟨u, hu, hcases⟩ := perform_next f s
  obtain rfl : u = t := Host.Outcome.next.inj (hu.symm.trans ht)
  rcases hcases with rfl | rfl
  · exact h
  · exact hf

/-- Every command keeps the law. -/
theorem exec {c : Instr} {t : State} (h : s.poolLaw) (ht : exec c s = .next t) : t.poolLaw := by
  cases hc : c.request? with
  | some x =>
    obtain ⟨q, r⟩ := x
    cases hr : isStoreJob r with
    | true =>
      rw [exec_storeCommand hc hr] at ht
      exact h.perform (h.requestJob q r) ht
    | false =>
      obtain ⟨f, hf, hport⟩ := exec_portCommand hc hr
      rw [hf] at ht
      exact h.perform (h.replacesPort (hport s)) ht
  | none =>
    cases c with
    | supplyPowerUp | powerOnReset =>
      cases ht
      exact State.resetPart_poolLaw _
    | frameReceived p b => exact h.perform (h.replacesPort (receiveLastByte_replacesPort p b s)) ht
    | gapError p => exact h.perform (h.replacesPort (gapExpires_replacesPort p s)) ht
    | lineBreak p => exact h.perform (h.reportBreak p) ht
    | deadlineDue | timebaseTick => exact h.perform (h.of_same_slots rfl rfl rfl) ht
    | expiryJob => exact h.perform h.takeExpiryJob ht
    | lapse p => exact h.perform (h.lapsePort p) ht
    | teardown p => exact h.perform (h.takeTeardownJob p) ht
    | transmitStart p => exact h.perform (h.replacesPort (startTransmit_replacesPort p s)) ht
    | frameSent p => exact h.perform (h.finishTransmit p) ht
    | characterReceived p b => exact h.perform (h.replacesPort (receiveCharacter_replacesPort p b s)) ht
    | inputLevelChange pin level =>
      cases ht
      exact h.changePin pin level
    | _ => cases hc

end State.poolLaw

/-- Settles O56: the step runs one command, and every command keeps the law, job by job. -/
theorem poolLawIsKept : Obligations.PoolLawIsKept := by
  intro s t h ht
  unfold step at ht
  split at ht
  · cases ht
    exact h
  · next c rest _ =>
    have popped : State.poolLaw { s with pending := rest } := h.of_same_slots rfl rfl rfl
    exact popped.exec ht

end Sys2Proof.Machine
end

section
/-! PROOFS. The requests on queues: PUT (O38), TAKE (O39), PEEK and FLUSH (O40) and SET_QUEUE_LIMITS (O41), each case as
what the job does on the state as it is taken. -/

namespace Sys2Proof.Machine

/-! ### What the requests share (R45, R70, R72 to R77) -/

/-- A request on a queue that is usable, its fields in range, is carried out (R70). -/
theorem State.withObject_queue {s : State} {q : Sender} {h : Handle} {r : ObjectRecord} {range : State → Bool}
    (hu : s.usable q h r) (hp : r.part = .queue) (hrange : range s = true) (code : RequestCode)
    (run : ObjectRecord → State) : s.withObject q code h (queueChecks range) run = run r :=
  State.withObject_usable hu (by rw [hp]; rfl) hrange

theorem State.account_of_queue {s : State} {i : SlotNo} {a : QueueAccount} (ha : s.queue i = some a) :
    s.account i = a := by
  rw [State.account, ha]
  rfl

section
variable {s : State} {q : Sender} {r : Request} (hr : isStoreJob r = true) (hs : s.serves q r)
include hr hs

/-- A job whose request must wait: replied with the depth for wait limit 0, else placed (R45, R47). -/
theorem exec_waitOrReport {request : WaitRequest} {h : Handle} {wait : Half} {l : WaitList} {status : Status}
    {depth : Nat} (hl : s.listAgrees l) (hb : storeJob q r (s.takeRequest q.port) =
      waitOrReport q r.code request h wait l status depth (s.takeRequest q.port)) :
    (wait = 0#16 → exec (requestCommand q r) s =
      .next ((s.takeRequest q.port).replied q r.code.byte ⟨status, Flags.clear, .depth depth⟩)) ∧
    (wait ≠ 0#16 → ((s.port q.port).tag q.tag).state = .pending q.gen → exec (requestCommand q r) s =
      .next ((s.takeRequest q.port).waiting q request h wait l)) := by
  unfold waitOrReport at hb
  refine ⟨fun hw => ?_, fun hw htag => ?_⟩
  · rw [if_pos hw] at hb
    exact exec_replied_at_once hr hs hb
  · have tag : (((s.takeRequest q.port).port q.port).tag q.tag).state = .pending q.gen := by
      rw [State.takeRequest_tag]
      exact htag
    rw [if_neg hw, State.place_eq_waiting (s := s.takeRequest q.port) hl tag] at hb
    rw [← hb]
    exact exec_served_of_free_le hr hs (by rw [hb]; exact Nat.le_refl _)

/-- A job that serves a waiter: the waiter leaves its list, the request is replied, and then the waiter (R72, R76). -/
theorem exec_replied_both {w : WaitRecord} {code : RequestCode} {x y : Answer} (hl : s.listAgrees w.list)
    (hb : storeJob q r (s.takeRequest q.port) =
      (((s.takeRequest q.port).removeWaiter w).complete q r.code x).complete w.sender code y) :
    exec (requestCommand q r) s =
      .next ((((s.takeRequest q.port).without w).replied q r.code.byte x).complete w.sender code y) := by
  have opened : (((s.takeRequest q.port).without w).port q.port).session.state = .opened := State.serves.opened hs
  rw [State.removeWaiter_eq_without (s := s.takeRequest q.port) hl, State.complete_opened opened] at hb
  rw [← hb]
  exact exec_served_of_free_le hr hs (by rw [hb]; simp)

end

/-! ### PUT (R71 to R74) -/

theorem WaitRecord.isTaker_iff (w : WaitRecord) : w.isTaker = true ↔ ∃ e, w.request = .take e := by
  unfold WaitRecord.isTaker
  cases w.request <;> simp

/-- The oldest taker of a list (R72). -/
theorem find?_isTaker {ws before after : List WaitRecord} {w : WaitRecord} {e : QueueEnd}
    (hws : ws = before ++ w :: after) (hb : ∀ x ∈ before, ∀ e', x.request ≠ .take e') (hw : w.request = .take e) :
    ws.find? WaitRecord.isTaker = some w := by
  rw [List.find?_eq_some_iff_append]
  refine ⟨w.isTaker_iff.mpr ⟨e, hw⟩, before, after, hws, fun x hx => ?_⟩
  rw [Bool.not_eq_true', ← Bool.not_eq_true, WaitRecord.isTaker_iff]
  exact fun ⟨e', he⟩ => hb x hx e' he

theorem find?_isTaker_none {ws : List WaitRecord} (h : ∀ x ∈ ws, ∀ e, x.request ≠ .take e) :
    ws.find? WaitRecord.isTaker = none := by
  rw [List.find?_eq_none]
  intro x hx
  rw [WaitRecord.isTaker_iff]
  exact fun ⟨e, he⟩ => h x hx e he

/-- A PUT to a queue on whose list no taker waits (R71, R73, R74). -/
theorem runPut_of_no_taker {s : State} {h : Handle} {a : QueueAccount} (ha : s.queue h.slot = some a)
    (ht : ∀ x ∈ s.waitList (.object h.slot), ∀ e, x.request ≠ .take e) (q : Sender) (side : QueueEnd) (value : Word)
    (wait : Half) : runPut q h side value wait s =
      if a.limit ≤ a.depth then waitOrReport q .put (.put value side) h wait (.object h.slot) .full a.depth s
      else if s.grantable a then
        (s.linkEntry h.slot a side ⟨value, q.port⟩).complete q .put (.ok (.depth (a.depth + 1)))
      else waitOrReport q .put (.put value side) h wait .pool .noSpace a.depth s := by
  unfold runPut
  rw [find?_isTaker_none ht, State.account_of_queue ha]
  cases s.grantable a <;> rfl

/-- A PUT to a queue on whose list a taker waits hands its value to the oldest (R72). -/
theorem runPut_of_taker {s : State} {h : Handle} {w : WaitRecord}
    (hw : (s.waitList (.object h.slot)).find? WaitRecord.isTaker = some w) (q : Sender) (side : QueueEnd)
    (value : Word) (wait : Half) : runPut q h side value wait s =
      ((s.removeWaiter w).complete q .put (.ok (.depth 0))).complete w.sender .take
        ⟨.ok, Flags.waited, .entry value q.port 0⟩ := by
  unfold runPut
  rw [hw]

/-- Settles O38: the checks of the request pass, and the job is the first case of R71 that applies. -/
theorem putByCases : Obligations.PutByCases := by
  intro s q h side value wait r a hs hu hp ha
  have own : s.listAgrees (.object h.slot) := agrees_of_list (State.object_of_resolve hu.1).1 hu.2.1 (.inl rfl)
  have job : storeJob q (.put h side value wait) (s.takeRequest q.port) =
      runPut q h side value wait (s.takeRequest q.port) :=
    State.withObject_queue (s := s.takeRequest q.port) hu hp rfl _ _
  refine ⟨fun before w after e hlist hbefore hw => ?taker, fun ht => ?_⟩
  case taker =>
    have found : (s.waitList (.object h.slot)).find? WaitRecord.isTaker = some w := find?_isTaker hlist hbefore hw
    have listed : w.list = .object h.slot := State.list_of_mem_waitList (List.mem_of_find?_eq_some found)
    rw [runPut_of_taker (s := s.takeRequest q.port) found] at job
    exact exec_replied_both (r := .put h side value wait) rfl hs (by rw [listed]; exact own) job
  rw [runPut_of_no_taker (s := s.takeRequest q.port) ha ht] at job
  refine ⟨fun full => ?full, fun room hres hfree => ?ungranted, fun room grant chain hchain => ?granted⟩
  case full =>
    rw [if_pos (by exact full)] at job
    exact exec_waitOrReport (r := .put h side value wait) rfl hs own job
  case ungranted =>
    have no : ¬ (s.takeRequest q.port).grantable a = true := State.not_grantable hres hfree
    rw [if_neg (by exact Nat.not_le_of_lt room), if_neg no] at job
    exact exec_waitOrReport (r := .put h side value wait) rfl hs (by nofun) job
  case granted =>
    have yes : (s.takeRequest q.port).grantable a = true := (State.grantable_iff _ a).mpr grant
    have opened : (((s.takeRequest q.port).linkEntry h.slot a side ⟨value, q.port⟩).port q.port).session.state =
        .opened := State.serves.opened hs
    rw [if_neg (by exact Nat.not_le_of_lt room), if_pos yes, State.complete_opened opened] at job
    refine (exec_served (r := .put h side value wait) rfl hs).trans ?_
    rw [job, hchain]
    cases side <;> rfl

/-! ### TAKE (R75 to R77) -/

/-- The entry at an end of a chain (R75). -/
theorem takeAt_eq_some {side : QueueEnd} {chain rest : List Entry} {e : Entry}
    (h : side = .head ∧ chain = e :: rest ∨ side = .tail ∧ chain = rest ++ [e]) :
    takeAt side chain = some (e, rest) := by
  rcases h with ⟨rfl, rfl⟩ | ⟨rfl, rfl⟩
  · rfl
  · simp [takeAt]

theorem takeAt_nil (side : QueueEnd) : takeAt side [] = none := by cases side <;> rfl

section
variable {s : State} {h : Handle} {a : QueueAccount} (ha : s.queue h.slot = some a)
include ha

/-- A TAKE from a queue that holds entries (R75). -/
theorem runTake_of_entry {side : QueueEnd} {e : Entry} {rest : List Entry} (he : takeAt side a.chain = some (e, rest))
    (q : Sender) (wait : Half) : runTake q h side wait s =
      (((s.poolBecomes h.slot { a with chain := rest } (s.free + 1)).complete q .take
        (.ok (.entry e.value e.source rest.length))).serveOwnPutters h.slot).poolService := by
  unfold runTake
  rw [State.account_of_queue ha, he]
  rfl

/-- A TAKE from an empty queue for which a put waits on the pool wait list (R76). -/
theorem runTake_of_pool_put {w : WaitRecord} {value : Word} (he : a.chain = [])
    (hw : s.oldestPoolPut h.slot = some (w, value)) (q : Sender) (side : QueueEnd) (wait : Half) :
    runTake q h side wait s =
      ((s.removeWaiter w).complete q .take (.ok (.entry value w.sender.port 0))).complete w.sender .put
        ⟨.ok, Flags.waited, .depth 0⟩ := by
  unfold runTake
  rw [State.account_of_queue ha, he, takeAt_nil, hw]

/-- A TAKE from an empty queue for which no put waits (R77). -/
theorem runTake_of_empty (he : a.chain = []) (hw : s.oldestPoolPut h.slot = none) (q : Sender) (side : QueueEnd)
    (wait : Half) :
    runTake q h side wait s = waitOrReport q .take (.take side) h wait (.object h.slot) .empty 0 s := by
  unfold runTake
  rw [State.account_of_queue ha, he, takeAt_nil, hw]

end

/-- Settles O39: the checks of the request pass, and the chain and the pool wait list decide what the job does. -/
theorem takeByCases : Obligations.TakeByCases := by
  intro s q h side wait r a hs hu hp ha
  have job : storeJob q (.take h side wait) (s.takeRequest q.port) = runTake q h side wait (s.takeRequest q.port) :=
    State.withObject_queue (s := s.takeRequest q.port) hu hp rfl _ _
  refine ⟨fun e rest hend => ?entry, fun he => ⟨fun w ws value e hputs hw => ?poolPut, fun hputs => ?empty⟩⟩
  case entry =>
    have opened : (((s.takeRequest q.port).poolBecomes h.slot { a with chain := rest } (s.free + 1)).port
        q.port).session.state = .opened := State.serves.opened hs
    rw [runTake_of_entry (s := s.takeRequest q.port) ha (takeAt_eq_some hend), State.takeRequest_free,
      State.complete_opened opened] at job
    exact (exec_served (r := .take h side wait) rfl hs).trans (by rw [job]; rfl)
  case poolPut =>
    have oldest : s.oldestPoolPut h.slot = some (w, value) := by
      unfold State.oldestPoolPut
      rw [hputs, List.findSome?_cons, hw]
    have listed : w.list = .pool := by
      have mem : w ∈ s.poolPuts h.slot := by rw [hputs]; exact List.mem_cons_self
      exact beq_iff_eq.mp (Bool.and_eq_true_iff.mp (List.mem_filter.mp mem).2).1
    rw [runTake_of_pool_put (s := s.takeRequest q.port) ha he oldest] at job
    exact exec_replied_both (r := .take h side wait) rfl hs (by rw [listed]; nofun) job
  case empty =>
    have nobody : s.oldestPoolPut h.slot = none := by
      unfold State.oldestPoolPut
      rw [hputs, List.findSome?_nil]
    have own : s.listAgrees (.object h.slot) := agrees_of_list (State.object_of_resolve hu.1).1 hu.2.1 (.inl rfl)
    rw [runTake_of_empty (s := s.takeRequest q.port) ha he nobody] at job
    exact exec_waitOrReport (r := .take h side wait) rfl hs own job

/-! ### PEEK and FLUSH (R80, R81) -/

theorem jobPeek_of_entry {s : State} {q : Sender} {h : Handle} {r : ObjectRecord} {a : QueueAccount} {index : Half}
    {e : Entry} (hu : s.usable q h r) (hp : r.part = .queue) (ha : s.queue h.slot = some a)
    (he : a.chain[index.toNat]? = some e) :
    jobPeek q h index s = s.complete q .peek (.ok (.entry e.value e.source a.depth)) := by
  obtain ⟨below, -⟩ := List.getElem?_eq_some_iff.mp he
  unfold jobPeek
  rw [State.withObject_queue hu hp (by rw [State.account_of_queue ha]; exact decide_eq_true below),
    State.account_of_queue ha, he]

section
variable {s : State} {h : Handle} {a : QueueAccount} (ha : s.queue h.slot = some a)
include ha

theorem runFlush_of_empty (he : a.chain = []) (q : Sender) :
    runFlush q h s = s.complete q .flush (.ok (.flushed 0 0)) := by
  unfold runFlush
  rw [State.account_of_queue ha, if_pos (by rw [QueueAccount.depth, he]; rfl)]

theorem runFlush_of_entries (he : a.chain ≠ []) (q : Sender) : runFlush q h s =
    (((s.poolBecomes h.slot { a with chain := [] } (s.free + a.chain.length)).complete q .flush
      (.ok (.flushed a.chain.length 0))).serveOwnPutters h.slot).poolService := by
  unfold runFlush
  rw [State.account_of_queue ha, if_neg (by exact mt List.length_eq_zero_iff.mp he)]
  rfl

end

/-- Settles O40: a PEEK only replies, and a FLUSH only replies on an empty queue and otherwise gives the chain back. -/
theorem peekAndFlushQueues : Obligations.PeekAndFlushQueues := by
  intro s q h r a hu hp ha
  refine ⟨fun index e hs he => ?peek, fun hs => ?flush⟩
  case peek =>
    exact exec_replied_at_once (r := .peek h index) rfl hs (jobPeek_of_entry (s := s.takeRequest q.port) hu hp ha he)
  case flush =>
    have job : storeJob q (.flush h) (s.takeRequest q.port) = runFlush q h (s.takeRequest q.port) :=
      State.withObject_queue (s := s.takeRequest q.port) hu hp rfl _ _
    refine ⟨fun he => ?_, fun he => ?_⟩
    · rw [runFlush_of_empty (s := s.takeRequest q.port) ha he] at job
      exact exec_replied_at_once (r := .flush h) rfl hs job
    · have opened : (((s.takeRequest q.port).poolBecomes h.slot { a with chain := [] }
          (s.free + a.chain.length)).port q.port).session.state = .opened := State.serves.opened hs
      rw [runFlush_of_entries (s := s.takeRequest q.port) ha he, State.takeRequest_free,
        State.complete_opened opened] at job
      exact (exec_served (r := .flush h) rfl hs).trans (by rw [job]; rfl)

/-! ### SET_QUEUE_LIMITS (R82, R83) -/

/-- SET_QUEUE_LIMITS with the state as it would stand: refused, or replied and followed by the services. -/
theorem runSetQueueLimits_eq {s u v : State} {q : Sender} {h : Handle} {a : QueueAccount} {limit reserve : Half}
    (ha : s.queue h.slot = some a)
    (hu : u = s.poolBecomes h.slot { a with limit := limit.toNat, reserve := reserve.toNat } s.free)
    (hv : v = u.complete q .setQueueLimits (.ok (.limits limit.toNat reserve.toNat a.depth))) :
    runSetQueueLimits q h limit reserve s =
      if s.free < u.outstanding then s.complete q .setQueueLimits (.refuse .noSpace)
      else (if a.limit < limit.toNat then v.serveOwnPutters h.slot else v).poolService := by
  have written : s.withLimits h.slot limit reserve = u := by
    rw [hu, State.withLimits, State.account_of_queue ha]
    rfl
  unfold runSetQueueLimits
  rw [written, State.account_of_queue ha, hv]

/-- Settles O41: the pool's cover of the reserve decides between the refusal and the reply, and the limit between the
services. -/
theorem setQueueLimitsWritesOrRefuses : Obligations.SetQueueLimitsWritesOrRefuses := by
  intro s q h limit reserve r a hs hu hp ha hpos hmax hdepth hres u hu'
  have range : limitsInRange h limit reserve (s.takeRequest q.port) = true := by
    unfold limitsInRange
    rw [State.takeRequest_account, State.account_of_queue ha]
    simp only [Bool.and_eq_true, decide_eq_true_eq]
    exact ⟨⟨⟨hpos, hmax⟩, hdepth⟩, hres⟩
  have job : storeJob q (.setQueueLimits h limit reserve) (s.takeRequest q.port) =
      runSetQueueLimits q h limit reserve (s.takeRequest q.port) :=
    State.withObject_queue (s := s.takeRequest q.port) hu hp range _ _
  have opened : (u.port q.port).session.state = .opened := by
    rw [hu']
    exact State.serves.opened hs
  rw [runSetQueueLimits_eq (s := s.takeRequest q.port) ha hu' (State.complete_opened opened _ _).symm,
    State.takeRequest_free] at job
  refine ⟨fun short => ?_, fun covered v hv => ?_⟩
  · rw [if_pos short] at job
    exact exec_refused (r := .setQueueLimits h limit reserve) rfl hs job
  · have runs := exec_served (r := .setQueueLimits h limit reserve) rfl hs
    rw [job, if_neg (Nat.not_lt_of_le covered)] at runs
    subst hv
    refine ⟨fun rises => ?_, fun stays => ?_⟩
    · rw [if_pos rises] at runs
      exact runs
    · rw [if_neg (Nat.not_lt_of_le stays)] at runs
      exact runs

end Sys2Proof.Machine
end

section
/-! PROOFS. The frame of the requests on queues (O55): where every record agrees with its check each of their operations
leaves the objects and all but ports, waits, accounting and alerts, and, where the puts in reach are for one queue, the
accounting of every other queue. -/

namespace Sys2Proof.Machine

/-! ### The two relations -/

/-- Every object record agrees with its check (R10). -/
def State.recordsAgree (s : State) : Prop := ∀ i r, s.object i = some r → r.check = .agrees

/-- Where every record agrees with its check, nothing changes but ports, waits, deadlines, the accounting and free count
of the pool, alerts and the search start. -/
def State.LeavesObjects (s t : State) : Prop :=
  s.recordsAgree → t = { s with
    ports := t.ports, searchStart := t.searchStart, waits := t.waits, queues := t.queues, free := t.free,
    alerts := t.alerts, dropped := t.dropped, indications := t.indications, deadlines := t.deadlines }

/-- The waiters on the list of the object in one slot and on the pool wait list name that object. -/
def State.puttersNameOnly (s : State) (i : SlotNo) : Prop :=
  ∀ w ∈ s.waits, w.list = .object i ∨ w.list = .pool → w.target.slot = i

/-- Where the waiters in reach name one queue, they still do, and the accounting of every other slot stays. -/
def State.ServesOnly (s : State) (i : SlotNo) (t : State) : Prop :=
  s.puttersNameOnly i → t.puttersNameOnly i ∧ ∀ j, j ≠ i → t.queue j = s.queue j

theorem State.recordsAgree.congr {s t : State} (h : s.recordsAgree) (hs : t.slots = s.slots) : t.recordsAgree :=
  fun i r ho => h i r (by unfold State.object State.slot at ho ⊢; rwa [hs] at ho)

theorem State.recordsAgree.list {s : State} (h : s.recordsAgree) (l : WaitList) : s.listAgrees l :=
  fun i r _ => h i r

theorem State.LeavesObjects.refl (s : State) : s.LeavesObjects s := fun _ => rfl

/-- What is read off the fields that stay. -/
theorem State.LeavesObjects.reads {s t : State} {β : Type} (h : s.LeavesObjects t) (hs : s.recordsAgree) (f : State → β)
    (hf : f { s with
      ports := t.ports, searchStart := t.searchStart, waits := t.waits, queues := t.queues, free := t.free,
      alerts := t.alerts, dropped := t.dropped, indications := t.indications, deadlines := t.deadlines } = f s) :
    f t = f s := (congrArg f (h hs)).trans hf

theorem State.LeavesObjects.trans {s t u : State} (h : s.LeavesObjects t) (h' : t.LeavesObjects u) :
    s.LeavesObjects u := by
  intro hs
  have agree : t.recordsAgree := hs.congr (h.reads hs State.slots rfl)
  refine (h' agree).trans (congrArg (fun x : State => { x with
    ports := u.ports, searchStart := u.searchStart, waits := u.waits, queues := u.queues, free := u.free,
    alerts := u.alerts, dropped := u.dropped, indications := u.indications, deadlines := u.deadlines }) (h hs))

theorem State.ServesOnly.refl (s : State) (i : SlotNo) : s.ServesOnly i s := fun hs => ⟨hs, fun _ _ => rfl⟩

theorem State.ServesOnly.trans {s t u : State} {i : SlotNo} (h : s.ServesOnly i t) (h' : t.ServesOnly i u) :
    s.ServesOnly i u := by
  intro hs
  obtain ⟨ht, queue⟩ := h hs
  obtain ⟨hu, queue'⟩ := h' ht
  exact ⟨hu, fun j hj => (queue' j hj).trans (queue j hj)⟩

/-- No waiter joins but for the object in the slot, and no other accounting changes. -/
theorem State.ServesOnly.of_waits {s t : State} {i : SlotNo} (hw : ∀ w ∈ t.waits, w ∈ s.waits ∨ w.target.slot = i)
    (hq : ∀ j, j ≠ i → t.queue j = s.queue j) : s.ServesOnly i t := by
  refine fun hs => ⟨fun w hmem hl => ?_, hq⟩
  rcases hw w hmem with hmem | htarget
  · exact hs w hmem hl
  · exact htarget

/-! ### Replies and wait records -/

theorem State.ReplacesPort.leavesObjects {s t : State} {p : Port} (h : s.ReplacesPort p t) : s.LeavesObjects t := by
  obtain ⟨x, rfl⟩ := h
  exact fun _ => rfl

theorem State.complete_leavesObjects (s : State) (q : Sender) (code : RequestCode) (x : Answer) :
    s.LeavesObjects (s.complete q code x) := (s.complete_replacesPort q code x).leavesObjects

theorem State.complete_servesOnly (s : State) (q : Sender) (code : RequestCode) (x : Answer) (i : SlotNo) :
    s.ServesOnly i (s.complete q code x) :=
  .of_waits (fun _ hw => .inl (by rwa [State.complete_waits] at hw))
    fun j _ => State.queue_congr (State.complete_queues _ _ _ _) j

theorem State.removeWaiter_leavesObjects (s : State) (w : WaitRecord) : s.LeavesObjects (s.removeWaiter w) := by
  intro hs
  rw [State.removeWaiter_eq_without (hs.list w.list)]
  rfl

theorem State.removeWaiter_servesOnly (s : State) (w : WaitRecord) (i : SlotNo) : s.ServesOnly i (s.removeWaiter w) :=
  .of_waits (fun _ hv => .inl (List.mem_of_mem_erase (by rwa [State.removeWaiter_waits] at hv)))
    fun j _ => State.queue_congr (State.removeWaiter_queues _ _) j

theorem State.moveWaiter_leavesObjects (s : State) (w : WaitRecord) (l : WaitList) :
    s.LeavesObjects (s.moveWaiter w l) := by
  intro hs
  rw [State.moveWaiter_eq (hs.list w.list) (hs.list l)]

theorem State.moveWaiter_servesOnly (s : State) {w : WaitRecord} {i : SlotNo} (hw : w.target.slot = i) (l : WaitList) :
    s.ServesOnly i (s.moveWaiter w l) := by
  refine .of_waits (fun v hv => ?_) fun j _ => State.queue_congr (State.moveWaiter_queues _ _ _) j
  rw [State.moveWaiter_waits, List.mem_append, List.mem_singleton] at hv
  rcases hv with hv | rfl
  · exact .inl (List.mem_of_mem_erase hv)
  · exact .inr hw

theorem State.addDeadline_leavesObjects (s : State) (q : Sender) (deadline : Option Word) :
    s.LeavesObjects (s.addDeadline q deadline) := by
  cases deadline <;> exact fun _ => rfl

theorem State.notifyWaiting_leavesObjects (s : State) (q : Sender) : s.LeavesObjects (s.notifyWaiting q) := by
  obtain ⟨y, h, -⟩ := s.notifyWaiting_port q
  exact State.ReplacesPort.leavesObjects ⟨y, h⟩

theorem State.place_leavesObjects (s : State) (q : Sender) (request : WaitRequest) (target : Handle) (wait : Half)
    (l : WaitList) : s.LeavesObjects (s.place q request target wait l) := by
  have listed : ∀ ws, s.LeavesObjects ({ s with waits := ws }.listWritten l) := fun ws hs => by
    rw [State.listWritten_same (s := { s with waits := ws }) (hs.list l)]
  exact ((listed _).trans (State.addDeadline_leavesObjects _ q _)).trans (State.notifyWaiting_leavesObjects _ q)

theorem State.place_servesOnly (s : State) (q : Sender) (request : WaitRequest) (target : Handle) (wait : Half)
    (l : WaitList) : s.ServesOnly target.slot (s.place q request target wait l) := by
  refine .of_waits (fun v hv => ?_) fun j _ => State.queue_congr (State.place_queues _ _ _ _ _ _) j
  have waits : (s.place q request target wait l).waits = s.waits ++ [⟨q, request, target, s.deadlineFor wait, l⟩] := by
    simp [State.place]
  rw [waits, List.mem_append, List.mem_singleton] at hv
  exact hv.imp_right fun hv => by rw [hv]

/-- An accounting and the free count written. -/
theorem State.poolBecomes_leavesObjects (s : State) (i : SlotNo) (a : QueueAccount) (free : Nat) :
    s.LeavesObjects (s.poolBecomes i a free) := fun _ => rfl

theorem State.poolBecomes_servesOnly (s : State) (i : SlotNo) (a : QueueAccount) (free : Nat) :
    s.ServesOnly i (s.poolBecomes i a free) :=
  .of_waits (fun _ hw => .inl hw) fun j hj => (s.queue_setQueue i j _).trans (if_neg (Ne.symm hj))

/-! ### The services of waiting puts (R73, R79, R86) -/

theorem State.grantPut_leavesObjects (s : State) (i : SlotNo) (a : QueueAccount) (w : WaitRecord) (value : Word)
    (side : QueueEnd) : s.LeavesObjects (s.grantPut i a w value side) :=
  ((s.removeWaiter_leavesObjects w).trans (State.poolBecomes_leavesObjects _ i _ _)).trans
    (State.complete_leavesObjects _ _ _ _)

theorem State.grantPut_servesOnly (s : State) (i : SlotNo) (a : QueueAccount) (w : WaitRecord) (value : Word)
    (side : QueueEnd) : s.ServesOnly i (s.grantPut i a w value side) :=
  ((s.removeWaiter_servesOnly w i).trans (State.poolBecomes_servesOnly _ i _ _)).trans
    (State.complete_servesOnly _ _ _ _ i)

theorem serveOwnPutter_leavesObjects (i : SlotNo) (s : State) (w : WaitRecord) :
    s.LeavesObjects (serveOwnPutter i s w) := by
  unfold serveOwnPutter
  split
  · split
    · split
      · exact s.grantPut_leavesObjects _ _ _ _ _
      · exact s.moveWaiter_leavesObjects _ _
    · exact .refl s
  · exact .refl s

theorem serveOwnPutter_servesOnly {i : SlotNo} {w : WaitRecord} (hw : w.target.slot = i) (s : State) :
    s.ServesOnly i (serveOwnPutter i s w) := by
  unfold serveOwnPutter
  split
  · split
    · split
      · exact s.grantPut_servesOnly _ _ _ _ _
      · exact s.moveWaiter_servesOnly hw _
    · exact .refl s i
  · exact .refl s i

theorem State.serveOwnPutters_leavesObjects (s : State) (i : SlotNo) : s.LeavesObjects (s.serveOwnPutters i) :=
  List.foldlRecOn (motive := s.LeavesObjects) _ _ (.refl s)
    fun _ ht w _ => ht.trans (serveOwnPutter_leavesObjects i _ w)

/-- The waiters of the list that a service walks name the object in the slot. -/
theorem State.puttersNameOnly.target {s : State} {i : SlotNo} (h : s.puttersNameOnly i) {l : WaitList}
    (hl : l = .object i ∨ l = .pool) {w : WaitRecord} (hw : w ∈ s.waitList l) : w.target.slot = i :=
  h w (List.mem_filter.mp hw).1 (by rw [State.list_of_mem_waitList hw]; exact hl)

theorem State.serveOwnPutters_servesOnly (s : State) (i : SlotNo) : s.ServesOnly i (s.serveOwnPutters i) := fun hs =>
  List.foldlRecOn (motive := s.ServesOnly i) _ _ (.refl s i)
    (fun _ ht _ hw => ht.trans (serveOwnPutter_servesOnly (hs.target (.inl rfl) hw) _)) hs

theorem poolPassRecord_leavesObjects (x : State × Bool) (w : WaitRecord) :
    x.1.LeavesObjects (poolPassRecord x w).1 := by
  unfold poolPassRecord
  split
  · split
    · exact x.1.moveWaiter_leavesObjects w (.object w.target.slot)
    · split
      · exact x.1.grantPut_leavesObjects _ _ _ _ _
      · exact .refl _
  · exact .refl _

theorem poolPassRecord_servesOnly {i : SlotNo} {w : WaitRecord} (hw : w.target.slot = i) (x : State × Bool) :
    x.1.ServesOnly i (poolPassRecord x w).1 := by
  subst hw
  unfold poolPassRecord
  split
  · split
    · exact x.1.moveWaiter_servesOnly rfl _
    · split
      · exact x.1.grantPut_servesOnly _ _ _ _ _
      · exact .refl _ _
  · exact .refl _ _

theorem poolPass_leavesObjects (s : State) : s.LeavesObjects (poolPass s).1 :=
  List.foldlRecOn (motive := fun x : State × Bool => s.LeavesObjects x.1) _ _ (.refl s)
    fun _ hx w _ => hx.trans (poolPassRecord_leavesObjects _ w)

theorem poolPass_servesOnly (s : State) (i : SlotNo) : s.ServesOnly i (poolPass s).1 := fun hs =>
  List.foldlRecOn (motive := fun x : State × Bool => s.ServesOnly i x.1) _ _ (.refl s i)
    (fun _ hx _ hw => hx.trans (poolPassRecord_servesOnly (hs.target (.inr rfl) hw) _)) hs

theorem State.poolService_leavesObjects (s : State) : s.LeavesObjects s.poolService :=
  State.poolService_induction .refl (fun _ _ _ => .trans) poolPass_leavesObjects s

theorem State.poolService_servesOnly (s : State) (i : SlotNo) : s.ServesOnly i s.poolService :=
  State.poolService_induction (fun s => .refl s i) (fun _ _ _ => .trans) (fun s => poolPass_servesOnly s i) s

/-! ### The requests at step 8 -/

/-- What a request on the queue in one slot does: the services continue the state, the objects stay, and of the
accounting that of the queue changes alone, where no other queue's puts are in reach. -/
structure State.QueueServed (s : State) (i : SlotNo) (t : State) : Prop where
  continues : s.Continues t
  objects : s.LeavesObjects t
  queues : s.ServesOnly i t

theorem State.QueueServed.refl (s : State) (i : SlotNo) : s.QueueServed i s := ⟨.refl s, .refl s, .refl s i⟩

theorem State.QueueServed.trans {s t u : State} {i : SlotNo} (h : s.QueueServed i t) (h' : t.QueueServed i u) :
    s.QueueServed i u :=
  ⟨h.continues.trans h'.continues, h.objects.trans h'.objects, h.queues.trans h'.queues⟩

section
variable (s : State) (i : SlotNo)

theorem State.complete_queueServed (q : Sender) (code : RequestCode) (x : Answer) :
    s.QueueServed i (s.complete q code x) :=
  ⟨s.complete_continues q code x, s.complete_leavesObjects q code x, s.complete_servesOnly q code x i⟩

/-- A waiter served: it leaves its list, and the request and then the waiter are replied (R72, R76). -/
theorem State.replyBoth_queueServed (w : WaitRecord) (q q' : Sender) (code code' : RequestCode) (x x' : Answer) :
    s.QueueServed i (((s.removeWaiter w).complete q code x).complete q' code' x') :=
  (State.QueueServed.trans
    ⟨s.removeWaiter_continues w, s.removeWaiter_leavesObjects w, s.removeWaiter_servesOnly w i⟩
    (State.complete_queueServed _ i q code x)).trans (State.complete_queueServed _ i q' code' x')

/-- An accounting and the free count written, and a request replied. -/
theorem State.poolBecomes_queueServed (a : QueueAccount) (free : Nat) (q : Sender) (code : RequestCode) (x : Answer) :
    s.QueueServed i ((s.poolBecomes i a free).complete q code x) := by
  have written : s.QueueServed i (s.poolBecomes i a free) :=
    ⟨.of_same rfl rfl rfl, s.poolBecomes_leavesObjects i a free, s.poolBecomes_servesOnly i a free⟩
  exact written.trans (State.complete_queueServed _ i q code x)

theorem State.serveOwnPutters_queueServed : s.QueueServed i (s.serveOwnPutters i) :=
  ⟨s.serveOwnPutters_continues i, s.serveOwnPutters_leavesObjects i, s.serveOwnPutters_servesOnly i⟩

theorem State.poolService_queueServed : s.QueueServed i s.poolService :=
  ⟨s.poolService_continues, s.poolService_leavesObjects, s.poolService_servesOnly i⟩

end

section
variable (q : Sender) (h : Handle) (s : State)

theorem waitOrReport_queueServed (code : RequestCode) (request : WaitRequest) (wait : Half) (l : WaitList)
    (status : Status) (depth : Nat) :
    s.QueueServed h.slot (waitOrReport q code request h wait l status depth s) := by
  unfold waitOrReport
  split
  · exact s.complete_queueServed _ _ _ _
  · exact ⟨s.place_continues _ _ _ _ _, s.place_leavesObjects _ _ _ _ _, s.place_servesOnly _ _ _ _ _⟩

theorem runPut_queueServed (side : QueueEnd) (value : Word) (wait : Half) :
    s.QueueServed h.slot (runPut q h side value wait s) := by
  unfold runPut
  split
  · exact s.replyBoth_queueServed _ _ _ _ _ _ _ _
  · split
    · exact waitOrReport_queueServed _ _ _ _ _ _ _ _ _
    · split
      · exact waitOrReport_queueServed _ _ _ _ _ _ _ _ _
      · exact s.poolBecomes_queueServed h.slot _ _ _ _ _

/-- Entries go back to the pool, the request is replied, and the queue's putters and the pool are served (R75, R81). -/
theorem State.entriesTaken_queueServed (i : SlotNo) (a : QueueAccount) (free : Nat) (code : RequestCode) (x : Answer) :
    s.QueueServed i ((((s.poolBecomes i a free).complete q code x).serveOwnPutters i).poolService) :=
  ((s.poolBecomes_queueServed i a free q code x).trans (State.serveOwnPutters_queueServed _ i)).trans
    (State.poolService_queueServed _ i)

theorem runTake_queueServed (side : QueueEnd) (wait : Half) : s.QueueServed h.slot (runTake q h side wait s) := by
  unfold runTake
  split
  · exact State.entriesTaken_queueServed q s h.slot _ _ _ _
  · split
    · exact s.replyBoth_queueServed _ _ _ _ _ _ _ _
    · exact waitOrReport_queueServed _ _ _ _ _ _ _ _ _

theorem runFlush_queueServed : s.QueueServed h.slot (runFlush q h s) := by
  unfold runFlush
  split
  · exact s.complete_queueServed _ _ _ _
  · exact State.entriesTaken_queueServed q s h.slot _ _ _ _

theorem runSetQueueLimits_queueServed (limit reserve : Half) :
    s.QueueServed h.slot (runSetQueueLimits q h limit reserve s) := by
  have replied := fun x => s.poolBecomes_queueServed h.slot
    { s.account h.slot with limit := limit.toNat, reserve := reserve.toNat } s.free q .setQueueLimits x
  unfold runSetQueueLimits
  split
  · exact s.complete_queueServed _ _ _ _
  · dsimp only
    split
    · exact ((replied _).trans (State.serveOwnPutters_queueServed _ _)).trans (State.poolService_queueServed _ _)
    · exact (replied _).trans (State.poolService_queueServed _ _)

end

/-! ### The jobs -/

/-- A request on an object whose record does not fail its check is refused, or carried out (R9). -/
theorem State.withObject_queueServed {s : State} {h : Handle} {i : SlotNo} {run : ObjectRecord → State}
    (hc : ∀ o, s.resolve h = some o → o.check = .agrees) (hrun : ∀ r, s.QueueServed i (run r)) (q : Sender)
    (code : RequestCode) (c : Checks) : s.QueueServed i (s.withObject q code h c run) := by
  have refused := fun status => s.complete_queueServed i q code (.refuse status)
  unfold State.withObject
  split
  · exact refused _
  · next r hr =>
    rw [if_neg (by rw [ObjectRecord.not_failsCheck (.inl (hc r hr))]; exact Bool.false_ne_true)]
    iterate 5
      split
      · exact refused _
    exact hrun r

/-- The job of a request on a queue. -/
theorem storeJob_queueServed {s : State} {r : Request} {h : Handle} (hr : onQueue r = true)
    (hh : requestHandle r = some h) (hs : s.recordsAgree) (q : Sender) : s.QueueServed h.slot (storeJob q r s) := by
  have hc : ∀ o, s.resolve h = some o → o.check = .agrees := fun o ho => hs h.slot o (State.object_of_resolve ho).1
  cases r with
  | put o side value wait =>
    cases hh
    exact State.withObject_queueServed hc (fun _ => runPut_queueServed q h s side value wait) _ _ _
  | take o side wait =>
    cases hh
    exact State.withObject_queueServed hc (fun _ => runTake_queueServed q h s side wait) _ _ _
  | peek o index =>
    cases hh
    refine State.withObject_queueServed hc (fun _ => ?_) _ _ _
    split
    · exact s.complete_queueServed _ _ _ _
    · exact .refl s _
  | flush o =>
    cases hh
    exact State.withObject_queueServed hc (fun _ => runFlush_queueServed q h s) _ _ _
  | setQueueLimits o limit reserve =>
    cases hh
    exact State.withObject_queueServed hc (fun _ => runSetQueueLimits_queueServed q h s limit reserve) _ _ _
  | _ => cases hr

theorem State.endsJob_leavesObjects (start u : State) : u.LeavesObjects (start.endsJob u) := by
  unfold State.endsJob State.appendAlert
  split
  · split <;> exact fun _ => rfl
  · exact .refl u

theorem State.LeavesObjects.sameOutside {s t : State} (h : s.LeavesObjects t) (hs : s.recordsAgree)
    (hp : ∀ p, (s.port p).keepsLink (t.port p)) : s.sameOutside t :=
  ⟨h.reads hs State.resetn rfl, h.reads hs State.straps rfl, h.reads hs State.lineRate rfl,
    h.reads hs State.timebase rfl, h.reads hs State.expiry rfl, h.reads hs State.resetPending rfl,
    h.reads hs State.rights rfl, h.reads hs State.poolMark rfl, h.reads hs State.labelMap rfl, hp⟩

/-- Settles O55: the job of the request leaves the objects, continues the ports, and serves no other queue where none of
its puts is in reach. -/
theorem queueRequestsFrame : Obligations.QueueRequestsFrame := by
  intro s t q r h hr hh hs he
  rcases exec_requestCommand_cases (isStoreJob_of_requestHandle hh) he with rfl | rfl
  · exact ⟨(State.LeavesObjects.refl t).sameOutside hs fun p => (PortState.Continues.refl _).keepsLink,
      rfl, fun _ _ => rfl, fun _ _ _ _ => rfl⟩
  · obtain ⟨continues, objects, queues⟩ := storeJob_queueServed (s := s.takeRequest q.port) hr hh hs q
    have taken : s.LeavesObjects (s.takeRequest q.port) := fun _ => rfl
    have left := (taken.trans objects).trans (s.endsJob_leavesObjects _)
    have ports := continues.trans (s.endsJob_continues _)
    refine ⟨left.sameOutside hs fun p => State.takeRequest_keepsLink (ports.port p), left.reads hs State.slots rfl,
      fun p hp => ?_, fun hpool hown i hi => ?_⟩
    · rw [(ports.port p).requests, s.takeRequest_port_ne hp]
    · have named : (s.takeRequest q.port).puttersNameOnly h.slot := by
        intro w hw hl
        rcases hl with hl | hl
        · exact hown w (List.mem_filter.mpr ⟨hw, beq_iff_eq.mpr hl⟩)
        · have mem : w ∈ s.waitList .pool := List.mem_filter.mpr ⟨hw, beq_iff_eq.mpr hl⟩
          rw [hpool] at mem
          cases mem
      rw [State.queue_congr (State.endsJob_queues _ _)]
      exact (queues named).2 i hi

end Sys2Proof.Machine
end

section
/-! PROOFS. The requests on locks: ACQUIRE (O44), and RELEASE and RESTORE with the hand-off of a lock (O45), each case
as what the job does on the state as it is taken. -/

namespace Sys2Proof.Machine

/-! ### What the requests share (R90, R91) -/

/-- A request on a lock that is usable is carried out (R90). -/
theorem State.withObject_lock {s : State} {q : Sender} {h : Handle} {r : ObjectRecord} {holder : Option SessionId}
    {count : Nat} {damaged : Bool} (hu : s.usable q h r) (hp : r.part = .lock holder count damaged)
    (code : RequestCode) (run : ObjectRecord → State) : s.withObject q code h lockChecks run = run r :=
  State.withObject_usable hu (by rw [hp]; rfl) rfl

section
variable {s : State} {q : Sender} {req : Request} (hr : isStoreJob req = true) (hs : s.serves q req)
include hr hs

/-- A job that writes a lock's record and replies. -/
theorem exec_lockWritten {i : SlotNo} {r : ObjectRecord} {holder : Option SessionId} {count : Nat} {damaged : Bool}
    {x : Answer} (hc : r.check = .agrees) (hb : storeJob q req (s.takeRequest q.port) =
      ((s.takeRequest q.port).writeRecord i (r.withLock holder count damaged)).complete q req.code x) :
    exec (requestCommand q req) s =
      .next (((s.takeRequest q.port).lockBecomes i r holder count damaged).replied q req.code.byte x) := by
  rw [State.written_replied (r := r.withLock holder count damaged) hs hc] at hb
  exact (exec_served_of_free_le hr hs (by rw [hb]; exact Nat.le_refl _)).trans (by rw [hb]; rfl)

/-- A job that places its request as a waiter, its tag being PENDING (R47). -/
theorem exec_placed {request : WaitRequest} {h : Handle} {wait : Half} {l : WaitList} (hl : s.listAgrees l)
    (ht : ((s.port q.port).tag q.tag).state = .pending q.gen)
    (hb : storeJob q req (s.takeRequest q.port) = (s.takeRequest q.port).place q request h wait l) :
    exec (requestCommand q req) s = .next ((s.takeRequest q.port).waiting q request h wait l) := by
  have tag : (((s.takeRequest q.port).port q.port).tag q.tag).state = .pending q.gen := by
    rw [State.takeRequest_tag]
    exact ht
  rw [State.place_eq_waiting (s := s.takeRequest q.port) hl tag] at hb
  rw [← hb]
  exact exec_served_of_free_le hr hs (by rw [hb]; exact Nat.le_refl _)

end

/-! ### ACQUIRE (R92 to R94) -/

section
variable {q : Sender} {h : Handle} {wait : Half} {s : State} {r : ObjectRecord} {count : Nat} {damaged : Bool}

/-- An ACQUIRE on a usable lock reaches step 8. -/
theorem jobAcquire_usable {holder : Option SessionId} (hu : s.usable q h r)
    (hp : r.part = .lock holder count damaged) :
    jobAcquire q h wait s = runAcquire q h wait s r holder count damaged := by
  unfold jobAcquire
  rw [State.withObject_lock hu hp, hp]

/-- A free lock is taken (R92). -/
theorem runAcquire_of_free : runAcquire q h wait s r none count damaged =
    (s.writeRecord h.slot (r.withLock (some (s.sessionOf q.port)) 1 damaged)).complete q .acquire
      (lockAnswer .ok damaged (some (s.sessionOf q.port)) 1) := rfl

/-- The holding session re-enters, up to the greatest count (R93). -/
theorem runAcquire_of_own : runAcquire q h wait s r (some (s.sessionOf q.port)) count damaged =
    if count < 255 then
      (s.writeRecord h.slot (r.withLock (some (s.sessionOf q.port)) (count + 1) damaged)).complete q .acquire
        (lockAnswer .ok damaged (some (s.sessionOf q.port)) (count + 1))
    else s.complete q .acquire (lockAnswer .limit damaged (some (s.sessionOf q.port)) count) := if_pos rfl

/-- Against another holder the request is replied HELD for wait limit 0, and else waits (R94). -/
theorem runAcquire_of_other {other : SessionId} (ho : other ≠ s.sessionOf q.port) :
    runAcquire q h wait s r (some other) count damaged =
      if wait = 0#16 then s.complete q .acquire (lockAnswer .held damaged (some other) count)
      else s.place q .acquire h wait (.object h.slot) := if_neg ho

end

/-- Settles O44: the checks of the request pass, and the holder, the count and the wait limit decide what the job
does. -/
theorem acquireByCases : Obligations.AcquireByCases := by
  intro s q h wait r holder count damaged hs hu hp me hme
  have ⟨resolves, agrees, _⟩ := hu
  have own : (s.takeRequest q.port).sessionOf q.port = me := (s.takeRequest_sessionOf _ _).trans hme.symm
  have job : storeJob q (.acquire h wait) (s.takeRequest q.port) =
      runAcquire q h wait (s.takeRequest q.port) r holder count damaged :=
    jobAcquire_usable (s := s.takeRequest q.port) hu hp
  subst own
  refine ⟨?free, ?below, ?full, ?other⟩
  case free =>
    rintro rfl
    rw [runAcquire_of_free] at job
    exact exec_lockWritten (req := .acquire h wait) rfl hs agrees job
  case below =>
    rintro rfl room
    rw [runAcquire_of_own, if_pos room] at job
    exact exec_lockWritten (req := .acquire h wait) rfl hs agrees job
  case full =>
    rintro rfl full
    rw [runAcquire_of_own, if_neg (Nat.not_lt_of_le full)] at job
    exact exec_replied_at_once (r := .acquire h wait) rfl hs job
  case other =>
    rintro other rfl differs
    rw [runAcquire_of_other differs] at job
    refine ⟨fun now => ?_, fun later pending => ?_⟩
    · rw [if_pos now] at job
      exact exec_replied_at_once (r := .acquire h wait) rfl hs job
    · rw [if_neg later] at job
      have listAgrees : s.listAgrees (.object h.slot) :=
        agrees_of_list (State.object_of_resolve resolves).1 agrees (.inl rfl)
      exact exec_placed (req := .acquire h wait) rfl hs listAgrees pending job

/-! ### The hand-off (R97) -/

/-- A lock's record written and a waiter of its own list removed: the record agrees as it is written. -/
theorem State.lockWritten_removeWaiter {i : SlotNo} {r : ObjectRecord} {w : WaitRecord} (hc : r.check = .agrees)
    (hl : w.list = .object i) (s : State) (holder : Option SessionId) (count : Nat) (damaged : Bool) :
    (s.writeRecord i (r.withLock holder count damaged)).removeWaiter w =
      (s.without w).lockBecomes i r holder count damaged := by
  have written : (s.writeRecord i (r.withLock holder count damaged)).object i =
      some { r.withLock holder count damaged with check := .agrees } := by
    rw [State.object_writeRecord, if_pos rfl]
  rw [State.removeWaiter_eq_without (agrees_of_list written rfl (.inl hl)),
    State.writeRecord_eq_holds (r := r.withLock holder count damaged) hc]
  rfl

/-- A lock passed to a waiter of its list. -/
theorem State.assignLock_eq {i : SlotNo} {r : ObjectRecord} {w : WaitRecord} (hc : r.check = .agrees)
    (hl : w.list = .object i) (s : State) (damaged : Bool) :
    s.assignLock i r damaged w =
      (s.without w).lockBecomes i r (some (s.sessionOf w.sender.port)) 1 damaged :=
  State.lockWritten_removeWaiter hc hl s _ 1 damaged

/-- The replies of a hand-off, once the oldest waiter has left its list: its own, then those of the other waiters of its
port in list order. -/
theorem State.replyHandOff_eq {s u : State} {i : SlotNo} {w : WaitRecord} {ws : List WaitRecord}
    (hw : s.waitList (.object i) = w :: ws) (hu : u.waits = s.waits.erase w) (damaged : Bool) :
    u.replyHandOff i damaged w = (ws.filter (fun v => v.sender.port == w.sender.port)).foldl (serveReentry i)
      (u.complete w.sender .acquire (lockReply .ok damaged true (some w.sender.port) 1)) := by
  have rest : ∀ x, (u.complete w.sender .acquire x).waitList (.object i) = ws := by
    intro x
    unfold State.waitList
    rw [State.complete_waits, hu]
    exact waitList_erase_head hw
  unfold State.replyHandOff
  dsimp only
  rw [rest]
  rfl

/-- A waiter of the new holder's port served as a re-entry, on a lock whose record agrees. -/
theorem serveReentry_eq {s : State} {i : SlotNo} {r : ObjectRecord} {holder : Option SessionId} {count : Nat}
    {damaged : Bool} {w : WaitRecord} (ho : s.object i = some r) (hc : r.check = .agrees)
    (hp : r.part = .lock holder count damaged) (hl : w.list = .object i) :
    serveReentry i s w = ((s.without w).lockBecomes i r holder (count + 1) damaged).complete w.sender .acquire
      (lockReply .ok damaged true (holder.map SessionId.port) (count + 1)) := by
  unfold serveReentry
  simp only [ho, hp, State.lockWritten_removeWaiter hc hl]
  rfl

/-! ### RELEASE and RESTORE (R95 to R98) -/

section
variable {q : Sender} {h : Handle} {s : State} {r : ObjectRecord} {count : Nat} {damaged : Bool}

/-- A RELEASE on a usable lock reaches step 8. -/
theorem jobRelease_usable {holder : Option SessionId} (hu : s.usable q h r)
    (hp : r.part = .lock holder count damaged) : jobRelease q h s = runRelease q h s r holder count damaged := by
  unfold jobRelease
  rw [State.withObject_lock hu hp, hp]

/-- A RESTORE on a usable lock reaches step 8. -/
theorem jobRestore_usable {holder : Option SessionId} (hu : s.usable q h r)
    (hp : r.part = .lock holder count damaged) : jobRestore q h s = runRestore q h s r holder count damaged := by
  unfold jobRestore
  rw [State.withObject_lock hu hp, hp]

/-- A session that does not hold the lock releases nothing (R95). -/
theorem runRelease_of_other {holder : Option SessionId} (ho : holder ≠ some (s.sessionOf q.port)) :
    runRelease q h s r holder count damaged = s.complete q .release (lockAnswer .notOwner damaged holder count) :=
  if_neg ho

/-- The holding session's release lowers the count, or gives up its last hold (R96). -/
theorem runRelease_of_own : runRelease q h s r (some (s.sessionOf q.port)) count damaged =
    if 1 < count then
      (s.writeRecord h.slot (r.withLock (some (s.sessionOf q.port)) (count - 1) damaged)).complete q .release
        (lockAnswer .ok damaged (some (s.sessionOf q.port)) (count - 1))
    else releaseLast q h s r damaged := if_pos rfl

/-- The last hold of a lock that nobody waits for (R97). -/
theorem releaseLast_of_nobody (hw : s.waitList (.object h.slot) = []) : releaseLast q h s r damaged =
    (s.writeRecord h.slot (r.withLock none 0 damaged)).complete q .release (lockAnswer .ok damaged none 0) := by
  unfold releaseLast
  rw [hw]
  rfl

/-- The last hold of a lock that is waited for: it passes to the oldest waiter (R97). -/
theorem releaseLast_of_waiter {w : WaitRecord} {ws : List WaitRecord}
    (hw : s.waitList (.object h.slot) = w :: ws) (hc : r.check = .agrees) : releaseLast q h s r damaged =
      (((s.without w).lockBecomes h.slot r (some (s.sessionOf w.sender.port)) 1 damaged).complete q .release
        (lockReply .ok damaged false (some w.sender.port) 0)).replyHandOff h.slot damaged w := by
  have listed : w.list = .object h.slot := State.list_of_mem_waitList (by rw [hw]; exact List.mem_cons_self)
  unfold releaseLast
  rw [hw, ← State.assignLock_eq hc listed]
  rfl

/-- A session that does not hold the lock restores nothing (R98). -/
theorem runRestore_of_other {holder : Option SessionId} (ho : holder ≠ some (s.sessionOf q.port)) :
    runRestore q h s r holder count damaged = s.complete q .restore (lockAnswer .notOwner damaged holder count) :=
  if_neg ho

/-- The holding session clears the damaged flag (R98). -/
theorem runRestore_of_own : runRestore q h s r (some (s.sessionOf q.port)) count damaged =
    (s.writeRecord h.slot (r.withLock (some (s.sessionOf q.port)) count false)).complete q .restore
      (lockAnswer .ok false (some (s.sessionOf q.port)) count) := if_pos rfl

end

/-- A RELEASE whose job gives up the last hold of a lock that is waited for: its own reply, then those of the
hand-off. -/
theorem exec_release_handsOn {s : State} {q : Sender} {h : Handle} {r : ObjectRecord} {damaged : Bool} {w : WaitRecord}
    {ws : List WaitRecord} (hs : s.serves q (.release h)) (hc : r.check = .agrees)
    (hw : s.waitList (.object h.slot) = w :: ws)
    (hb : storeJob q (.release h) (s.takeRequest q.port) = releaseLast q h (s.takeRequest q.port) r damaged) :
    exec (.release q h) s = .next ((ws.filter (fun v => v.sender.port == w.sender.port)).foldl (serveReentry h.slot)
      (((((s.takeRequest q.port).without w).lockBecomes h.slot r (some (s.sessionOf w.sender.port)) 1 damaged).replied q
        0x41#8 (lockReply .ok damaged false (some w.sender.port) 0)).complete w.sender .acquire
          (lockReply .ok damaged true (some w.sender.port) 1))) := by
  have opened : ((((s.takeRequest q.port).without w).lockBecomes h.slot r (some (s.sessionOf w.sender.port)) 1
      damaged).port q.port).session.state = .opened := State.serves.opened hs
  rw [releaseLast_of_waiter (s := s.takeRequest q.port) hw hc, State.takeRequest_sessionOf,
    State.complete_opened opened] at hb
  refine (exec_served_of_free_le (r := .release h) rfl hs ?_).trans ?_
  · rw [hb, State.replyHandOff_free]
    exact Nat.le_refl _
  · rw [hb]
    exact congrArg _ (State.replyHandOff_eq (s := s.takeRequest q.port) hw rfl damaged)

/-- Settles O45: the checks of each request pass, and the holder, the count and the lock's wait list decide what the job
does. -/
theorem releaseAndRestoreLocks : Obligations.ReleaseAndRestoreLocks := by
  intro s q h r holder count damaged hu hp me hme
  have ⟨resolves, agrees, _⟩ := hu
  have own : (s.takeRequest q.port).sessionOf q.port = me := (s.takeRequest_sessionOf _ _).trans hme.symm
  have job : storeJob q (.release h) (s.takeRequest q.port) =
      runRelease q h (s.takeRequest q.port) r holder count damaged :=
    jobRelease_usable (s := s.takeRequest q.port) hu hp
  have restores : storeJob q (.restore h) (s.takeRequest q.port) =
      runRestore q h (s.takeRequest q.port) r holder count damaged :=
    jobRestore_usable (s := s.takeRequest q.port) hu hp
  subst own
  refine ⟨fun hs => ⟨?other, ?held, ?last⟩, fun hs => ⟨?notRestored, ?restored⟩, fun w hl => ?reentry⟩
  case other =>
    intro differs
    rw [runRelease_of_other differs] at job
    exact exec_replied_at_once (r := .release h) rfl hs job
  case held =>
    rintro rfl more
    rw [runRelease_of_own, if_pos more] at job
    exact exec_lockWritten (req := .release h) rfl hs agrees job
  case last =>
    rintro rfl one
    rw [runRelease_of_own, if_neg (Nat.not_lt_of_le one)] at job
    refine ⟨fun nobody => ?_, fun w ws waits u hu' => ?_⟩
    · rw [releaseLast_of_nobody (s := s.takeRequest q.port) nobody] at job
      exact exec_lockWritten (req := .release h) rfl hs agrees job
    · rw [hu']
      exact exec_release_handsOn hs agrees waits job
  case notRestored =>
    intro differs
    rw [runRestore_of_other differs] at restores
    exact exec_replied_at_once (r := .restore h) rfl hs restores
  case restored =>
    rintro rfl
    rw [runRestore_of_own] at restores
    exact exec_lockWritten (req := .restore h) rfl hs agrees restores
  case reentry => exact serveReentry_eq (State.object_of_resolve resolves).1 agrees hp hl

end Sys2Proof.Machine
end

section
/-! PROOFS. What every service of a job does to the laws of a port and of administration, said once for each shared
operation and then for each job of the store: the jobs reply and place waiters, and no job but FORCE_CLOSE and the
teardown job ends a session (O57, O59). -/

namespace Sys2Proof.Machine

/-! ### The relation -/

/-- What the services of a job leave of a port: session, pending list and teardown job stay, tag frames that complete no
CLOSE join the transmit queue, and the empty tags of a CLOSED port stay empty. -/
structure PortState.Serves (x y : PortState) : Prop where
  session : y.session = x.session
  requests : y.requests = x.requests
  teardown : y.teardown = x.teardown
  queue : ∃ frames, y.queue = x.queue ++ frames ∧ ∀ f ∈ frames, f.tag ≠ none ∧ f.purpose ≠ .closeReply
  closed : x.session.state = .closed → ∀ k, x.tag k = ⟨.idle, none⟩ → y.tag k = ⟨.idle, none⟩

/-- What the law of administration reads of the part. -/
def State.administration (s : State) : Vector Rights 8 × List Alert × Nat × Vector Bool 8 :=
  (s.rights, s.alerts, s.dropped, s.indications)

/-- What the services of a job leave of the part: every port is served, and the law of administration is kept. -/
structure State.Serves (s t : State) : Prop where
  port : ∀ p, (s.port p).Serves (t.port p)
  admin : s.adminLaw → t.adminLaw

/-- A change of tags alone, where an empty tag of a CLOSED port stays empty. -/
theorem PortState.Serves.of_tags {x y : PortState} (hs : y.session = x.session) (hr : y.requests = x.requests)
    (hj : y.teardown = x.teardown) (hq : y.queue = x.queue)
    (hc : x.session.state = .closed → ∀ k, x.tag k = ⟨.idle, none⟩ → y.tag k = ⟨.idle, none⟩) : x.Serves y :=
  ⟨hs, hr, hj, ⟨[], by rw [hq, List.append_nil], fun _ hf => absurd hf List.not_mem_nil⟩, hc⟩

theorem PortState.Serves.refl (x : PortState) : x.Serves x := .of_tags rfl rfl rfl rfl fun _ _ h => h

theorem PortState.Serves.trans {x y z : PortState} (h : x.Serves y) (h' : y.Serves z) : x.Serves z := by
  obtain ⟨fs, hfs, hf⟩ := h.queue
  obtain ⟨gs, hgs, hg⟩ := h'.queue
  refine ⟨h'.session.trans h.session, h'.requests.trans h.requests, h'.teardown.trans h.teardown,
    ⟨fs ++ gs, by rw [hgs, hfs, List.append_assoc], fun f hfg => ?_⟩, fun hc k hk => ?_⟩
  · exact (List.mem_append.mp hfg).elim (hf f) (hg f)
  · exact h'.closed (by rw [h.session]; exact hc) k (h.closed hc k hk)

/-- The laws of a port are kept by the services of a job. -/
theorem PortState.Serves.portLaw {x y : PortState} (h : x.Serves y) (hl : x.portLaw) : y.portLaw := by
  obtain ⟨fs, hq, hfs⟩ := h.queue
  obtain ⟨timer, requests, job, closed, number, untracked, replies, reply⟩ := hl
  have tagged : fs.filter (fun f => f.tag.isNone) = [] :=
    List.filter_eq_nil_iff.mpr fun f hf => by simpa using (hfs f hf).1
  have plain : fs.filter (fun f => f.purpose == .closeReply) = [] :=
    List.filter_eq_nil_iff.mpr fun f hf => by simpa using (hfs f hf).2
  unfold PortState.portLaw
  rw [h.session, h.requests, h.teardown, hq, List.filter_append, List.filter_append, tagged, plain, List.append_nil,
    List.append_nil]
  refine ⟨timer, requests, job, fun hc k => h.closed hc k (closed hc k), number, untracked, replies, ?_⟩
  rintro ⟨f, hf, hp⟩
  rcases List.mem_append.mp hf with hf | hf
  · exact reply ⟨f, hf, hp⟩
  · exact absurd hp (hfs f hf).2

/-- The law of administration reads the rights, the alert list, the dropped count and the indications alone. -/
theorem State.adminLaw_of_same {s t : State} (h : t.administration = s.administration) (hs : s.adminLaw) :
    t.adminLaw := by
  obtain ⟨hr, ha, hd, hi⟩ := by simpa only [State.administration, Prod.mk.injEq] using h
  unfold State.adminLaw State.rightsOf State.indication at *
  rwa [hr, ha, hd, hi]

/-- A change of neither the ports nor what the law of administration reads. -/
theorem State.Serves.of_same {s t : State} (hp : t.ports = s.ports) (ha : t.administration = s.administration) :
    s.Serves t :=
  ⟨fun p => by unfold State.port; rw [hp]; exact .refl _, State.adminLaw_of_same ha⟩

theorem State.Serves.refl (s : State) : s.Serves s := .of_same rfl rfl

theorem State.Serves.trans {s t u : State} (h : s.Serves t) (h' : t.Serves u) : s.Serves u :=
  ⟨fun p => (h.port p).trans (h'.port p), h'.admin ∘ h.admin⟩

/-- What each step of a fold serves, the fold serves; `state` reads the state off what the fold carries. -/
theorem State.Serves.foldl {σ α : Type} (state : σ → State) {f : σ → α → σ}
    (h : ∀ x a, (state x).Serves (state (f x a))) (l : List α) (x : σ) : (state x).Serves (state (l.foldl f x)) :=
  List.foldlRecOn l f (motive := fun y => (state x).Serves (state y)) (.refl _) fun y hy a _ => hy.trans (h y a)

/-- A port replaced by one that it serves. -/
theorem State.setPort_serves {s : State} {p : Port} {x : PortState} (h : (s.port p).Serves x) :
    s.Serves (s.setPort p x) := by
  refine ⟨fun p' => ?_, State.adminLaw_of_same rfl⟩
  rw [State.port_setPort]
  split
  · next hp => exact hp ▸ h
  · exact .refl _

/-! ### Replies, wait records and alerts -/

/-- A completion to a CLOSED port is lost (R145; log 18). -/
theorem State.completeFor_closed {s : State} {q : Sender} (h : (s.port q.port).session.state = .closed)
    (purpose : Purpose) (code : Byte) (x : Answer) : s.completeFor purpose q code x = s := by
  unfold State.completeFor
  rw [h]

theorem State.completeFor_serves (s : State) {purpose : Purpose} (hp : purpose ≠ .closeReply) (q : Sender) (code : Byte)
    (x : Answer) : s.Serves (s.completeFor purpose q code x) := by
  by_cases hc : (s.port q.port).session.state = .closed
  · rw [State.completeFor_closed hc]
    exact .refl s
  · obtain ⟨y, h, -, -, -, hsession, hrequests, hteardown, -, ⟨fs, hq, hfs⟩, -⟩ := s.completeFor_port purpose q code x
    rw [h]
    refine State.setPort_serves ⟨hsession, hrequests, hteardown, ⟨fs, hq, fun f hf => ?_⟩, fun h => absurd h hc⟩
    obtain ⟨htag, -, hpurpose⟩ := hfs f hf
    exact ⟨by simp [htag], hpurpose ▸ hp⟩

theorem State.complete_serves (s : State) (q : Sender) (code : RequestCode) (x : Answer) :
    s.Serves (s.complete q code x) := s.completeFor_serves (purpose := .plain) (by decide) _ _ _

/-- A waiter notice changes a tag that is PENDING alone (R117). -/
theorem State.notifyWaiting_serves (s : State) (q : Sender) : s.Serves (s.notifyWaiting q) := by
  unfold State.notifyWaiting
  split
  · next g hg =>
    refine State.setPort_serves (.of_tags rfl rfl rfl rfl fun _ k hk => ?_)
    have hne : q.tag ≠ k := by
      rintro rfl
      rw [hk] at hg
      cases hg
    unfold PortState.setTagState
    rw [PortState.tag_setTag, if_neg hne]
    exact hk
  · exact .refl s

theorem State.removeWaiter_serves (s : State) (w : WaitRecord) : s.Serves (s.removeWaiter w) :=
  .of_same (State.removeWaiter_ports _ _) (by simp [State.administration])

theorem State.moveWaiter_serves (s : State) (w : WaitRecord) (l : WaitList) : s.Serves (s.moveWaiter w l) :=
  .of_same (State.moveWaiter_ports _ _ _) (by simp [State.administration])

theorem State.place_serves (s : State) (q : Sender) (request : WaitRequest) (target : Handle) (wait : Half)
    (l : WaitList) : s.Serves (s.place q request target wait l) := by
  unfold State.place
  refine State.Serves.trans (.of_same ?_ ?_) (State.notifyWaiting_serves _ q)
  · simp
  · simp [State.administration]

theorem State.dismiss_serves (status : Status) (s : State) (w : WaitRecord) : s.Serves (State.dismiss status s w) :=
  (s.removeWaiter_serves w).trans (State.complete_serves _ _ _ _)

theorem State.dismissAll_serves (status : Status) (s : State) (ws : List WaitRecord) :
    s.Serves (State.dismissAll status s ws) := .foldl id (State.dismiss_serves status) ws s

/-- The alert list and the dropped count replaced by ones within their bounds: the indications follow (R122, R169). -/
theorem State.setAlerts_serves (s : State) {alerts : List Alert} {dropped : Nat}
    (ha : s.alerts.length ≤ 8 → alerts.length ≤ 8) (hd : s.dropped ≤ 255 → dropped ≤ 255) :
    s.Serves (s.setAlerts alerts dropped) := by
  refine ⟨fun p => .refl _, ?_⟩
  rintro ⟨admin, length, dropped, -⟩
  exact ⟨admin, ha length, hd dropped, fun p => mapVector_get _ _ _⟩

theorem State.appendAlert_serves (s : State) (kind : AlertKind) : s.Serves (s.appendAlert kind) := by
  unfold State.appendAlert Config.alertSlots Config.droppedMax
  split
  · next hroom => exact s.setAlerts_serves (fun _ => by simpa using hroom) id
  · exact s.setAlerts_serves (fun h => by simp; omega) fun _ => Nat.min_le_left _ _

/-- The end of a job, where an alert may join the list (R173). -/
theorem State.endsJob_serves (start u : State) : u.Serves (start.endsJob u) := by
  unfold State.endsJob
  split
  · exact u.appendAlert_serves _
  · exact .refl u

/-- A record written, then what serves the state further. -/
theorem State.writeRecord_serves (s : State) (i : SlotNo) (r : ObjectRecord) : s.Serves (s.writeRecord i r) :=
  .of_same rfl rfl

/-! ### Pool service -/

theorem State.grantPut_serves (s : State) (i : SlotNo) (a : QueueAccount) (w : WaitRecord) (value : Word)
    (side : QueueEnd) : s.Serves (s.grantPut i a w value side) := by
  have linked : s.Serves ((s.removeWaiter w).linkEntry i a side ⟨value, w.sender.port⟩) :=
    (s.removeWaiter_serves w).trans (.of_same rfl rfl)
  exact linked.trans (State.complete_serves _ _ _ _)

theorem serveOwnPutter_serves (i : SlotNo) (s : State) (w : WaitRecord) : s.Serves (serveOwnPutter i s w) := by
  unfold serveOwnPutter
  split
  · split
    · split
      · exact s.grantPut_serves _ _ _ _ _
      · exact s.moveWaiter_serves _ _
    · exact .refl s
  · exact .refl s

theorem State.serveOwnPutters_serves (s : State) (i : SlotNo) : s.Serves (s.serveOwnPutters i) :=
  .foldl id (serveOwnPutter_serves i) _ s

theorem poolPassRecord_serves (x : State × Bool) (w : WaitRecord) : x.1.Serves (poolPassRecord x w).1 := by
  unfold poolPassRecord
  split
  · split
    · exact x.1.moveWaiter_serves w (.object w.target.slot)
    · split
      · exact x.1.grantPut_serves _ _ _ _ _
      · exact .refl _
  · exact .refl _

theorem poolPasses_serves (n : Nat) (s : State) : s.Serves (poolPasses n s) := by
  induction n generalizing s with
  | zero => exact .refl s
  | succ n ih =>
    have pass : s.Serves (poolPass s).1 := .foldl Prod.fst poolPassRecord_serves _ (s, false)
    unfold poolPasses
    split
    · next s' h =>
      rw [h] at pass
      exact pass.trans (ih s')
    · next s' h =>
      rw [h] at pass
      exact pass

theorem State.poolService_serves (s : State) : s.Serves s.poolService := poolPasses_serves _ s

theorem State.poolServiceIf_serves (s : State) (due : Bool) : s.Serves (s.poolServiceIf due) := by
  cases due with
  | true => exact s.poolService_serves
  | false => exact .refl s

/-! ### Scans, quarantine and hand-offs -/

theorem State.serveCellWaiter_serves (s : State) (i : SlotNo) (r : ObjectRecord) (value : Word) (order : Order)
    (w : WaitRecord) (op : CellOp) : s.Serves (s.serveCellWaiter i r value order w op) :=
  ((s.writeRecord_serves _ _).trans (State.removeWaiter_serves _ w)).trans (State.complete_serves _ _ _ _)

theorem scanStrict_serves (i : SlotNo) (ws : List WaitRecord) (s : State) : s.Serves (scanStrict i ws s) := by
  induction ws generalizing s with
  | nil => exact .refl s
  | cons w ws ih =>
    unfold scanStrict
    split
    · split
      · split
        · exact (s.serveCellWaiter_serves _ _ _ _ _ _).trans (ih _)
        · exact .refl s
      · exact .refl s
    · exact .refl s

theorem scanPassRecord_serves (i : SlotNo) (x : State × Bool) (w : WaitRecord) :
    x.1.Serves (scanPassRecord i x w).1 := by
  unfold scanPassRecord
  split
  · split
    · split
      · exact x.1.serveCellWaiter_serves _ _ _ _ _ _
      · exact .refl _
    · exact .refl _
  · exact .refl _

theorem scanPasses_serves (i : SlotNo) (n : Nat) (s : State) : s.Serves (scanPasses i n s) := by
  induction n generalizing s with
  | zero => exact .refl s
  | succ n ih =>
    have pass : s.Serves (scanPass i s).1 := .foldl Prod.fst (scanPassRecord_serves i) _ (s, false)
    unfold scanPasses
    split
    · next s' h =>
      rw [h] at pass
      exact pass.trans (ih s')
    · next s' h =>
      rw [h] at pass
      exact pass

theorem State.scan_serves (s : State) (i : SlotNo) : s.Serves (s.scan i) := by
  unfold State.scan
  split
  · split
    · exact scanStrict_serves _ _ _
    · exact scanPasses_serves _ _ _
    · exact .refl s
  · exact .refl s

theorem State.scanIf_serves (s : State) (cell : Option SlotNo) : s.Serves (s.scanIf cell) := by
  cases cell with
  | none => exact .refl s
  | some i => exact s.scan_serves i

theorem State.quarantineKind_serves (s : State) (i : SlotNo) (r : ObjectRecord) : s.Serves (s.quarantineKind i r) := by
  rw [State.quarantineKind_eq]
  unfold State.reserveCleared
  split
  · exact .of_same rfl rfl
  · exact s.writeRecord_serves _ _

theorem State.quarantine_serves (s : State) (i : SlotNo) (r : ObjectRecord) : s.Serves (s.quarantine i r) := by
  unfold State.quarantine
  exact ((((s.writeRecord_serves i _).trans (State.dismissAll_serves .fault _ _)).trans
    (State.dismissAll_serves .fault _ _)).trans (State.quarantineKind_serves _ i r)).trans
      (State.appendAlert_serves _ _)

theorem State.verify_serves (s : State) (i : SlotNo) : s.Serves (s.verify i).state := by
  unfold State.verify
  split
  · split
    · exact s.quarantine_serves _ _
    · exact .refl s
  · exact .refl s

theorem State.deleteObject_serves (s : State) (i : SlotNo) : s.Serves (s.deleteObject i) :=
  (s.dismissAll_serves .deleted _).trans (.of_same rfl rfl)

theorem serveReentry_serves (i : SlotNo) (s : State) (w : WaitRecord) : s.Serves (serveReentry i s w) := by
  unfold serveReentry
  split
  · split
    · exact ((s.writeRecord_serves i _).trans (State.removeWaiter_serves _ w)).trans (State.complete_serves _ _ _ _)
    · exact .refl s
  · exact .refl s

theorem State.replyHandOff_serves (s : State) (i : SlotNo) (damaged : Bool) (w : WaitRecord) :
    s.Serves (s.replyHandOff i damaged w) :=
  (s.complete_serves _ _ _).trans (.foldl id (serveReentry_serves i) _ _)

theorem State.assignLock_serves (s : State) (i : SlotNo) (r : ObjectRecord) (damaged : Bool) (w : WaitRecord) :
    s.Serves (s.assignLock i r damaged w) := (s.writeRecord_serves i _).trans (State.removeWaiter_serves _ w)

theorem abandonLock_serves (i : SlotNo) (r : ObjectRecord) (s : State) : s.Serves (abandonLock i r s) := by
  unfold abandonLock
  split
  · exact s.writeRecord_serves i _
  · exact (s.assignLock_serves i r true _).trans (State.replyHandOff_serves _ i true _)

/-! ### The requests at step 8 -/

/-- A record is written and the request replied. -/
theorem State.written_serves (s : State) (i : SlotNo) (r : ObjectRecord) (q : Sender) (code : RequestCode) (x : Answer) :
    s.Serves ((s.writeRecord i r).complete q code x) := (s.writeRecord_serves i r).trans (State.complete_serves _ _ _ _)

/-- A request that names an object is refused, finds a failing record, or is carried out (R9, R10). -/
theorem State.withObject_serves {s : State} {q : Sender} {code : RequestCode} {h : Handle} {c : Checks}
    {run : ObjectRecord → State} (hrun : ∀ r, s.Serves (run r)) : s.Serves (s.withObject q code h c run) := by
  have refused := fun status => s.complete_serves q code (.refuse status)
  unfold State.withObject
  split
  · exact refused _
  · split
    · exact ((s.quarantine_serves _ _).trans (State.complete_serves _ _ _ _)).trans (State.poolServiceIf_serves _ _)
    · iterate 5 (split; exact refused _)
      exact hrun _

theorem runCell_serves (q : Sender) (h : Handle) (op : CellOp) (guard : Guard) (wait : Half) (s : State)
    (r : ObjectRecord) (value : Word) (order : Order) : s.Serves (runCell q h op guard wait s r value order) := by
  unfold runCell
  split
  · exact (s.written_serves _ _ _ _ _).trans (State.scanIf_serves _ _)
  · split
    · exact s.complete_serves _ _ _
    · exact s.place_serves _ _ _ _ _

theorem waitOrReport_serves (q : Sender) (code : RequestCode) (request : WaitRequest) (h : Handle) (wait : Half)
    (l : WaitList) (status : Status) (depth : Nat) (s : State) :
    s.Serves (waitOrReport q code request h wait l status depth s) := by
  unfold waitOrReport
  split
  · exact s.complete_serves _ _ _
  · exact s.place_serves _ _ _ _ _

/-- The request is replied and then a waiter that it serves (R72, R76). -/
theorem State.replyBoth_serves (s : State) (w : WaitRecord) (q : Sender) (code code' : RequestCode) (x x' : Answer) :
    s.Serves (((s.removeWaiter w).complete q code x).complete w.sender code' x') :=
  ((s.removeWaiter_serves w).trans (State.complete_serves _ _ _ _)).trans (State.complete_serves _ _ _ _)

theorem runPut_serves (q : Sender) (h : Handle) (side : QueueEnd) (value : Word) (wait : Half) (s : State) :
    s.Serves (runPut q h side value wait s) := by
  unfold runPut
  split
  · exact s.replyBoth_serves _ _ _ _ _ _
  · split
    · exact waitOrReport_serves _ _ _ _ _ _ _ _ s
    · split
      · exact waitOrReport_serves _ _ _ _ _ _ _ _ s
      · have linked : s.Serves (s.linkEntry h.slot (s.account h.slot) side ⟨value, q.port⟩) := .of_same rfl rfl
        exact linked.trans (State.complete_serves _ _ _ _)

/-- Entries go back to the pool, the request is replied, and the queue's putters and the pool are served (R75, R79,
R81). -/
theorem State.entriesTaken_serves (s : State) (i : SlotNo) (a : Option QueueAccount) (free : Nat) (q : Sender)
    (code : RequestCode) (x : Answer) :
    s.Serves ((({ s.setQueue i a with free := free }.complete q code x).serveOwnPutters i).poolService) := by
  have written : s.Serves { s.setQueue i a with free := free } := .of_same rfl rfl
  exact ((written.trans (State.complete_serves _ _ _ _)).trans (State.serveOwnPutters_serves _ _)).trans
    (State.poolService_serves _)

theorem runTake_serves (q : Sender) (h : Handle) (side : QueueEnd) (wait : Half) (s : State) :
    s.Serves (runTake q h side wait s) := by
  unfold runTake
  split
  · exact s.entriesTaken_serves _ _ _ _ _ _
  · split
    · exact s.replyBoth_serves _ _ _ _ _ _
    · exact waitOrReport_serves _ _ _ _ _ _ _ _ s

theorem runFlush_serves (q : Sender) (h : Handle) (s : State) : s.Serves (runFlush q h s) := by
  unfold runFlush
  split
  · exact s.complete_serves _ _ _
  · exact s.entriesTaken_serves _ _ _ _ _ _

theorem runSetQueueLimits_serves (q : Sender) (h : Handle) (limit reserve : Half) (s : State) :
    s.Serves (runSetQueueLimits q h limit reserve s) := by
  have written : s.Serves (s.withLimits h.slot limit reserve) := .of_same rfl rfl
  have replied := fun x => written.trans (State.complete_serves _ q .setQueueLimits x)
  unfold runSetQueueLimits
  split
  · exact s.complete_serves _ _ _
  · dsimp only
    split
    · exact ((replied _).trans (State.serveOwnPutters_serves _ _)).trans (State.poolService_serves _)
    · exact (replied _).trans (State.poolService_serves _)

theorem runAcquire_serves (q : Sender) (h : Handle) (wait : Half) (s : State) (r : ObjectRecord)
    (holder : Option SessionId) (count : Nat) (damaged : Bool) :
    s.Serves (runAcquire q h wait s r holder count damaged) := by
  unfold runAcquire
  split
  · exact s.written_serves _ _ _ _ _
  · split
    · split
      · exact s.written_serves _ _ _ _ _
      · exact s.complete_serves _ _ _
    · split
      · exact s.complete_serves _ _ _
      · exact s.place_serves _ _ _ _ _

theorem releaseLast_serves (q : Sender) (h : Handle) (s : State) (r : ObjectRecord) (damaged : Bool) :
    s.Serves (releaseLast q h s r damaged) := by
  unfold releaseLast
  split
  · exact s.written_serves _ _ _ _ _
  · exact ((s.assignLock_serves _ _ _ _).trans (State.complete_serves _ _ _ _)).trans
      (State.replyHandOff_serves _ _ _ _)

theorem runRelease_serves (q : Sender) (h : Handle) (s : State) (r : ObjectRecord) (holder : Option SessionId)
    (count : Nat) (damaged : Bool) : s.Serves (runRelease q h s r holder count damaged) := by
  unfold runRelease
  split
  · split
    · exact s.written_serves _ _ _ _ _
    · exact releaseLast_serves q h s r damaged
  · exact s.complete_serves _ _ _

theorem runRestore_serves (q : Sender) (h : Handle) (s : State) (r : ObjectRecord) (holder : Option SessionId)
    (count : Nat) (damaged : Bool) : s.Serves (runRestore q h s r holder count damaged) := by
  unfold runRestore
  split
  · exact s.written_serves _ _ _ _ _
  · exact s.complete_serves _ _ _

/-! ### The jobs -/

theorem jobCreate_serves (q : Sender) (slot : SlotChoice) (access : Byte) (isScoped : Bool) (kind : KindParams)
    (label : Label) (s : State) : s.Serves (jobCreate q slot access isScoped kind label s) := by
  have refused := fun status => s.complete_serves q .create (.refuse status)
  unfold jobCreate
  iterate 2 (split; exact refused _)
  split
  · exact refused _
  · next i _ =>
    iterate 2 (split; exact refused _)
    have placed : s.Serves (s.placeObject q i access isScoped kind label) := .of_same rfl rfl
    exact placed.trans (State.complete_serves _ _ _ _)

theorem jobDelete_serves (q : Sender) (h : Handle) (s : State) : s.Serves (jobDelete q h s) :=
  State.withObject_serves fun _ => ((s.deleteObject_serves h.slot).trans (State.complete_serves _ _ _ _)).trans
    (State.poolServiceIf_serves _ _)

theorem jobFind_serves (q : Sender) (label : Label) (s : State) : s.Serves (jobFind q label s) := by
  unfold jobFind
  split
  · exact s.complete_serves _ _ _
  · split
    · exact s.complete_serves _ _ _
    · split
      · exact s.complete_serves _ _ _
      · split
        · exact ((s.quarantine_serves _ _).trans (State.complete_serves _ _ _ _)).trans
            (State.poolServiceIf_serves _ _)
        · split
          · exact s.complete_serves _ _ _
          · exact s.complete_serves _ _ _

theorem jobCell_serves (q : Sender) (h : Handle) (op : CellOp) (guard : Guard) (wait : Half) (s : State) :
    s.Serves (jobCell q h op guard wait s) := by
  refine State.withObject_serves fun r => ?_
  split
  · exact runCell_serves _ _ _ _ _ _ _ _ _
  · exact .refl s

theorem jobSetOrder_serves (q : Sender) (h : Handle) (order : Order) (s : State) :
    s.Serves (jobSetOrder q h order s) := by
  refine State.withObject_serves fun r => ?_
  split
  · exact (s.written_serves _ _ _ _ _).trans (State.scan_serves _ _)
  · exact .refl s

theorem jobPeek_serves (q : Sender) (h : Handle) (index : Half) (s : State) : s.Serves (jobPeek q h index s) := by
  refine State.withObject_serves fun r => ?_
  split
  · exact s.complete_serves _ _ _
  · exact .refl s

theorem jobAcquire_serves (q : Sender) (h : Handle) (wait : Half) (s : State) : s.Serves (jobAcquire q h wait s) := by
  refine State.withObject_serves fun r => ?_
  split
  · exact runAcquire_serves _ _ _ _ _ _ _ _
  · exact .refl s

theorem jobRelease_serves (q : Sender) (h : Handle) (s : State) : s.Serves (jobRelease q h s) := by
  refine State.withObject_serves fun r => ?_
  split
  · exact runRelease_serves _ _ _ _ _ _ _
  · exact .refl s

theorem jobRestore_serves (q : Sender) (h : Handle) (s : State) : s.Serves (jobRestore q h s) := by
  refine State.withObject_serves fun r => ?_
  split
  · exact runRestore_serves _ _ _ _ _ _ _
  · exact .refl s

theorem jobCancel_serves (q : Sender) (target : Tag) (s : State) : s.Serves (jobCancel q target s) := by
  unfold jobCancel
  split
  · unfold cancelWaiter
    dsimp only
    split
    · exact ((s.verify_serves _).trans (State.complete_serves _ _ _ _)).trans (State.poolServiceIf_serves _ _)
    · exact ((State.dismiss_serves _ s _).trans (State.complete_serves _ _ _ _)).trans (State.scanIf_serves _ _)
  · exact s.complete_serves _ _ _

theorem jobExpiry_serves (q : Sender) (s : State) : s.Serves (jobExpiry q s) := by
  unfold jobExpiry
  split
  · split
    · unfold expireWaiter
      dsimp only
      split
      · exact (s.verify_serves _).trans (State.poolServiceIf_serves _ _)
      · exact ((s.removeWaiter_serves _).trans (State.complete_serves _ _ _ _)).trans (State.scanIf_serves _ _)
    · exact .refl s
  · exact .refl s

/-! ### The administrative jobs -/

theorem State.asAdmin_serves {s : State} {run : State} (q : Sender) (code : RequestCode) (h : s.Serves run) :
    s.Serves (s.asAdmin q code run) := by
  unfold State.asAdmin
  split
  · exact h
  · exact s.complete_serves _ _ _

theorem State.withPort_serves {s : State} {run : Port → State} (q : Sender) (code : RequestCode) (target : Byte)
    (h : ∀ p, s.Serves (run p)) : s.Serves (s.withPort q code target run) := by
  unfold State.withPort
  split
  · exact h _
  · exact s.complete_serves _ _ _

/-- A port that does not hold ADMIN alone leaves another that does (R164). -/
theorem State.otherAdmin_of_not_onlyAdmin {s : State} (hs : ∃ p, (s.rightsOf p).admin = true) {p : Port}
    (h : s.onlyAdmin p = false) : ∃ p', p ≠ p' ∧ (s.rightsOf p').admin = true := by
  unfold State.onlyAdmin at h
  rcases Bool.and_eq_false_iff.mp h with hp | hall
  · obtain ⟨p', hp'⟩ := hs
    refine ⟨p', ?_, hp'⟩
    rintro rfl
    rw [hp] at hp'
    cases hp'
  · obtain ⟨p', -, hp'⟩ := List.all_eq_false.mp hall
    exact ⟨p', by rintro rfl; simp at hp', by by_contra hn; simp [hn] at hp'⟩

/-- New rights for a port keep the law of administration where they hold ADMIN, or another port does (R122, R164). -/
theorem State.setRights_serves {s : State} {p : Port} {r : Rights} (h : s.onlyAdmin p = false ∨ r.admin = true) :
    s.Serves (s.setRights p r) := by
  have rights : ∀ p', (s.setRights p r).rightsOf p' = if p = p' then r else s.rightsOf p' :=
    fun p' => vector_get_set _ _ _ _
  refine ⟨fun p => .refl _, ?_⟩
  rintro ⟨admin, length, dropped, -⟩
  refine ⟨?_, length, dropped, fun p' => mapVector_get _ _ _⟩
  rcases h with h | h
  · obtain ⟨p', hne, hp'⟩ := State.otherAdmin_of_not_onlyAdmin admin h
    exact ⟨p', by rw [rights, if_neg hne]; exact hp'⟩
  · exact ⟨p, by rw [rights, if_pos rfl]; exact h⟩

theorem jobSetRights_serves (q : Sender) (target : Byte) (rights : Rights) (s : State) :
    s.Serves (jobSetRights q target rights s) := by
  refine s.asAdmin_serves q _ (s.withPort_serves q _ target fun p => ?_)
  split
  · exact s.complete_serves _ _ _
  · next h =>
    have other : s.onlyAdmin p = false ∨ rights.admin = true := by
      cases ha : rights.admin with
      | true => exact .inr rfl
      | false => exact .inl (by simpa [ha] using h)
    exact (State.setRights_serves other).trans (State.complete_serves _ _ _ _)

theorem clearSlots_serves (s : State) : s.Serves (clearSlots s).state := by
  refine State.Serves.foldl ClearRun.state (fun x i => ?_) allSlots ⟨s, 0, 0⟩
  unfold clearSlot
  split
  · exact (x.state.verify_serves i).trans (State.deleteObject_serves _ i)
  · exact .refl _

theorem jobStoreClear_serves (q : Sender) (s : State) : s.Serves (jobStoreClear q s) :=
  s.asAdmin_serves q _ (((clearSlots_serves s).trans (State.poolService_serves _)).trans
    (State.complete_serves _ _ _ _))

theorem jobReadAlerts_serves (q : Sender) (s : State) : s.Serves (jobReadAlerts q s) := by
  have read : s.Serves (s.setAlerts (s.alerts.drop Config.alertsPerRead) 0) :=
    s.setAlerts_serves (fun h => by rw [List.length_drop]; omega) fun _ => Nat.zero_le _
  exact s.asAdmin_serves q _ (read.trans (State.complete_serves _ _ _ _))

theorem jobStats_serves (q : Sender) (target : Byte) (clear : Bool) (s : State) :
    s.Serves (jobStats q target clear s) := by
  refine s.asAdmin_serves q _ (s.withPort_serves q _ target fun p => ?_)
  refine State.Serves.trans ?_ (State.complete_serves _ _ _ _)
  split
  · exact State.setPort_serves (.of_tags rfl rfl rfl rfl fun _ _ hk => hk)
  · exact .refl s

theorem jobSetPoolMark_serves (q : Sender) (mark : Half) (s : State) : s.Serves (jobSetPoolMark q mark s) := by
  refine s.asAdmin_serves q _ ?_
  split
  · exact s.complete_serves _ _ _
  · have marked : s.Serves { s with poolMark := mark.toNat } := .of_same rfl rfl
    exact marked.trans (State.complete_serves _ _ _ _)

theorem jobPartReset_serves (q : Sender) (s : State) : s.Serves (jobPartReset q s) :=
  s.asAdmin_serves q _ ((s.completeFor_serves (purpose := .partResetReply) (by decide) _ _ _).trans (.of_same rfl rfl))

/-- Every job of the store but FORCE_CLOSE replies, places waiters and appends alerts alone. -/
theorem storeJob_serves (q : Sender) {r : Request} (hr : ∀ target, r ≠ .forceClose target) (s : State) :
    s.Serves (storeJob q r s) := by
  cases r with
  | create slot access isScoped kind label => exact jobCreate_serves q slot access isScoped kind label s
  | delete h => exact jobDelete_serves q h s
  | describe h => exact State.withObject_serves fun _ => s.complete_serves _ _ _
  | find label => exact jobFind_serves q label s
  | setAccess h access => exact State.withObject_serves fun _ => s.written_serves _ _ _ _ _
  | cell h op guard wait => exact jobCell_serves q h op guard wait s
  | setOrder h order => exact jobSetOrder_serves q h order s
  | put h side value wait => exact State.withObject_serves fun _ => runPut_serves q h side value wait s
  | take h side wait => exact State.withObject_serves fun _ => runTake_serves q h side wait s
  | peek h index => exact jobPeek_serves q h index s
  | flush h => exact State.withObject_serves fun _ => runFlush_serves q h s
  | setQueueLimits h limit reserve =>
    exact State.withObject_serves fun _ => runSetQueueLimits_serves q h limit reserve s
  | acquire h wait => exact jobAcquire_serves q h wait s
  | release h => exact jobRelease_serves q h s
  | restore h => exact jobRestore_serves q h s
  | cancel target => exact jobCancel_serves q target s
  | setRights target rights => exact jobSetRights_serves q target rights s
  | forceClose target => exact absurd rfl (hr target)
  | storeClear => exact jobStoreClear_serves q s
  | readAlerts => exact jobReadAlerts_serves q s
  | stats target clear => exact jobStats_serves q target clear s
  | setPoolMark mark => exact jobSetPoolMark_serves q mark s
  | partReset => exact jobPartReset_serves q s
  | nop | identify | queryTags | openSession | closeSession => exact .refl s

/-! ### The teardown job up to its last stage (R138 to R143) -/

theorem stageOneTag_serves (p : Port) (j : TeardownJob) (x : TeardownRun) (t : Tag) :
    x.state.Serves (stageOneTag p j x t).state := by
  unfold stageOneTag
  split
  · dsimp only
    split
    · exact x.state.verify_serves _
    · unfold stageOneRemove
      dsimp only
      split
      · exact State.dismiss_serves _ _ _
      · exact State.removeWaiter_serves _ _
  · split
    · exact x.state.complete_serves _ _ _
    · exact .refl _

theorem stageOne_serves (p : Port) (j : TeardownJob) (x : TeardownRun) : x.state.Serves (stageOne p j x).state :=
  (State.Serves.foldl TeardownRun.state (stageOneTag_serves p j) allTags x).trans
    (.foldl id State.scan_serves _ _)

theorem stageTwoSlot_serves (ending : SessionId) (x : TeardownRun) (i : SlotNo) :
    x.state.Serves (stageTwoSlot ending x i).state := by
  unfold stageTwoSlot
  split
  · split
    · split
      · split
        · exact x.state.quarantine_serves _ _
        · exact abandonLock_serves _ _ _
      · exact .refl _
    · exact .refl _
  · exact .refl _

theorem stageThreeSlot_serves (ending : SessionId) (x : TeardownRun) (i : SlotNo) :
    x.state.Serves (stageThreeSlot ending x i).state := by
  unfold stageThreeSlot
  split
  · split
    · exact ((x.state.verify_serves i).trans (State.deleteObject_serves _ i)).trans (State.poolServiceIf_serves _ _)
    · exact .refl _
  · exact .refl _

theorem stageFive_serves (ending : SessionId) (cause : EndCause) (x : TeardownRun) :
    x.state.Serves (stageFive ending cause x).state := by
  cases cause with
  | lapsed | broken | forced => exact x.state.appendAlert_serves _
  | closed | none => exact .refl _

theorem stageFour_serves (x : TeardownRun) : x.state.Serves (stageFour x).state := x.state.poolServiceIf_serves _

/-- The teardown job is its last stage on a state that the first five have served (R138). -/
theorem jobTeardown_stageSix (p : Port) (j : TeardownJob) (s : State) :
    ∃ x : TeardownRun, jobTeardown p j s = stageSix p j x ∧ s.Serves x.state := by
  have one := stageOne_serves p j ⟨s, 0, 0, 0, [], false⟩
  have two := one.trans (.foldl TeardownRun.state (stageTwoSlot_serves ⟨p, j.number⟩) allSlots _)
  have three := two.trans (.foldl TeardownRun.state (stageThreeSlot_serves ⟨p, j.number⟩) allSlots _)
  have four := three.trans (stageFour_serves _)
  exact ⟨_, rfl, four.trans (stageFive_serves ⟨p, j.number⟩ j.cause _)⟩

end Sys2Proof.Machine
end

section
/-! PROOFS. The laws of a port at every step (O57): the operations of a port unit and of its link keep them, the jobs of
the store serve the ports, and the last stage of the teardown job answers the CLOSE or closes the session. -/

namespace Sys2Proof.Machine

/-! ### The law of a port under its operations -/

namespace PortState.portLaw

variable {x y : PortState}

/-- The law reads the session, the tags, the pending list, the transmit queue and the teardown job alone. -/
theorem of_same (h : x.portLaw) (hs : y.session = x.session) (ht : y.tags = x.tags) (hr : y.requests = x.requests)
    (hq : y.queue = x.queue) (hj : y.teardown = x.teardown) : y.portLaw := by
  unfold PortState.portLaw PortState.tag at *
  rwa [hs, ht, hr, hq, hj]

/-- The CLOSE reply stands in the queue of a CLOSING port alone (R144). -/
theorem no_closeReply (h : x.portLaw) (hs : x.session.state ≠ .closing) : ∀ f ∈ x.queue, f.purpose ≠ .closeReply := by
  obtain ⟨-, -, -, -, -, -, -, reply⟩ := h
  exact fun f hf hp => hs (reply ⟨f, hf, hp⟩).1

/-- A teardown job is due at a CLOSING port alone (R138). -/
theorem no_teardown (h : x.portLaw) (hs : x.session.state ≠ .closing) : x.teardown = none := by
  obtain ⟨-, -, job, -⟩ := h
  by_contra hn
  exact hs (job hn)

/-- The silence timer of a CLOSING or CLOSED session is stopped (R131). -/
theorem timer_stopped (h : x.portLaw) (hs : x.session.state ≠ .opened) : x.session.timer = .stopped := by
  obtain ⟨timer, -⟩ := h
  by_contra hn
  exact hs (timer hn).1

/-- An untracked frame joins the transmit queue or is dropped (R118). -/
theorem sendUntracked (h : x.portLaw) (r : Reply) (isRefusal : Bool) : (x.sendUntracked r isRefusal).portLaw := by
  unfold PortState.sendUntracked
  split
  · next hu =>
    have joined : PortState.portLaw { x with queue := x.queue ++ [⟨none, r, .plain⟩] } := h.enqueue (fun _ => hu) nofun
    cases isRefusal with
    | true => exact joined.of_same rfl rfl rfl rfl rfl
    | false => exact joined
  · exact h.of_same rfl rfl rfl rfl rfl

/-- The silence timer of an OPEN session restarted (R131). -/
theorem restarted (h : x.portLaw) (ho : x.session.state = .opened) {timer : Timer}
    (ht : timer ≠ .stopped → x.session.silence ≠ 0#16) :
    PortState.portLaw { x with session := { x.session with timer := timer } } := by
  obtain ⟨-, requests, job, closed, number, untracked, replies, reply⟩ := h
  exact ⟨fun hn => ⟨ho, ht hn⟩, requests, job, closed, number, untracked, replies, reply⟩

/-- A reply that completes no CLOSE joins the transmit queue, its tag written (R116). -/
theorem replying (h : x.portLaw) (hs : x.session.state ≠ .closed) (t : Tag) (e : TagEntry) (r : Reply)
    {purpose : Purpose} (hp : purpose ≠ .closeReply) :
    PortState.portLaw { x.setTag t e with queue := x.queue ++ [⟨some t, r, purpose⟩] } :=
  (h.setTag hs t e).enqueue nofun fun hc => absurd hc hp

/-- A CLOSED session is opened (R129). -/
theorem opening (h : x.portLaw) (hc : x.session.state = .closed) {session : Session} (ho : session.state = .opened)
    (hn : session.number ≠ 0#16) (ht : session.timer ≠ .stopped → session.silence ≠ 0#16) :
    PortState.portLaw { x with session := session } := by
  have idle := h.no_teardown (by simp [hc])
  have no_reply := h.no_closeReply (by simp [hc])
  obtain ⟨-, -, -, -, -, untracked, replies, -⟩ := h
  refine ⟨fun hr => ⟨ho, ht hr⟩, fun hs => absurd ho hs, fun hj => absurd idle hj, fun hs => ?_, fun _ => hn,
    untracked, replies, fun ⟨f, hf, hp⟩ => absurd hp (no_reply f hf)⟩
  rw [show session.state = .closed from hs] at ho
  cases ho

/-- The pending list of an OPEN session changes (R1, R115). -/
theorem pendingList (h : x.portLaw) (ho : x.session.state = .opened) (rs : List PendingRequest) :
    PortState.portLaw { x with requests := rs } := by
  obtain ⟨timer, -, job, closed, number, untracked, replies, reply⟩ := h
  exact ⟨timer, fun hs => absurd ho hs, job, closed, number, untracked, replies, reply⟩

/-- A request leaves the pending list for the store (R1). -/
theorem requestTaken (h : x.portLaw) : PortState.portLaw { x with requests := x.requests.tail } := by
  obtain ⟨timer, requests, job, closed, number, untracked, replies, reply⟩ := h
  exact ⟨timer, fun hs => by rw [requests hs]; rfl, job, closed, number, untracked, replies, reply⟩

/-- A CLOSE ends an OPEN session (R134). -/
theorem endByClose (h : x.portLaw) (ho : x.session.state = .opened) (t : Tag) (g : Gen) :
    (x.endByClose t g).portLaw := by
  have no_reply := h.no_closeReply (by simp [ho])
  obtain ⟨-, -, -, -, number, untracked, replies, -⟩ := h
  exact ⟨nofun, fun _ => rfl, fun _ => rfl, nofun, fun _ => number (by simp [ho]), untracked, replies,
    fun ⟨f, hf, hp⟩ => absurd hp (no_reply f hf)⟩

/-- An OPEN session ends by lapse, break or forced close: of the transmit queue at most the frame begun stays (R132,
R135, R136). -/
theorem endAbruptly (h : x.portLaw) (ho : x.session.state = .opened) (cause : EndCause) :
    (x.endAbruptly cause).portLaw := by
  have no_reply : ∀ f ∈ (x.endAbruptly cause).queue, f.purpose ≠ .closeReply := by
    intro f hf
    obtain ⟨f', hf', rfl⟩ := List.mem_map.mp hf
    refine h.no_closeReply (by simp [ho]) f' ?_
    unfold PortState.begun at hf'
    split at hf'
    · exact List.mem_of_mem_take hf'
    · cases hf'
  have short : (x.endAbruptly cause).queue.length ≤ 1 := by
    show (x.begun.map _).length ≤ 1
    rw [List.length_map]
    unfold PortState.begun
    split
    · exact List.length_take_le _ _
    · exact Nat.zero_le _
  obtain ⟨-, -, -, -, number, -⟩ := h
  exact ⟨nofun, fun _ => rfl, fun _ => rfl, nofun, fun _ => number (by simp [ho]),
    (List.length_filter_le _ _).trans (short.trans (by decide)), (List.length_filter_le _ _).trans short,
    fun ⟨f, hf, hp⟩ => absurd hp (no_reply f hf)⟩

/-- The frame at the head of the queue has gone and its tag, if any, is IDLE (R119). -/
theorem frameGone (h : x.portLaw) {f : TxFrame} {rest : List TxFrame} (hq : x.queue = f :: rest) :
    (x.frameGone f rest).portLaw := by
  obtain ⟨timer, requests, job, closed, number, untracked, replies, reply⟩ := h.dequeue hq
  unfold PortState.frameGone
  cases f.tag with
  | none => exact ⟨timer, requests, job, closed, number, untracked, replies, reply⟩
  | some t =>
    refine ⟨timer, requests, job, fun hs k => ?_, number, untracked, replies, reply⟩
    have idle : ∀ k, x.tag k = ⟨.idle, none⟩ := closed hs
    show (x.setTag t ⟨.idle, (x.tag t).cache⟩).tag k = _
    rw [PortState.tag_setTag, idle t]
    split
    · rfl
    · exact idle k

/-- The tag table of a CLOSING port is emptied and the session CLOSED, its teardown job done and its CLOSE reply, if any,
sent (R144). -/
theorem becomeClosed (h : x.portLaw) (hs : x.session.state = .closing) (hj : x.teardown = none)
    (hq : ∀ f ∈ x.queue, f.purpose ≠ .closeReply) : x.becomeClosed.portLaw := by
  have stopped := h.timer_stopped (by simp [hs])
  obtain ⟨-, requests, -, -, -, untracked, replies, -⟩ := h
  exact ⟨fun hn => absurd stopped hn, fun _ => requests (by simp [hs]), fun hn => absurd hj hn,
    fun _ => x.becomeClosed_tag, fun hn => absurd rfl hn, untracked, replies, fun ⟨f, hf, hp⟩ => absurd hp (hq f hf)⟩

/-- The last byte of the CLOSE reply closes the session (R144). -/
theorem closeSent (h : x.portLaw) {f : TxFrame} {rest : List TxFrame} (hq : x.queue = f :: rest)
    (hf : f.purpose = .closeReply) : (x.frameGone f rest).becomeClosed.portLaw := by
  have same : (x.frameGone f rest).session = x.session ∧ (x.frameGone f rest).teardown = x.teardown := by
    unfold PortState.frameGone
    cases f.tag <;> exact ⟨rfl, rfl⟩
  have gone := h.frameGone hq
  obtain ⟨-, -, -, -, -, -, replies, reply⟩ := h
  obtain ⟨closing, idle⟩ := reply ⟨f, hq ▸ List.mem_cons_self, hf⟩
  have only : ∀ y ∈ rest, y.purpose ≠ .closeReply := by
    rw [hq, List.filter_cons_of_pos (by simp [hf]), List.length_cons] at replies
    have none : rest.filter (fun f => f.purpose == .closeReply) = [] := List.length_eq_zero_iff.mp (by omega)
    simpa using List.filter_eq_nil_iff.mp none
  exact gone.becomeClosed (by rw [same.1, closing]) (by rw [same.2, idle]) only

theorem reset (level : Level) : (PortState.reset level).portLaw := (PortState.Sound.reset level).law

end PortState.portLaw

/-! ### The laws of all ports -/

/-- Every port keeps its law. -/
def State.portsLaw (s : State) : Prop := ∀ p, (s.port p).portLaw

theorem State.Serves.portsLaw {s t : State} (h : s.Serves t) (hs : s.portsLaw) : t.portsLaw :=
  fun p => (h.port p).portLaw (hs p)

/-- After a reset of the part every port is as reset leaves it (R176). -/
theorem State.resetPart_port (s : State) (p : Port) : s.resetPart.port p = PortState.reset (s.port p).rxd :=
  mapVector_get _ _ _

theorem State.resetPart_portsLaw (s : State) : s.resetPart.portsLaw := fun p => by
  rw [State.resetPart_port]
  exact .reset _

namespace State.portsLaw

variable {s : State}

theorem setPort (h : s.portsLaw) {p : Port} {x : PortState} (hx : x.portLaw) : (s.setPort p x).portsLaw := by
  intro p'
  rw [State.port_setPort]
  split
  · exact hx
  · exact h p'

/-- A port whose link or statistics alone change. -/
theorem linkSet (h : s.portsLaw) {p : Port} {x : PortState} (hs : x.session = (s.port p).session)
    (ht : x.tags = (s.port p).tags) (hr : x.requests = (s.port p).requests) (hq : x.queue = (s.port p).queue)
    (hj : x.teardown = (s.port p).teardown) : (s.setPort p x).portsLaw := h.setPort ((h p).of_same hs ht hr hq hj)

/-! ### The port unit -/

theorem refusePort (h : s.portsLaw) (q : Sender) (code : Byte) (x : Answer) : (s.refusePort q code x).portsLaw :=
  h.setPort ((h q.port).sendUntracked _ _)

theorem answerUntracked (h : s.portsLaw) (q : Sender) (code : RequestCode) (x : Answer) :
    (s.answerUntracked q code x).portsLaw := h.setPort ((h q.port).sendUntracked _ _)

theorem restartTimer (h : s.portsLaw) (p : Port) : (s.restartTimer p).portsLaw := by
  unfold State.restartTimer
  split
  · next ho => exact h.setPort ((h p).restarted ho State.silenceTimer_running)
  · exact h

theorem openSession (h : s.portsLaw) {q : Sender} (hc : (s.port q.port).session.state = .closed) (silence : Half)
    (label : Label) : (s.openSession q silence label).portsLaw := by
  unfold State.openSession
  split
  · have opened := (h q.port).opening hc (session := s.openedSession q.port silence label) rfl
      (nextSession_ne_zero _) State.silenceTimer_running
    have counted := opened.of_same (y := PortState.counting { s.port q.port with
      session := s.openedSession q.port silence label } countSessionOpened) rfl rfl rfl rfl rfl
    exact h.setPort (counted.replying nofun _ _ _ (by decide))
  · exact h.answerUntracked _ _ _

theorem decodeClosed (h : s.portsLaw) {q : Sender} (hc : (s.port q.port).session.state = .closed) (r : Request) :
    (s.decodeClosed q r).portsLaw := by
  unfold State.decodeClosed
  split
  · exact h.answerUntracked _ _ _
  · exact h.answerUntracked _ _ _
  · exact h.openSession hc _ _
  · exact h.refusePort _ _ _

/-- An accepted request is replied, ends the session, or joins the pending list (R115, R134). -/
theorem accept (h : s.portsLaw) {q : Sender} (ho : (s.port q.port).session.state = .opened) (r : Request) :
    (s.accept q r).portsLaw := by
  unfold State.accept
  split
  case h_1 | h_2 | h_3 | h_4 => exact (s.complete_serves _ _ _).portsLaw h
  case h_5 => exact h.setPort ((h q.port).endByClose ho _ _)
  case h_6 => exact h.setPort ((h q.port).pendingList ho _)

/-- Check 3: a replay, an accepted request, a duplicate or a refusal (R111, R112). -/
theorem checkTag (h : s.portsLaw) {q : Sender} (ho : (s.port q.port).session.state = .opened) (r : Request) :
    (s.checkTag q r).portsLaw := by
  have open_ne : (s.port q.port).session.state ≠ .closed := by simp [ho]
  have accepted : ((s.pendTag q).accept q r).portsLaw := by
    have pended : (s.pendTag q).portsLaw := h.setPort ((h q.port).setTag open_ne _ _)
    refine pended.accept ?_ r
    unfold State.pendTag
    rw [State.port_setPort_same]
    exact ho
  unfold State.checkTag
  split
  · split
    · split
      · have replayed := (h q.port).replying open_ne q.tag ⟨.replying ‹Reply›.gen, some ‹Reply›⟩ ‹Reply›
          (purpose := .plain) (by decide)
        exact h.setPort (replayed.of_same rfl rfl rfl rfl rfl)
      · exact accepted
    · exact accepted
  · split
    · exact h.linkSet rfl rfl rfl rfl rfl
    · exact h.refusePort _ _ _

theorem decodeRequest (h : s.portsLaw) (q : Sender) (r : Request) : (decodeRequest q r s).portsLaw := by
  unfold Machine.decodeRequest
  split
  · next hc => exact h.decodeClosed hc r
  · next ho =>
    refine (h.restartTimer q.port).checkTag ?_ r
    unfold State.restartTimer
    rw [if_pos ho, State.port_setPort_same]
    exact ho
  · exact h.refusePort _ _ _

theorem decodeFrame (h : s.portsLaw) (p : Port) (body : List Byte) : (decodeFrame p body s).portsLaw := by
  unfold Machine.decodeFrame
  split
  · exact h
  · exact (h.restartTimer p).refusePort _ _ _
  · exact h.decodeRequest _ _

/-! ### The links -/

theorem takeLastByte (h : s.portsLaw) (p : Port) (b : Byte) : (takeLastByte p b s).portsLaw := by
  unfold Machine.takeLastByte
  dsimp only
  split
  · refine State.portsLaw.decodeFrame (h.linkSet ?_ ?_ ?_ ?_ ?_) _ _ <;> rfl
  · exact h.linkSet rfl rfl rfl rfl rfl

theorem takeByte (h : s.portsLaw) (p : Port) (b : Byte) : (takeByte p b s).portsLaw := by
  unfold Machine.takeByte
  dsimp only
  split
  · exact h.linkSet rfl rfl rfl rfl rfl
  · split <;> exact h.linkSet rfl rfl rfl rfl rfl
  · exact h.linkSet rfl rfl rfl rfl rfl
  · split
    · exact h.takeLastByte p b
    · exact h.linkSet rfl rfl rfl rfl rfl

theorem receiveCharacter (h : s.portsLaw) (p : Port) (b : Byte) : (receiveCharacter p b s).portsLaw := by
  unfold Machine.receiveCharacter
  split
  · exact h
  · refine State.portsLaw.takeByte (h.linkSet ?_ ?_ ?_ ?_ ?_) p b <;> rfl
  · exact h.linkSet rfl rfl rfl rfl rfl
  · exact h

theorem receiveLastByte (h : s.portsLaw) (p : Port) (b : Byte) : (receiveLastByte p b s).portsLaw := by
  unfold Machine.receiveLastByte
  split
  · exact h.receiveCharacter p b
  · exact h

theorem changePin (h : s.portsLaw) (pin : InputPin) (level : Level) : (changePin pin level s).portsLaw := by
  cases pin with
  | link p =>
    show (changeLevel p level s).portsLaw
    unfold changeLevel
    split
    · exact h
    · dsimp only
      split <;> exact h.linkSet rfl rfl rfl rfl rfl
  | ratesel1 | ratesel0 => exact h

theorem gapExpires (h : s.portsLaw) (p : Port) : (gapExpires p s).portsLaw := by
  unfold Machine.gapExpires
  split
  · exact h.linkSet rfl rfl rfl rfl rfl
  · exact h

theorem startTransmit (h : s.portsLaw) (p : Port) : (startTransmit p s).portsLaw := by
  unfold Machine.startTransmit
  split
  · exact h.linkSet rfl rfl rfl rfl rfl
  · exact h

/-- A frame has been sent (R119, R144, R175). -/
theorem finishTransmit (h : s.portsLaw) (p : Port) : (finishTransmit p s).portsLaw := by
  unfold Machine.finishTransmit
  split
  · next f rest _ hq =>
    dsimp only
    split
    · exact h.setPort ((h p).frameGone hq)
    · next hf =>
      split
      · exact h.setPort ((h p).closeSent hq hf)
      · exact h.setPort ((h p).frameGone hq)
    · exact State.resetPart_portsLaw _
  · exact h

/-! ### The ends of a session -/

theorem endAbruptly (h : s.portsLaw) {p : Port} (ho : (s.port p).session.state = .opened) (cause : EndCause) :
    (s.endAbruptly cause p).portsLaw := by
  rcases s.endAbruptly_cases cause p with ⟨u, hu⟩ | hu <;> rw [hu]
  · exact u.resetPart_portsLaw
  · exact h.setPort ((h p).endAbruptly ho cause)

/-- A break is counted, and ends a session that is OPEN (R135, R155). -/
theorem reportBreak (h : s.portsLaw) (p : Port) : (reportBreak p s).portsLaw := by
  have counted : (s.port p).countedBreak.session = (s.port p).session ∧
      (s.setPort p (s.port p).countedBreak).portsLaw := by
    unfold PortState.countedBreak PortState.beforeBreak
    split <;> exact ⟨rfl, h.linkSet rfl rfl rfl rfl rfl⟩
  unfold Machine.reportBreak
  split
  · dsimp only
    split
    · next ho =>
      refine counted.2.endAbruptly ?_ _
      rw [State.port_setPort_same, counted.1]
      exact ho
    · exact counted.2
  · exact h

theorem lapsePort (h : s.portsLaw) (p : Port) : (lapsePort p s).portsLaw := by
  unfold Machine.lapsePort
  split
  · next ho =>
    have counted : (s.setPort p ((s.port p).counting countLapse)).portsLaw := h.linkSet rfl rfl rfl rfl rfl
    refine counted.endAbruptly ?_ _
    rw [State.port_setPort_same]
    exact ho.1
  · exact h

/-- A forced close ends an OPEN session and is replied (R136, R165). -/
theorem jobForceClose (h : s.portsLaw) (q : Sender) (target : Byte) : (jobForceClose q target s).portsLaw := by
  have refused := fun status => (s.complete_serves q .forceClose (.refuse status)).portsLaw h
  unfold Machine.jobForceClose State.asAdmin State.withPort
  split
  · split
    · dsimp only
      split
      · exact refused _
      · split
        · exact refused _
        · next ho =>
          exact (State.complete_serves _ _ _ _).portsLaw (h.endAbruptly (not_not.mp ho) _)
    · exact refused _
  · exact refused _

/-! ### The jobs -/

theorem storeJob (h : s.portsLaw) (q : Sender) (r : Request) : (storeJob q r s).portsLaw := by
  by_cases hr : ∃ target, r = .forceClose target
  · obtain ⟨target, rfl⟩ := hr
    exact h.jobForceClose q target
  · exact (storeJob_serves q (not_exists.mp hr) s).portsLaw h

theorem runJob {body : State → State} (h : (body s).portsLaw) : (runJob body s).portsLaw :=
  (State.endsJob_serves s (body s)).portsLaw h

theorem requestJob (h : s.portsLaw) (q : Sender) (r : Request) :
    (requestJob q r (Machine.storeJob q r) s).portsLaw := by
  unfold Machine.requestJob
  split
  · have taken : (s.takeRequest q.port).portsLaw := h.setPort (h q.port).requestTaken
    exact State.portsLaw.runJob (taken.storeJob q r)
  · exact h

theorem takeExpiryJob (h : s.portsLaw) : (takeExpiryJob s).portsLaw := by
  unfold Machine.takeExpiryJob
  split
  · exact State.portsLaw.runJob ((jobExpiry_serves _ s.takeExpiry).portsLaw h)
  · exact h

/-- Stage 6 answers the CLOSE, or closes the session at once (R144). -/
theorem stageSix {x : TeardownRun} (h : x.state.portsLaw) {p : Port} (hs : (x.state.port p).session.state = .closing)
    (hj : (x.state.port p).teardown = none) (hq : ∀ f ∈ (x.state.port p).queue, f.purpose ≠ .closeReply)
    (j : TeardownJob) : (stageSix p j x).portsLaw := by
  have not_closed : (x.state.port p).session.state ≠ .closed := by simp [hs]
  unfold Machine.stageSix
  split
  · next t g _ =>
    have answered := fun r =>
      ((h p).setTag not_closed t ⟨.replying r.gen, some r⟩).enqueue (f := ⟨some t, r, .closeReply⟩) nofun
        fun _ => ⟨hs, hj, hq⟩
    unfold State.completeFor
    rw [hs]
    dsimp only
    split
    · exact h.setPort (answered _)
    · exact h.setPort ((h p).setTag not_closed t _)
  · exact h.setPort ((h p).becomeClosed hs hj hq)

/-- A teardown job is due at a CLOSING port whose CLOSE is not answered yet, and its first five stages leave it so
(R138, R144). -/
theorem takeTeardownJob (h : s.portsLaw) (p : Port) : (takeTeardownJob p s).portsLaw := by
  unfold Machine.takeTeardownJob
  split
  · next p' j hn =>
    split
    · next hp =>
      subst hp
      have due := State.teardown_of_nextJob hn
      obtain ⟨timer, requests, job, closed, number, untracked, replies, reply⟩ := h p'
      have no_reply : ∀ f ∈ (s.port p').queue, f.purpose ≠ .closeReply := fun f hf hp => by
        rw [(reply ⟨f, hf, hp⟩).2] at due
        cases due
      have port : (s.takeTeardown p').port p' = { s.port p' with teardown := none } := s.port_setPort_same p' _
      have taken : (s.takeTeardown p').portsLaw := h.setPort
        ⟨timer, requests, nofun, closed, number, untracked, replies, fun ⟨f, hf, hp⟩ => absurd hp (no_reply f hf)⟩
      obtain ⟨x, hx, served⟩ := jobTeardown_stageSix p' j (s.takeTeardown p')
      obtain ⟨fs, hq, hfs⟩ := (served.port p').queue
      refine State.portsLaw.runJob ?_
      rw [hx]
      refine (served.portsLaw taken).stageSix ?_ ?_ ?_ j
      · rw [(served.port p').session, port]
        exact job (by simp [due])
      · rw [(served.port p').teardown, port]
      · rw [hq, port]
        exact fun f hf => (List.mem_append.mp hf).elim (no_reply f) fun hf => (hfs f hf).2
    · exact h
  · exact h

end State.portsLaw

/-! ### The commands -/

/-- A command that acts while RESETN is high keeps the laws of the ports where its effect does. -/
theorem perform_portsLaw {f : State → State} {s t : State} (hs : s.portsLaw) (hf : (f s).portsLaw)
    (ht : perform f s = .next t) : t.portsLaw := by
  obtain ⟨u, hu, hcases⟩ := perform_next f s
  obtain rfl : u = t := Host.Outcome.next.inj (hu.symm.trans ht)
  rcases hcases with rfl | rfl
  · exact hs
  · exact hf

/-- A request that the port unit answers itself. -/
theorem exec_portCommand_portsLaw {c : Instr} {q : Sender} {r : Request} {s t : State} (hc : c.request? = some (q, r))
    (hr : isStoreJob r = false) (hs : s.portsLaw) (ht : exec c s = .next t) : t.portsLaw := by
  cases c <;> cases hc <;> cases hr
  case nop | identify | queryTags | closeSession => exact perform_portsLaw hs (hs.decodeRequest q _) ht
  case openSession silence label =>
    refine perform_portsLaw (f := fun s => if label.fits then decodeRequest q (.openSession silence label) s
      else (s.restartTimer q.port).refusePort q RequestCode.openSession.byte (.refuse .badRequest)) hs ?_ ht
    split
    · exact hs.decodeRequest q _
    · exact (hs.restartTimer q.port).refusePort _ _ _

/-- Every command keeps the laws of the ports. -/
theorem exec_portsLaw {c : Instr} {s t : State} (hs : s.portsLaw) (ht : exec c s = .next t) : t.portsLaw := by
  cases hc : c.request? with
  | some x =>
    obtain ⟨q, r⟩ := x
    cases hr : isStoreJob r with
    | true =>
      rw [exec_storeCommand hc hr] at ht
      exact perform_portsLaw hs (hs.requestJob q r) ht
    | false => exact exec_portCommand_portsLaw hc hr hs ht
  | none =>
    cases c with
    | supplyPowerUp | powerOnReset =>
      cases ht
      exact State.resetPart_portsLaw _
    | frameReceived p b => exact perform_portsLaw hs (hs.receiveLastByte p b) ht
    | gapError p => exact perform_portsLaw hs (hs.gapExpires p) ht
    | lineBreak p => exact perform_portsLaw hs (hs.reportBreak p) ht
    | deadlineDue => exact perform_portsLaw (f := presentExpiry) hs hs ht
    | timebaseTick => exact perform_portsLaw (f := tick) hs hs ht
    | expiryJob => exact perform_portsLaw hs hs.takeExpiryJob ht
    | lapse p => exact perform_portsLaw hs (hs.lapsePort p) ht
    | teardown p => exact perform_portsLaw hs (hs.takeTeardownJob p) ht
    | transmitStart p => exact perform_portsLaw hs (hs.startTransmit p) ht
    | frameSent p => exact perform_portsLaw hs (hs.finishTransmit p) ht
    | characterReceived p b => exact perform_portsLaw hs (hs.receiveCharacter p b) ht
    | inputLevelChange pin level =>
      cases ht
      exact hs.changePin pin level
    | _ => cases hc

/-- Settles O57: every command keeps the law of every port, job by job and port operation by port operation. -/
theorem portLawIsKept : Obligations.PortLawIsKept := by
  intro s t h ht
  unfold step at ht
  split at ht
  · cases ht
    exact h
  · next c rest _ => exact exec_portsLaw (s := { s with pending := rest }) h ht

end Sys2Proof.Machine
end

section
/-! PROOFS. The law of administration at every step (O59), the frame of the commands of one port unit and its link (O53),
and how a port unit takes a completion (O14). -/

namespace Sys2Proof.Machine

/-! ### The law of administration (R122, R164, R169) -/

/-- After a reset of the part port 0 holds ADMIN and no alert stands (R162, R176). -/
theorem State.resetPart_adminLaw (s : State) : s.resetPart.adminLaw := by
  refine ⟨⟨0, ?_⟩, Nat.zero_le _, Nat.zero_le _, fun p => ?_⟩
  · show (resetRights.get 0).admin = true
    exact congrArg Rights.admin (vector_get_set _ 0 0 _)
  · show (Vector.replicate 8 false)[p.val] = (_ && !true)
    rw [Vector.getElem_replicate, Bool.not_true, Bool.and_false]

namespace State.adminLaw

variable {s t : State}

/-- A port replaced leaves what the law reads. -/
theorem replacesPort (h : s.adminLaw) {p : Port} (ht : s.ReplacesPort p t) : t.adminLaw := by
  obtain ⟨x, rfl⟩ := ht
  exact State.adminLaw_of_same rfl h

theorem endAbruptly (h : s.adminLaw) (cause : EndCause) (p : Port) : (s.endAbruptly cause p).adminLaw := by
  rcases s.endAbruptly_cases cause p with ⟨u, hu⟩ | hu <;> rw [hu]
  · exact u.resetPart_adminLaw
  · exact h.replacesPort (s.setPort_replacesPort p _)

theorem lapsePort (h : s.adminLaw) (p : Port) : (lapsePort p s).adminLaw := by
  unfold Machine.lapsePort
  split
  · exact (h.replacesPort (s.setPort_replacesPort p _)).endAbruptly _ p
  · exact h

theorem reportBreak (h : s.adminLaw) (p : Port) : (reportBreak p s).adminLaw := by
  have counted := h.replacesPort (s.setPort_replacesPort p (s.port p).countedBreak)
  unfold Machine.reportBreak
  split
  · dsimp only
    split
    · exact counted.endAbruptly _ p
    · exact counted
  · exact h

theorem finishTransmit (h : s.adminLaw) (p : Port) : (finishTransmit p s).adminLaw := by
  unfold Machine.finishTransmit
  split
  · dsimp only
    split
    · exact h.replacesPort (s.setPort_replacesPort p _)
    · exact h.replacesPort (s.setPort_replacesPort p _)
    · exact State.resetPart_adminLaw _
  · exact h

theorem changePin (h : s.adminLaw) (pin : InputPin) (level : Level) : (changePin pin level s).adminLaw := by
  cases pin with
  | link p => exact h.replacesPort (changeLevel_replacesPort p level s)
  | ratesel1 | ratesel0 => exact State.adminLaw_of_same rfl h

/-- A forced close ends a session of its target and is replied (R136, R165). -/
theorem jobForceClose (h : s.adminLaw) (q : Sender) (target : Byte) : (jobForceClose q target s).adminLaw := by
  have refused := fun status => (s.complete_serves q .forceClose (.refuse status)).admin h
  unfold Machine.jobForceClose State.asAdmin State.withPort
  split
  · split
    · dsimp only
      split
      · exact refused _
      · split
        · exact refused _
        · exact (State.complete_serves _ _ _ _).admin (h.endAbruptly _ _)
    · exact refused _
  · exact refused _

theorem storeJob (h : s.adminLaw) (q : Sender) (r : Request) : (storeJob q r s).adminLaw := by
  by_cases hr : ∃ target, r = .forceClose target
  · obtain ⟨target, rfl⟩ := hr
    exact h.jobForceClose q target
  · exact (storeJob_serves q (not_exists.mp hr) s).admin h

theorem runJob {body : State → State} (h : (body s).adminLaw) : (runJob body s).adminLaw :=
  (State.endsJob_serves s (body s)).admin h

theorem requestJob (h : s.adminLaw) (q : Sender) (r : Request) :
    (requestJob q r (Machine.storeJob q r) s).adminLaw := by
  unfold Machine.requestJob
  split
  · have taken : (s.takeRequest q.port).adminLaw := State.adminLaw_of_same rfl h
    exact State.adminLaw.runJob (taken.storeJob q r)
  · exact h

theorem takeExpiryJob (h : s.adminLaw) : (takeExpiryJob s).adminLaw := by
  unfold Machine.takeExpiryJob
  split
  · have taken : s.takeExpiry.adminLaw := State.adminLaw_of_same rfl h
    exact State.adminLaw.runJob ((jobExpiry_serves _ _).admin taken)
  · exact h

theorem takeTeardownJob (h : s.adminLaw) (p : Port) : (takeTeardownJob p s).adminLaw := by
  unfold Machine.takeTeardownJob
  split
  · next j _ =>
    split
    · have taken : (s.takeTeardown p).adminLaw := State.adminLaw_of_same rfl h
      obtain ⟨x, hx, served⟩ := jobTeardown_stageSix p j (s.takeTeardown p)
      refine State.adminLaw.runJob ?_
      rw [hx]
      unfold stageSix
      split
      · exact (served.admin taken).replacesPort (State.completeFor_replacesPort _ _ _ _ _)
      · exact (served.admin taken).replacesPort (State.setPort_replacesPort _ _ _)
    · exact h
  · exact h

/-- A command that acts while RESETN is high keeps the law where its effect does. -/
theorem of_perform {f : State → State} (h : s.adminLaw) (hf : (f s).adminLaw) (ht : perform f s = .next t) :
    t.adminLaw := by
  obtain ⟨u, hu, hcases⟩ := perform_next f s
  obtain rfl : u = t := Host.Outcome.next.inj (hu.symm.trans ht)
  rcases hcases with rfl | rfl
  · exact h
  · exact hf

/-- Every command keeps the law of administration. -/
theorem of_exec {c : Instr} (h : s.adminLaw) (ht : exec c s = .next t) : t.adminLaw := by
  cases hc : c.request? with
  | some x =>
    obtain ⟨q, r⟩ := x
    cases hr : isStoreJob r with
    | true =>
      rw [exec_storeCommand hc hr] at ht
      exact h.of_perform (h.requestJob q r) ht
    | false =>
      obtain ⟨f, hf, hp⟩ := exec_portCommand hc hr
      rw [hf] at ht
      exact h.of_perform (h.replacesPort (hp s)) ht
  | none =>
    cases c with
    | supplyPowerUp | powerOnReset =>
      cases ht
      exact State.resetPart_adminLaw _
    | frameReceived p b => exact h.of_perform (h.replacesPort (receiveLastByte_replacesPort p b s)) ht
    | gapError p => exact h.of_perform (h.replacesPort (gapExpires_replacesPort p s)) ht
    | lineBreak p => exact h.of_perform (h.reportBreak p) ht
    | deadlineDue | timebaseTick => exact h.of_perform (State.adminLaw_of_same rfl h) ht
    | expiryJob => exact h.of_perform h.takeExpiryJob ht
    | lapse p => exact h.of_perform (h.lapsePort p) ht
    | teardown p => exact h.of_perform (h.takeTeardownJob p) ht
    | transmitStart p => exact h.of_perform (h.replacesPort (startTransmit_replacesPort p s)) ht
    | frameSent p => exact h.of_perform (h.finishTransmit p) ht
    | characterReceived p b => exact h.of_perform (h.replacesPort (receiveCharacter_replacesPort p b s)) ht
    | inputLevelChange pin level =>
      cases ht
      exact h.changePin pin level
    | _ => cases hc

end State.adminLaw

/-- Settles O59: the jobs serve the law, a reset restores it, and every other command leaves what it reads. -/
theorem adminLawIsKept : Obligations.AdminLawIsKept := by
  intro s t h ht
  unfold step at ht
  split at ht
  · cases ht
    exact h
  · next c rest _ =>
    have popped : State.adminLaw { s with pending := rest } := State.adminLaw_of_same rfl h
    exact popped.of_exec ht

/-! ### The commands of one port unit and its link (R108, R151 to R153) -/

/-- A state that replaces one port of another is determined by that port. -/
theorem State.ReplacesPort.eq_setPort {s t : State} {p : Port} (h : s.ReplacesPort p t) : t = s.setPort p (t.port p) := by
  obtain ⟨x, rfl⟩ := h
  rw [State.port_setPort_same]

/-- A command that acts while RESETN is high replaces at most the port that its effect replaces. -/
theorem perform_replacesPort {f : State → State} {s t : State} {p : Port} (hf : s.ReplacesPort p (f s))
    (ht : perform f s = .next t) : s.ReplacesPort p t := by
  obtain ⟨u, hu, hcases⟩ := perform_next f s
  obtain rfl : u = t := Host.Outcome.next.inj (hu.symm.trans ht)
  rcases hcases with rfl | rfl
  · exact .refl _ p
  · exact hf

/-- Settles O53: the decode, the receiver, the transmitter and the levels of a link each replace the port of that link. -/
theorem portCommandsChangeOnePort : Obligations.PortCommandsChangeOnePort := by
  intro c p s t hp ht
  suffices replaced : s.ReplacesPort p t from replaced.eq_setPort
  have unit : ∀ {q : Sender} {r : Request}, c.request? = some (q, r) → isStoreJob r = false → q.port = p →
      s.ReplacesPort p t := by
    rintro q r hc hr rfl
    obtain ⟨f, hf, replaces⟩ := exec_portCommand hc hr
    exact perform_replacesPort (replaces s) (hf s ▸ ht)
  unfold onePortCommand at hp
  split at hp <;> cases hp
  case h_1 b => exact perform_replacesPort (receiveLastByte_replacesPort _ b s) ht
  case h_2 => exact perform_replacesPort (gapExpires_replacesPort _ s) ht
  case h_3 | h_4 | h_5 | h_6 | h_7 => exact unit rfl rfl rfl
  case h_8 => exact perform_replacesPort (startTransmit_replacesPort _ s) ht
  case h_9 b => exact perform_replacesPort (receiveCharacter_replacesPort _ b s) ht
  case h_10 level =>
    cases ht
    exact changeLevel_replacesPort _ level s

/-! ### Completions (R116, R137) -/

/-- A completion to a port that ends by lapse, break or forced close is dropped and its tag becomes IDLE (R137). -/
theorem State.completeFor_abrupt {s : State} {q : Sender} (h : (s.port q.port).session.state = .closing)
    (hc : (s.port q.port).session.cause ≠ .closed) (purpose : Purpose) (code : Byte) (x : Answer) :
    s.completeFor purpose q code x = s.tagBecomes q .idle := by
  unfold State.completeFor
  rw [h]
  exact if_neg hc

/-- Settles O14: the session state and the end cause decide what becomes of a completion. -/
theorem completionIsTaken : Obligations.CompletionIsTaken := by
  intro s purpose q code x
  refine ⟨?_, fun hs hc => State.completeFor_abrupt hs hc purpose code x,
    fun hs => State.completeFor_closed hs purpose code x⟩
  rintro (ho | ⟨hs, hc⟩)
  · exact State.completeFor_opened ho purpose code x
  · exact State.completeFor_closing hs hc purpose code x

end Sys2Proof.Machine
end

section
/-! PROOFS. The decode of a request: checks 2 and 3 case by case (O9, O12), and the requests that the port unit answers
itself in an OPEN session (O8). -/

namespace Sys2Proof.Machine

/-! ### The frames and counts of a port unit (R114, R118) -/

/-- A port refusal, as an untracked frame counted or as a count alone (R114, R118). -/
theorem State.refusePort_eq (s : State) (q : Sender) (code : Byte) (x : Answer) :
    s.refusePort q code x = s.refusesAtPort q code x := by
  unfold State.refusePort PortState.sendUntracked State.refusesAtPort
  by_cases hroom : ((s.port q.port).queue.filter fun f => f.tag.isNone).length < 4
  · have sent : s.sendsUntracked q code x = s.setPort q.port
        { s.port q.port with queue := (s.port q.port).queue ++ [⟨none, s.replyTo q code x, .plain⟩] } := rfl
    have counted : ∀ (u : State) f, u.counts q.port f = u.setPort q.port ((u.port q.port).counting f) :=
      fun _ _ => rfl
    rw [if_pos hroom, counted, sent, State.port_setPort_same, State.setPort_setPort]
    exact congrArg _ (if_pos hroom)
  · rw [if_neg hroom]
    exact congrArg _ (if_neg hroom)

/-- An answer in the CLOSED state while fewer than four untracked frames stand in the queue (R113, R118). -/
theorem State.answerUntracked_of_room {s : State} {q : Sender}
    (h : ((s.port q.port).queue.filter fun f => f.tag.isNone).length < 4) (code : RequestCode) (x : Answer) :
    s.answerUntracked q code x = s.sendsUntracked q code.byte x := congrArg (s.setPort q.port) (if_pos h)

/-- An answer in the CLOSED state that would be a fifth untracked frame (R118). -/
theorem State.answerUntracked_of_full {s : State} {q : Sender}
    (h : 4 ≤ ((s.port q.port).queue.filter fun f => f.tag.isNone).length) (code : RequestCode) (x : Answer) :
    s.answerUntracked q code x = s.counts q.port fun c => { c with refusalsDropped := raise c.refusalsDropped } :=
  congrArg (s.setPort q.port) (if_neg (Nat.not_lt_of_le h))

/-! ### The silence timer (R131) -/

/-- A good frame decoded in an OPEN session restarts the silence timer (R131). -/
theorem State.restartTimer_opened {s : State} {p : Port} (h : (s.port p).session.state = .opened) :
    s.restartTimer p = s.timerRestarted p := if_pos h

/-- The silence timer of a session that is not OPEN stays stopped (R131). -/
theorem State.restartTimer_not_opened {s : State} {p : Port} (h : (s.port p).session.state ≠ .opened) :
    s.restartTimer p = s := if_neg h

/-- A restart of the silence timer changes the timer alone. -/
theorem State.timerRestarted_port (s : State) (p : Port) : (s.timerRestarted p).port p =
    { s.port p with session := { (s.port p).session with timer := s.silenceTimer (s.port p).session.silence } } :=
  s.port_setPort_same p _

/-! ### Check 2 (R110, R113) -/

/-- A request of the port unit with a body of its own is decoded while RESETN is high (R108). -/
theorem exec_portRequest {s : State} (hm : s.resetn = .mark) {r : Request} (hr : isStoreJob r = false)
    (hw : r.wellFormed = true) (q : Sender) : exec (requestCommand q r) s = .next (decodeRequest q r s) := by
  cases r with
  | nop | identify | queryTags | closeSession => exact perform_running _ hm
  | openSession silence label =>
    show execOpenSession q silence label s = _
    unfold execOpenSession
    rw [perform_running _ hm]
    exact congrArg _ (if_pos hw)
  | _ => cases hr

theorem decodeRequest_closed {s : State} {q : Sender} (h : (s.port q.port).session.state = .closed) (r : Request) :
    decodeRequest q r s = s.decodeClosed q r := by
  unfold decodeRequest
  rw [h]

theorem decodeRequest_closing {s : State} {q : Sender} (h : (s.port q.port).session.state = .closing) (r : Request) :
    decodeRequest q r s = s.refusesAtPort q r.code.byte ⟨.closing, Flags.clear, .none⟩ := by
  unfold decodeRequest
  rw [h]
  exact s.refusePort_eq q _ _

theorem decodeRequest_opened {s : State} {q : Sender} (h : (s.port q.port).session.state = .opened) (r : Request) :
    decodeRequest q r s = (s.timerRestarted q.port).checkTag q r := by
  unfold decodeRequest
  rw [h]
  exact congrArg (State.checkTag · q r) (State.restartTimer_opened h)

/-- A request of the store decoded in the CLOSED state (R110). -/
theorem State.decodeClosed_storeJob {r : Request} (hr : isStoreJob r = true) (s : State) (q : Sender) :
    s.decodeClosed q r = s.refusesAtPort q r.code.byte ⟨.noSession, Flags.clear, .none⟩ := by
  rw [← State.refusePort_eq]
  cases r with
  | nop | identify | queryTags | openSession | closeSession => cases hr
  | _ => rfl

/-- Settles O9: the session state decides, and in CLOSED the room in the transmit queue. -/
theorem sessionStateDecidesDecode : Obligations.SessionStateDecidesDecode := by
  intro s q hm
  constructor
  · intro hc
    have decoded : ∀ r, isStoreJob r = false → r.wellFormed = true →
        exec (requestCommand q r) s = .next (s.decodeClosed q r) := fun r hr hw => by
      rw [exec_portRequest hm hr hw, decodeRequest_closed hc]
    have nop := decoded .nop rfl rfl
    have identify := decoded .identify rfl rfl
    refine ⟨fun hroom => ⟨?_, ?_⟩, fun hfull => ⟨?_, ?_⟩, ?_, ?_, fun r hr => ?_⟩
    · exact nop.trans (congrArg _ (State.answerUntracked_of_room hroom _ _))
    · exact identify.trans (congrArg _ (State.answerUntracked_of_room hroom _ _))
    · exact nop.trans (congrArg _ (State.answerUntracked_of_full hfull _ _))
    · exact identify.trans (congrArg _ (State.answerUntracked_of_full hfull _ _))
    · exact (decoded .queryTags rfl rfl).trans (congrArg _ (s.refusePort_eq q _ _))
    · exact (decoded .closeSession rfl rfl).trans (congrArg _ (s.refusePort_eq q _ _))
    · rw [decodeRequest_closed hc, State.decodeClosed_storeJob hr]
  · intro hc
    refine ⟨decodeRequest_closing hc, fun r hr hw => ?_⟩
    rw [exec_portRequest hm hr hw, decodeRequest_closing hc]

/-! ### Check 3 (R111, R112, R115) -/

/-- A tag that is IDLE and whose cache holds the request's generation: a replay (R111). -/
theorem State.checkTag_replay {s : State} {q : Sender} {c : Reply} (ht : ((s.port q.port).tag q.tag).state = .idle)
    (hc : ((s.port q.port).tag q.tag).cache = some c) (hg : c.gen = q.gen) (r : Request) :
    s.checkTag q r = s.replay q c := by
  unfold State.checkTag
  rw [ht, hc]
  exact if_pos hg

/-- A tag that is IDLE and whose cache does not hold the request's generation accepts it (R111). -/
theorem State.checkTag_accepted {s : State} {q : Sender} (ht : ((s.port q.port).tag q.tag).state = .idle)
    (hc : ((s.port q.port).tag q.tag).cache.map Reply.gen ≠ some q.gen) (r : Request) :
    s.checkTag q r = (s.pendTag q).accept q r := by
  unfold State.checkTag
  rw [ht]
  cases hcache : ((s.port q.port).tag q.tag).cache with
  | none => rfl
  | some c =>
    rw [hcache] at hc
    exact if_neg fun hg => hc (congrArg some hg)

/-- A tag that carries the request already: a duplicate (R111). -/
theorem State.checkTag_duplicate {s : State} {q : Sender}
    (hg : ((s.port q.port).tag q.tag).state.gen? = some q.gen) (r : Request) :
    s.checkTag q r = s.counts q.port fun c => { c with duplicates := raise c.duplicates } := by
  unfold State.checkTag
  cases ht : ((s.port q.port).tag q.tag).state with
  | idle =>
    rw [ht] at hg
    cases hg
  | pending g | waiting g | replying g => exact if_pos (ht ▸ hg)

/-- A tag that carries another request (R112). -/
theorem State.checkTag_busy {s : State} {q : Sender} {g : Gen}
    (hg : ((s.port q.port).tag q.tag).state.gen? = some g) (hne : g ≠ q.gen) (r : Request) :
    s.checkTag q r =
      s.refusesAtPort q r.code.byte ⟨.tagBusy, Flags.clear, .tagBusy ((s.port q.port).tag q.tag).state⟩ := by
  rw [← State.refusePort_eq]
  unfold State.checkTag
  cases ht : ((s.port q.port).tag q.tag).state with
  | idle =>
    rw [ht] at hg
    cases hg
  | pending g' | waiting g' | replying g' =>
    rw [ht] at hg
    obtain rfl : g' = g := Option.some.inj hg
    exact if_neg fun h => hne (Option.some.inj h)

/-- An accepted request of the store joins the tail of the pending list (R115). -/
theorem State.accept_storeJob {r : Request} (hr : isStoreJob r = true) (s : State) (q : Sender) :
    s.accept q r = s.setPort q.port
      { s.port q.port with requests := (s.port q.port).requests ++ [⟨q.tag, q.gen, r⟩] } := by
  cases r with
  | nop | identify | queryTags | openSession | closeSession => cases hr
  | _ => rfl

/-- Settles O12: the tag's state and cache decide, by generations alone. -/
theorem tagTableDecidesRepeats : Obligations.TagTableDecidesRepeats := by
  intro s q r ho
  have restarted := s.timerRestarted_port q.port
  have tag : ((s.timerRestarted q.port).port q.port).tag q.tag = (s.port q.port).tag q.tag := by rw [restarted]; rfl
  rw [decodeRequest_opened ho]
  refine ⟨fun c ht hc hg => ?_, fun hg => ?_, fun g hg hne => ?_, fun ht hc hr => ?_⟩
  · rw [State.checkTag_replay (tag.symm ▸ ht) (tag.symm ▸ hc) hg]
    unfold State.replay PortState.sendTagFrame
    rw [hg, restarted]
    rfl
  · exact State.checkTag_duplicate (tag.symm ▸ hg) r
  · rw [State.checkTag_busy (tag.symm ▸ hg) hne, tag]
  · rw [State.checkTag_accepted (tag.symm ▸ ht) (tag.symm ▸ hc), State.accept_storeJob hr]
    unfold State.pendTag
    rw [State.port_setPort_same, State.setPort_setPort, restarted]
    rfl

/-! ### The requests answered at once (R123 to R125, R130) -/

/-- The reply to a tag just set PENDING overwrites its state (R111, R116). -/
theorem State.pendTag_replied (s : State) (q : Sender) (code : Byte) (x : Answer) :
    (s.pendTag q).replied q code x = s.replied q code x := by
  have sent : ∀ u : State, u.replied q code x =
      u.setPort q.port ((u.port q.port).sendTagFrame q.tag (u.replyNow q code x) .plain) := fun _ => rfl
  rw [sent, sent]
  unfold State.pendTag
  rw [State.port_setPort_same, State.setPort_setPort]
  unfold PortState.sendTagFrame PortState.setTagState
  rw [PortState.setTag_setTag]
  rfl

/-- A request accepted and answered at once by the port unit (R111, R116). -/
theorem exec_answered {s : State} {q : Sender} (h : s.accepts q) {r : Request} (hr : isStoreJob r = false)
    (hw : r.wellFormed = true) {code : RequestCode} {x : Answer}
    (ha : ((s.timerRestarted q.port).pendTag q).accept q r = ((s.timerRestarted q.port).pendTag q).complete q code x) :
    exec (requestCommand q r) s = .next ((s.timerRestarted q.port).replied q code.byte x) := by
  obtain ⟨hm, ho, ht, hc⟩ := h
  have restarted := s.timerRestarted_port q.port
  have tag : ((s.timerRestarted q.port).port q.port).tag q.tag = (s.port q.port).tag q.tag := by rw [restarted]; rfl
  have opened : (((s.timerRestarted q.port).pendTag q).port q.port).session.state = .opened := by
    unfold State.pendTag
    rw [State.port_setPort_same, restarted]
    exact ho
  rw [exec_portRequest hm hr hw, decodeRequest_opened ho, State.checkTag_accepted (tag.symm ▸ ht) (tag.symm ▸ hc), ha,
    State.complete_opened opened, State.pendTag_replied]

/-- The report of a tag table in which one tag was just set PENDING (R125). -/
theorem PortState.tagReport_setTagState (x : PortState) (t : Tag) (g : Gen) :
    tagReport (x.setTagState t (.pending g)) = ([0, 1, 2, 3] : List Tag).map fun k =>
      (if k = t then .pending g else (x.tag k).state, (x.tag k).cache.map Reply.gen) := by
  refine List.map_congr_left fun k _ => ?_
  unfold PortState.setTagState
  rw [PortState.tag_setTag]
  by_cases hk : k = t
  · subst hk
    rw [if_pos rfl, if_pos rfl]
  · rw [if_neg (Ne.symm hk), if_neg hk]

/-- Settles O8: the tag accepts the request, which the port unit answers in the state of its own port. -/
theorem openSessionAnswersAtOnce : Obligations.OpenSessionAnswersAtOnce := by
  intro s q h
  have pended : ((s.timerRestarted q.port).pendTag q).port q.port =
      ((s.timerRestarted q.port).port q.port).setTagState q.tag (.pending q.gen) := State.port_setPort_same _ _ _
  rw [s.timerRestarted_port] at pended
  refine ⟨exec_answered h (r := .nop) rfl rfl rfl, exec_answered h (r := .identify) rfl rfl rfl,
    exec_answered h (r := .queryTags) rfl rfl (code := .queryTags) ?_,
    fun silence label hl => exec_answered h (r := .openSession silence label) rfl ?_ (code := .openSession) ?_, rfl⟩
  · unfold State.accept
    rw [pended, PortState.tagReport_setTagState]
    rfl
  · exact decide_eq_true hl
  · unfold State.accept
    rw [pended]
    rfl

end Sys2Proof.Machine
end

section
/-! PROOFS. Check 1 of the decode (O13): which codes of named values a byte spells, which fields spell a request, and what
becomes of a body that spells none. -/

namespace Sys2Proof

/-! ### The codes of named values (R179, R181) -/

theorem flagOf_isSome_iff (b : Byte) : (flagOf b).isSome = true ↔ b.toNat ≤ 1 := by
  unfold flagOf
  split
  · next h => subst h; decide
  · split
    · next h => subst h; decide
    · exact iff_of_false nofun (by bv_omega)

theorem orderOf_isSome_iff (b : Byte) : (orderOf b).isSome = true ↔ b.toNat ≤ 1 := by
  unfold orderOf
  split
  · next h => subst h; decide
  · split
    · next h => subst h; decide
    · exact iff_of_false nofun (by bv_omega)

theorem queueEndOf_isSome_iff (b : Byte) : (queueEndOf b).isSome = true ↔ b.toNat ≤ 1 := by
  unfold queueEndOf
  split
  · next h => subst h; decide
  · split
    · next h => subst h; decide
    · exact iff_of_false nofun (by bv_omega)

theorem targetTagOf_isSome_iff (b : Byte) : (targetTagOf b).isSome = true ↔ b.toNat ≤ 3 := by
  unfold targetTagOf
  split
  · next h => exact iff_of_true rfl (by omega)
  · next h => exact iff_of_false nofun (by omega)

theorem rightsOf_isSome_iff (b : Byte) : (rightsOf b).isSome = true ↔ b.toNat ≤ 7 := by
  have high : b.extractLsb' 3 5 = 0#5 ↔ b.toNat ≤ 7 := by
    rw [← BitVec.toNat_inj, BitVec.extractLsb'_toNat, Nat.shiftRight_eq_div_pow]
    have := b.isLt
    simp only [BitVec.toNat_ofNat]
    omega
  unfold rightsOf
  split
  · next h => exact iff_of_true rfl (high.mp h)
  · next h => exact iff_of_false nofun (h ∘ high.mpr)

/-- The bytes of the guard relations are 0 to 11 (R181). -/
theorem relationOf_isSome_iff (b : Byte) : (relationOf b).isSome = true ↔ b.toNat ≤ 11 := by
  unfold relationOf
  rw [List.find?_isSome]
  constructor
  · rintro ⟨r, -, hr⟩
    obtain rfl := beq_iff_eq.mp hr
    cases r <;> decide
  · intro hb
    have spelled : ∀ n ≤ 11, ∃ r ∈ Relation.all, r.byte = BitVec.ofNat 8 n := by decide
    obtain ⟨r, hr, heq⟩ := spelled _ hb
    exact ⟨r, hr, by rw [heq, BitVec.ofNat_toNat, BitVec.setWidth_eq, beq_self_eq_true]⟩

/-- The slot field names a slot, or any (R181). -/
theorem slotChoiceOf_isSome_iff (hi lo : Byte) : (slotChoiceOf hi lo).isSome = true ↔
    ¬ (255 < 256 * hi.toNat + lo.toNat ∧ 256 * hi.toNat + lo.toNat ≠ 65535) := by
  unfold slotChoiceOf
  split
  · next h => exact iff_of_true rfl (by bv_omega)
  · split
    · next h => exact iff_of_true rfl (by obtain ⟨rfl, rfl⟩ := h; decide)
    · next h => exact iff_of_false nofun (not_not.mpr (by bv_omega))

/-- The kind is a cell, a queue or a lock, and a cell's order policy is one of two (R181). -/
theorem kindParamsOf_isSome_iff (kind p0 p1 p2 p3 p4 : Byte) : (kindParamsOf kind p0 p1 p2 p3 p4).isSome = true ↔
    kind.toNat ∈ [1, 2, 3] ∧ ¬ (kind.toNat = 1 ∧ 1 < p4.toNat) := by
  unfold kindParamsOf
  split
  · next h => subst h; simp [orderOf_isSome_iff]
  · split
    · next h => subst h; simp
    · split
      · next h => subst h; simp
      · refine iff_of_false nofun fun h => ?_
        simp only [List.mem_cons, List.not_mem_nil, or_false] at h
        bv_omega

/-- The operation is one of eight, and the signed flag of an EXTRACT is a flag (R181). -/
theorem cellOpOf_isSome_iff (op a0 a1 a2 a3 b0 b1 b2 b3 : Byte) :
    (cellOpOf op a0 a1 a2 a3 b0 b1 b2 b3).isSome = true ↔ op.toNat ≤ 7 ∧ ¬ (op.toNat = 6 ∧ 1 < a2.toNat) := by
  unfold cellOpOf
  dsimp only
  iterate 6
    split
    · next h => subst h; simp
  split
  · next h => subst h; simp [flagOf_isSome_iff]
  · split
    · next h => subst h; simp
    · exact iff_of_false nofun (by bv_omega)

theorem labelOf_isSome_iff (label : List Byte) : (labelOf label).isSome = true ↔ label.length ≤ 8 := by
  unfold labelOf Label.fits
  split
  · next h => exact iff_of_true rfl (of_decide_eq_true h)
  · next h => exact iff_of_false nofun fun hl => h (decide_eq_true hl)

end Sys2Proof

namespace Sys2Proof.Machine

/-! ### The fields of a request (R109, R180 to R182) -/

/-- The fields of a request have a length that its code allows, and its code is the one that selected them. -/
theorem requestOf_some {c : RequestCode} {fields : List Byte} {r : Request} (h : requestOf c fields = some r) :
    r.code = c ∧ lengthAllowed c (fields.length + 2) = true := by
  have short : ∀ {label l : List Byte}, labelOf label = some l → label.length ≤ 8 := fun hl =>
    (labelOf_isSome_iff _).mp (Option.isSome_of_eq_some hl)
  cases c
  case find =>
    obtain ⟨label, hl, rfl⟩ := Option.map_eq_some_iff.mp h
    exact ⟨rfl, by simpa [lengthAllowed] using short hl⟩
  case openSession =>
    unfold requestOf at h
    dsimp only at h
    split at h
    · obtain ⟨l, hl, rfl⟩ := Option.map_eq_some_iff.mp h
      exact ⟨rfl, by simpa [lengthAllowed] using short hl⟩
    · cases h
  case create =>
    unfold requestOf at h
    dsimp only at h
    split at h
    · split at h
      · next hl =>
        cases h
        exact ⟨rfl, by simpa [lengthAllowed] using short hl⟩
      · cases h
    · cases h
  case cellOp =>
    unfold requestOf at h
    dsimp only at h
    split at h
    · split at h <;> cases h
      exact ⟨rfl, rfl⟩
    · cases h
  case setOrder | put | take | cancel | setRights | stats =>
    unfold requestOf at h
    dsimp only at h
    split at h
    · obtain ⟨_, -, rfl⟩ := Option.map_eq_some_iff.mp h
      exact ⟨rfl, rfl⟩
    · cases h
  all_goals
    unfold requestOf at h
    dsimp only at h
    split at h <;> cases h
    exact ⟨rfl, rfl⟩

/-- The fields of a CREATE spell a request where slot, flag, kind and label do (R182). -/
theorem requestOf_create_isSome (kind n1 n0 access flag p0 p1 p2 p3 p4 p5 : Byte) (label : List Byte) :
    (requestOf .create (kind :: n1 :: n0 :: access :: flag :: p0 :: p1 :: p2 :: p3 :: p4 :: p5 :: label)).isSome =
      ((slotChoiceOf n1 n0).isSome && (flagOf flag).isSome && (kindParamsOf kind p0 p1 p2 p3 p4).isSome &&
        (labelOf label).isSome) := by
  unfold requestOf
  dsimp only
  cases slotChoiceOf n1 n0 <;> cases flagOf flag <;> cases kindParamsOf kind p0 p1 p2 p3 p4 <;>
    cases labelOf label <;> rfl

/-- The fields of a CELL_OP spell a request where operation and relation do (R182). -/
theorem requestOf_cellOp_isSome (n s op rel g3 g2 g1 g0 w1 w0 a0 a1 a2 a3 b0 b1 b2 b3 : Byte) :
    (requestOf .cellOp [n, s, op, rel, g3, g2, g1, g0, w1, w0, a0, a1, a2, a3, b0, b1, b2, b3]).isSome =
      ((cellOpOf op a0 a1 a2 a3 b0 b1 b2 b3).isSome && (relationOf rel).isSome) := by
  unfold requestOf
  dsimp only
  cases cellOpOf op a0 a1 a2 a3 b0 b1 b2 b3 <;> cases relationOf rel <;> rfl

/-- Fields of a length that their code allows spell a request exactly where no code field holds an undefined value. -/
theorem requestOf_isSome_of_length {c : RequestCode} {fields : List Byte}
    (h : lengthAllowed c (fields.length + 2) = true) :
    (requestOf c fields).isSome = true ↔ ¬ holdsUndefinedCode c.byte fields := by
  cases c <;> simp only [lengthAllowed, Nat.reduceBeqDiff, beq_iff_eq, Bool.and_eq_true, decide_eq_true_eq] at h
  case nop | identify | closeSession | queryTags | storeClear | readAlerts | partReset =>
    match fields, h with
    | [], _ => simp [requestOf, holdsUndefinedCode, RequestCode.byte]
  case delete | describe | flush | release | restore | setPoolMark =>
    match fields, h with
    | [_, _], _ => simp [requestOf, holdsUndefinedCode, RequestCode.byte]
  case peek | acquire =>
    match fields, h with
    | [_, _, _, _], _ => simp [requestOf, holdsUndefinedCode, RequestCode.byte]
  case forceClose =>
    match fields, h with
    | [_], _ => simp [requestOf, holdsUndefinedCode, RequestCode.byte]
  case setAccess =>
    match fields, h with
    | [_, _, _], _ => simp [requestOf, holdsUndefinedCode, RequestCode.byte]
  case setQueueLimits =>
    match fields, h with
    | [_, _, _, _, _, _], _ => simp [requestOf, holdsUndefinedCode, RequestCode.byte]
  case find =>
    have short : fields.length ≤ 8 := by omega
    simp [requestOf, holdsUndefinedCode, RequestCode.byte, labelOf_isSome_iff, short]
  case openSession =>
    match fields, h with
    | s1 :: s0 :: label, h =>
      have short : label.length ≤ 8 := by simpa using h
      simp [requestOf, holdsUndefinedCode, RequestCode.byte, labelOf_isSome_iff, short]
  case create =>
    match fields, h with
    | kind :: n1 :: n0 :: access :: flag :: p0 :: p1 :: p2 :: p3 :: p4 :: p5 :: label, h =>
      have short : label.length ≤ 8 := by simpa using h
      have undefined : holdsUndefinedCode RequestCode.create.byte (kind :: n1 :: n0 :: access :: flag :: p0 :: p1 ::
          p2 :: p3 :: p4 :: p5 :: label) ↔ kind.toNat ∉ [1, 2, 3] ∨
            (255 < 256 * n1.toNat + n0.toNat ∧ 256 * n1.toNat + n0.toNat ≠ 65535) ∨ 1 < flag.toNat ∨
              (kind.toNat = 1 ∧ 1 < p4.toNat) := by simp [holdsUndefinedCode, RequestCode.byte, fieldAt]
      rw [undefined, requestOf_create_isSome]
      simp only [Bool.and_eq_true, slotChoiceOf_isSome_iff, flagOf_isSome_iff, kindParamsOf_isSome_iff,
        labelOf_isSome_iff, short, and_true, not_or, not_not, Nat.not_lt]
      exact ⟨fun ⟨⟨slot, scope⟩, kind, order⟩ => ⟨kind, slot, scope, order⟩,
        fun ⟨kind, slot, scope, order⟩ => ⟨⟨slot, scope⟩, kind, order⟩⟩
  case cellOp =>
    match fields, h with
    | [n, s, op, rel, g3, g2, g1, g0, w1, w0, a0, a1, a2, a3, b0, b1, b2, b3], _ =>
      have undefined : holdsUndefinedCode RequestCode.cellOp.byte [n, s, op, rel, g3, g2, g1, g0, w1, w0, a0, a1, a2,
          a3, b0, b1, b2, b3] ↔ 7 < op.toNat ∨ 11 < rel.toNat ∨ (op.toNat = 6 ∧ 1 < a2.toNat) := by
        simp [holdsUndefinedCode, RequestCode.byte, fieldAt]
      rw [undefined, requestOf_cellOp_isSome, Bool.and_eq_true, cellOpOf_isSome_iff, relationOf_isSome_iff]
      omega
  case setOrder =>
    match fields, h with
    | [_, _, o], _ => simp [requestOf, holdsUndefinedCode, RequestCode.byte, orderOf_isSome_iff, fieldAt]
  case put =>
    match fields, h with
    | [_, _, e, _, _, _, _, _, _], _ =>
      simp [requestOf, holdsUndefinedCode, RequestCode.byte, queueEndOf_isSome_iff, fieldAt]
  case take =>
    match fields, h with
    | [_, _, e, _, _], _ =>
      simp [requestOf, holdsUndefinedCode, RequestCode.byte, queueEndOf_isSome_iff, fieldAt]
  case cancel =>
    match fields, h with
    | [t], _ => simp [requestOf, holdsUndefinedCode, RequestCode.byte, targetTagOf_isSome_iff, fieldAt]
  case setRights =>
    match fields, h with
    | [_, r], _ => simp [requestOf, holdsUndefinedCode, RequestCode.byte, rightsOf_isSome_iff, fieldAt]
  case stats =>
    match fields, h with
    | [_, f], _ => simp [requestOf, holdsUndefinedCode, RequestCode.byte, flagOf_isSome_iff, fieldAt]

/-- Fields spell a request exactly where their length is allowed and no code field holds an undefined value (R109). -/
theorem requestOf_eq_none_iff (c : RequestCode) (fields : List Byte) : requestOf c fields = none ↔
    lengthAllowed c (fields.length + 2) = false ∨ holdsUndefinedCode c.byte fields := by
  cases hl : lengthAllowed c (fields.length + 2) with
  | true =>
    rw [← Option.not_isSome_iff_eq_none, requestOf_isSome_of_length hl]
    simp
  | false =>
    refine iff_of_true ?_ (.inl rfl)
    by_contra hn
    obtain ⟨r, hr⟩ := Option.ne_none_iff_exists'.mp hn
    rw [(requestOf_some hr).2] at hl
    cases hl

/-! ### Check 1 of the decode (R108, R109, R177) -/

theorem requestCodeOf_byte (c : RequestCode) : requestCodeOf c.byte = some c := by
  cases c <;> rfl

theorem byte_of_requestCodeOf {b : Byte} {c : RequestCode} (h : requestCodeOf b = some c) : c.byte = b :=
  beq_iff_eq.mp (List.find?_some h :)

/-- The header byte gives tag and generation back (R177). -/
theorem header_eq {packed : Byte} {t : Tag} {g : Gen} (h : packed.toNat = t.val * 64 + g.val) :
    headerTag packed = t ∧ headerGen packed = g := by
  have := g.isLt
  exact ⟨Fin.ext (show packed.toNat / 64 = t.val by omega), Fin.ext (show packed.toNat % 64 = g.val by omega)⟩

/-- A body whose code names no request, or a request that its fields do not spell (R109). -/
theorem decodeBody_malformed {code packed : Byte} {fields : List Byte}
    (h : ∀ c, c.byte = code → requestOf c fields = none) :
    decodeBody (code :: packed :: fields) = .malformed code (headerTag packed) (headerGen packed) := by
  unfold decodeBody
  dsimp only
  split
  · next c hc => rw [h c (byte_of_requestCodeOf hc)]
  · rfl

/-- A body whose fields spell a request (R109). -/
theorem decodeBody_request {c : RequestCode} {fields : List Byte} {r : Request} (h : requestOf c fields = some r)
    (packed : Byte) :
    decodeBody (c.byte :: packed :: fields) = .request (headerTag packed) (headerGen packed) r := by
  unfold decodeBody
  dsimp only
  rw [requestCodeOf_byte]
  dsimp only
  rw [h]

/-- Settles O13: the code, the length and the code fields decide whether a body spells a request. -/
theorem malformedBodyIsRefused : Obligations.MalformedBodyIsRefused := by
  constructor
  · intro s p code packed fields t g hp hbad
    obtain ⟨rfl, rfl⟩ := header_eq hp
    have none : ∀ c, c.byte = code → requestOf c fields = none := by
      rintro c rfl
      rw [requestOf_eq_none_iff]
      rcases hbad with hlength | hcode | ⟨c', hbyte, hn⟩
      · exact .inl (hlength c rfl)
      · exact .inr hcode
      · obtain rfl : c' = c := Option.some.inj ((requestCodeOf_byte c').symm.trans (hbyte ▸ requestCodeOf_byte c))
        exact (requestOf_eq_none_iff _ _).mp hn
    unfold decodeFrame
    rw [decodeBody_malformed none]
    dsimp only
    rw [State.refusePort_eq]
    split
    · next ho => rw [State.restartTimer_opened ho]; rfl
    · next hn => rw [State.restartTimer_not_opened hn]; rfl
  · intro packed fields t g c hp hl hu
    obtain ⟨rfl, rfl⟩ := header_eq hp
    obtain ⟨r, hr⟩ := Option.isSome_iff_exists.mp ((requestOf_isSome_of_length hl).mpr hu)
    exact ⟨r, (requestOf_some hr).1, decodeBody_request hr packed⟩

end Sys2Proof.Machine
end

section
/-! PROOFS. Frames sent (O19): the body of a reply byte by byte against its layout, the transmitter from the first byte of
a frame to its last, and what the last byte of a CLOSE or PART_RESET reply brings about. -/

namespace Sys2Proof.Machine

/-! ### Numbers in bytes (R179) -/

@[simp] theorem numberBytes_length (width n : Nat) : (numberBytes width n).length = width := by
  simp [numberBytes]

theorem numberBytes_one (n : Nat) : numberBytes 1 n = [BitVec.ofNat 8 n] := by
  simp [numberBytes]

theorem numberBytes_two (n : Nat) : numberBytes 2 n = [BitVec.ofNat 8 (n / 256), BitVec.ofNat 8 n] := by
  simp [numberBytes, List.range_succ]

theorem numberBytes_four (n : Nat) : numberBytes 4 n =
    [BitVec.ofNat 8 (n / 256 ^ 3), BitVec.ofNat 8 (n / 256 ^ 2), BitVec.ofNat 8 (n / 256), BitVec.ofNat 8 n] := by
  simp [numberBytes, List.range_succ]

/-- Byte `k` of a word, counted from the least significant. -/
theorem extractLsb'_eq_ofNat_div {w : Nat} (x : BitVec w) (k : Nat) :
    x.extractLsb' (8 * k) 8 = BitVec.ofNat 8 (x.toNat / 256 ^ k) := by
  apply BitVec.eq_of_toNat_eq
  rw [BitVec.extractLsb'_toNat, Nat.shiftRight_eq_div_pow, BitVec.toNat_ofNat, Nat.pow_mul]

theorem halfBytes_eq (x : Half) : halfBytes x = numberBytes 2 x.toNat := by
  rw [numberBytes_two]
  have hi := extractLsb'_eq_ofNat_div x 1
  have lo := extractLsb'_eq_ofNat_div x 0
  simp only [Nat.pow_one, Nat.pow_zero, Nat.div_one] at hi lo
  exact congrArg₂ (fun a b => [a, b]) hi lo

theorem wordBytes_eq (x : Word) : wordBytes x = numberBytes 4 x.toNat := by
  rw [numberBytes_four]
  have b3 := extractLsb'_eq_ofNat_div x 3
  have b2 := extractLsb'_eq_ofNat_div x 2
  have hi := extractLsb'_eq_ofNat_div x 1
  have lo := extractLsb'_eq_ofNat_div x 0
  simp only [Nat.pow_one, Nat.pow_zero, Nat.div_one] at hi lo
  unfold wordBytes
  rw [← b3, ← b2, ← hi, ← lo]

/-- A count in two bytes is cut to its low 16 bits, and so is a number. -/
theorem countBytes_eq (n : Nat) : countBytes n = numberBytes 2 n := by
  have hi : BitVec.ofNat 8 (n % 65536 / 256) = BitVec.ofNat 8 (n / 256) := BitVec.eq_of_toNat_eq (by simp; omega)
  have lo : BitVec.ofNat 8 (n % 65536) = BitVec.ofNat 8 n := BitVec.eq_of_toNat_eq (by simp)
  unfold countBytes
  rw [halfBytes_eq, numberBytes_two, numberBytes_two, BitVec.toNat_ofNat, hi, lo]

/-- A byte is the number it holds. -/
theorem numberBytes_toNat (b : Byte) : numberBytes 1 b.toNat = [b] := by
  rw [numberBytes_one, BitVec.ofNat_toNat, BitVec.setWidth_eq]

/-! ### The data of a reply, field by field (R181, R183, R185) -/

/-- The bytes of a layout: each field in its width. -/
def layoutBytes (fields : List (Nat × Nat)) : List Byte := fields.flatMap fun f => numberBytes f.1 f.2

@[simp] theorem layoutBytes_nil : layoutBytes [] = [] := rfl

@[simp] theorem layoutBytes_cons (width n : Nat) (fields : List (Nat × Nat)) :
    layoutBytes ((width, n) :: fields) = numberBytes width n ++ layoutBytes fields := rfl

@[simp] theorem layoutBytes_append (l m : List (Nat × Nat)) : layoutBytes (l ++ m) = layoutBytes l ++ layoutBytes m :=
  List.flatMap_append

/-- The bytes of a list of layouts, laid end to end. -/
theorem layoutBytes_flatMap {α : Type} (f : α → List (Nat × Nat)) (l : List α) :
    layoutBytes (l.flatMap f) = l.flatMap fun x => layoutBytes (f x) := List.flatMap_assoc

/-- The bytes of named values, as the numbers of R181. -/
theorem TagState.byte_eq (st : TagState) : st.byte = BitVec.ofNat 8 (tagStateNumber st) := by
  cases st <;> rfl

theorem genByte_eq (g : Option Gen) : genByte g = BitVec.ofNat 8 (genNumber g) := by
  cases g <;> rfl

theorem EndCause.byte_eq (cause : EndCause) : cause.byte = BitVec.ofNat 8 (causeNumber cause) := by
  cases cause <;> rfl

theorem SessionState.byte_eq (st : SessionState) : st.byte = BitVec.ofNat 8 (sessionStateNumber st) := by
  cases st <;> rfl

theorem order_byte_eq (order : Order) : order.byte = BitVec.ofNat 8 (orderNumber order) := by
  cases order <;> rfl

theorem portByteOrNone_eq (p : Option Port) : portByteOrNone p = BitVec.ofNat 8 (holderNumber p) := by
  cases p <;> rfl

theorem flagByte_eq (f : Bool) : flagByte f = BitVec.ofNat 8 f.toNat := by
  cases f <;> rfl

theorem rights_byte_eq (r : Rights) :
    r.byte = BitVec.ofNat 8 (r.create.toNat + 2 * r.delete.toNat + 4 * r.admin.toNat) := rfl

/-- A label is its characters, one byte each; an absent one is none. -/
theorem labelBytes_eq (label : Option Label) : labelBytes label = layoutBytes (labelLayout label) := by
  have bytes : ∀ l : Label, layoutBytes (l.map fun b => (1, b.toNat)) = l := fun l => by
    induction l with
    | nil => rfl
    | cons b l ih => rw [List.map_cons, layoutBytes_cons, numberBytes_toNat, ih]; rfl
  cases label with
  | none => rfl
  | some l => exact (bytes l).symm

/-- The kind byte and the kind data of a DESCRIBE reply (R183). -/
theorem KindData.encode_eq (kind : KindData) :
    kind.encode.1 = BitVec.ofNat 8 kind.layout.1 ∧ kind.encode.2 = layoutBytes kind.layout.2 := by
  cases kind with
  | cell value order => simp [KindData.encode, KindData.layout, wordBytes_eq, order_byte_eq, numberBytes_one]
  | queue depth limit reserve => simp [KindData.encode, KindData.layout, countBytes_eq]
  | lock holder count damaged =>
    cases holder <;>
      simp [KindData.encode, KindData.layout, portByteOrNone_eq, halfBytes_eq, flagByte_eq, countByte, numberBytes_one]

/-- An alert in nine bytes (R185). -/
theorem Alert.bytes_eq (x : Alert) : x.bytes = layoutBytes x.layout := by
  obtain ⟨kind, time⟩ := x
  cases kind with
  | quarantine h =>
    simp [Alert.bytes, Alert.layout, wordBytes_eq, Handle.bytes, numberBytes_one, numberBytes_two]
  | lapsed s | broken s | forced s =>
    simp [Alert.bytes, Alert.layout, wordBytes_eq, halfBytes_eq, portByte, numberBytes_one]
  | poolLow free => simp [Alert.bytes, Alert.layout, wordBytes_eq, countBytes_eq, numberBytes_one, numberBytes_two]

/-- The data of a reply is its layout, field by field (R183). -/
theorem ReplyData.bytes_eq (d : ReplyData) : d.bytes = layoutBytes d.layout := by
  cases d with
  | none => rfl
  | tagBusy st => simp [ReplyData.bytes, ReplyData.layout, TagState.byte_eq, genByte_eq, numberBytes_one]
  | identify port =>
    simp [ReplyData.bytes, ReplyData.layout, halfBytes_eq, portByte, numberBytes_one, numberBytes_two,
      Config.vendorCode, Config.partCode, Config.revision]
  | tags report =>
    simp [ReplyData.bytes, ReplyData.layout, layoutBytes_flatMap, TagState.byte_eq, genByte_eq, numberBytes_one]
  | session number port silence previous =>
    simp [ReplyData.bytes, ReplyData.layout, halfBytes_eq, portByte, EndCause.byte_eq, numberBytes_one]
  | closed cancelled locks deleted =>
    simp [ReplyData.bytes, ReplyData.layout, countByte, countBytes_eq, numberBytes_one]
  | handle h => simp [ReplyData.bytes, ReplyData.layout, Handle.bytes, numberBytes_one]
  | deletedWaiters count => simp [ReplyData.bytes, ReplyData.layout, countByte, numberBytes_one]
  | describe kind members creator isScoped quarantined waiters poolWaiters label =>
    obtain ⟨code, data⟩ := kind.encode_eq
    simp [ReplyData.bytes, ReplyData.layout, code, data, portByte, halfBytes_eq, objectFlagsByte, countByte,
      labelBytes_eq, numberBytes_one]
  | access set => simp [ReplyData.bytes, ReplyData.layout, numberBytes_one]
  | cell before result => simp [ReplyData.bytes, ReplyData.layout, wordBytes_eq]
  | order policy value =>
    simp [ReplyData.bytes, ReplyData.layout, order_byte_eq, wordBytes_eq, numberBytes_one]
  | depth n => simp [ReplyData.bytes, ReplyData.layout, countBytes_eq]
  | entry value source n =>
    simp [ReplyData.bytes, ReplyData.layout, wordBytes_eq, portByte, countBytes_eq, numberBytes_one]
  | flushed removed n => simp [ReplyData.bytes, ReplyData.layout, countBytes_eq]
  | limits limit reserve n => simp [ReplyData.bytes, ReplyData.layout, countBytes_eq]
  | lock holder count => simp [ReplyData.bytes, ReplyData.layout, portByteOrNone_eq, countByte, numberBytes_one]
  | rights port set => simp [ReplyData.bytes, ReplyData.layout, portByte, rights_byte_eq, numberBytes_one]
  | forced port number => simp [ReplyData.bytes, ReplyData.layout, portByte, halfBytes_eq, numberBytes_one]
  | cleared objects waiters => simp [ReplyData.bytes, ReplyData.layout, countBytes_eq, countByte, numberBytes_one]
  | alerts returned remaining dropped =>
    have entries : returned.flatMap Alert.bytes = returned.flatMap fun x => layoutBytes x.layout :=
      congrArg returned.flatMap (funext Alert.bytes_eq)
    simp [ReplyData.bytes, ReplyData.layout, countByte, layoutBytes_flatMap, entries, numberBytes_one]
  | statistics port counts state number silence cause label =>
    simp [ReplyData.bytes, ReplyData.layout, portByte, Statistics.bytes, halfBytes_eq, SessionState.byte_eq,
      EndCause.byte_eq, labelBytes_eq, numberBytes_one]
  | mark level free => simp [ReplyData.bytes, ReplyData.layout, countBytes_eq]

/-! ### The length of a body (R183) -/

/-- The widths of a layout together. -/
def layoutWidth (fields : List (Nat × Nat)) : Nat := (fields.map Prod.fst).sum

theorem layoutBytes_length (fields : List (Nat × Nat)) : (layoutBytes fields).length = layoutWidth fields := by
  induction fields with
  | nil => rfl
  | cons f fields ih =>
    rw [layoutBytes_cons, List.length_append, numberBytes_length, ih]
    rfl

/-- Layouts of one width laid end to end. -/
theorem layoutWidth_flatMap {α : Type} {f : α → List (Nat × Nat)} {n : Nat} (hf : ∀ x, layoutWidth (f x) = n)
    (l : List α) : layoutWidth (l.flatMap f) = n * l.length := by
  induction l with
  | nil => rfl
  | cons x l ih =>
    have split : layoutWidth (f x ++ l.flatMap f) = layoutWidth (f x) + layoutWidth (l.flatMap f) := by
      simp [layoutWidth]
    rw [List.flatMap_cons, split, hf, ih, List.length_cons, Nat.mul_succ, Nat.add_comm]

theorem layoutWidth_label (label : Option Label) : layoutWidth (labelLayout label) = (label.getD []).length := by
  simp [layoutWidth, labelLayout, Function.comp_def]

theorem Alert.layout_width (x : Alert) : layoutWidth x.layout = 9 := by
  obtain ⟨kind, time⟩ := x
  cases kind <;> rfl

theorem KindData.layout_width (kind : KindData) : layoutWidth kind.layout.2 = 6 := by
  cases kind <;> rfl

/-- The header and the layout of a reply's data together are as long as R183 says, a tag report covering four tags. -/
theorem ReplyData.layout_width {d : ReplyData} (h : ∀ report, d = .tags report → report.length = 4) :
    4 + layoutWidth d.layout = d.bodyLength := by
  have append : ∀ l m, layoutWidth (l ++ m) = layoutWidth l + layoutWidth m := fun l m => by simp [layoutWidth]
  cases d with
  | tags report =>
    show 4 + layoutWidth (report.flatMap _) = 12
    rw [layoutWidth_flatMap (n := 2) (fun _ => rfl), h report rfl]
  | describe kind members creator isScoped quarantined waiters poolWaiters label =>
    show 4 + layoutWidth (_ ++ kind.layout.2 ++ labelLayout label) = 18 + _
    rw [append, append, KindData.layout_width, layoutWidth_label, ← Nat.add_assoc]
    simp [layoutWidth]
  | alerts returned remaining dropped =>
    show 4 + layoutWidth (_ ++ returned.flatMap Alert.layout) = 7 + 9 * returned.length
    rw [append, layoutWidth_flatMap Alert.layout_width, ← Nat.add_assoc]
    simp [layoutWidth]
  | statistics port counts state number silence cause label =>
    show 4 + layoutWidth (_ ++ labelLayout label) = 33 + _
    rw [append, layoutWidth_label, ← Nat.add_assoc]
    simp [layoutWidth]
  | _ => rfl

/-! ### The body of a reply (R178, R184) -/

/-- The flags byte bit by bit: A, D, W, C, V, Z, N, and bit 7 at 0 (R178). -/
theorem flagsByte_getLsbD (f : Flags) (a : Bool) : ∀ i < 8, (flagsByte f a).getLsbD i =
    ([a, f.d, f.w, f.c, f.v, f.z, f.n, false] : List Bool).getD i false := by
  obtain ⟨n, z, v, c, w, d⟩ := f
  revert n z v c w d a
  decide

/-- The status byte is the code of R184's table. -/
theorem status_byte_of_mem {status : Status} {n : Nat} (h : (status, n) ∈ statusCodes) :
    status.byte = BitVec.ofNat 8 n := by
  have table : ∀ x ∈ statusCodes, x.1.byte = BitVec.ofNat 8 x.2 := by decide
  exact table _ h

/-- The body of a reply is its header and its layout (R178, R183). -/
theorem Reply.body_eq (r : Reply) {status : Nat} (hs : (r.status, status) ∈ statusCodes) :
    r.body = [r.code] ++ numberBytes 1 (r.tag.val * 64 + r.gen.val) ++ numberBytes 1 status ++
      [flagsByte r.flags r.a] ++ layoutBytes r.data.layout := by
  unfold Reply.body
  rw [status_byte_of_mem hs, ReplyData.bytes_eq, numberBytes_one, numberBytes_one]
  rfl

theorem Reply.body_length (r : Reply) (h : ∀ report, r.data = .tags report → report.length = 4) :
    r.body.length = r.data.bodyLength := by
  unfold Reply.body
  rw [List.length_append, ReplyData.bytes_eq, layoutBytes_length, ← ReplyData.layout_width h]
  rfl

/-! ### The transmitter (R119, R144, R156, R175) -/

/-- A free transmitter begins the head frame (R156). -/
theorem startTransmit_head {s : State} {p : Port} {f : TxFrame} {rest : List TxFrame}
    (hq : (s.port p).queue = f :: rest) (ht : (s.port p).tx = .free) :
    startTransmit p s = s.setPort p { s.port p with tx := .sending (frameBytes f.reply.body) } := by
  unfold startTransmit
  rw [ht, hq]

/-- The last byte of a frame that brings about nothing further (R119). -/
theorem finishTransmit_plain {s : State} {p : Port} {f : TxFrame} {rest : List TxFrame} {bytes : List Byte}
    (hq : (s.port p).queue = f :: rest) (ht : (s.port p).tx = .sending bytes) (hf : f.purpose = .plain) :
    finishTransmit p s = s.setPort p ((s.port p).frameGone f rest) := by
  unfold finishTransmit
  rw [ht, hq]
  dsimp only
  rw [hf]

/-- The last byte of a CLOSE reply closes its CLOSING session (R144). -/
theorem finishTransmit_closeReply {s : State} {p : Port} {f : TxFrame} {rest : List TxFrame} {bytes : List Byte}
    (hq : (s.port p).queue = f :: rest) (ht : (s.port p).tx = .sending bytes) (hf : f.purpose = .closeReply)
    (hs : ((s.port p).frameGone f rest).session.state = .closing) :
    finishTransmit p s = s.setPort p ((s.port p).frameGone f rest).becomeClosed := by
  unfold finishTransmit
  rw [ht, hq]
  dsimp only
  rw [hf]
  dsimp only
  rw [if_pos hs]

/-- The last byte of the PART_RESET reply resets the part (R175). -/
theorem finishTransmit_partResetReply {s : State} {p : Port} {f : TxFrame} {rest : List TxFrame} {bytes : List Byte}
    (hq : (s.port p).queue = f :: rest) (ht : (s.port p).tx = .sending bytes) (hf : f.purpose = .partResetReply) :
    finishTransmit p s = (s.setPort p ((s.port p).frameGone f rest)).resetPart := by
  unfold finishTransmit
  rw [ht, hq]
  dsimp only
  rw [hf]

/-- The frame that has gone leaves the queue, frees the transmitter, and changes nothing of the port but a tag (R119). -/
theorem PortState.frameGone_fields (x : PortState) (f : TxFrame) (rest : List TxFrame) :
    (x.frameGone f rest).session = x.session ∧ (x.frameGone f rest).queue = rest ∧ (x.frameGone f rest).tx = .free ∧
      (x.frameGone f rest).rx = x.rx ∧ (x.frameGone f rest).rxd = x.rxd ∧ (x.frameGone f rest).stats = x.stats ∧
      (x.frameGone f rest).requests = x.requests ∧ (x.frameGone f rest).teardown = x.teardown := by
  unfold PortState.frameGone
  cases f.tag <;> exact ⟨rfl, rfl, rfl, rfl, rfl, rfl, rfl, rfl⟩

/-- After a reset of the part every block holds its reset values (R176). -/
theorem State.resetPart_hasResetValues (s : State) : s.resetPart.hasResetValues := by
  have tag : ∀ (level : Level) (k : Tag), (PortState.reset level).tag k = ⟨.idle, none⟩ := fun level k => by
    show (Vector.replicate 4 TagEntry.reset)[k.val] = _
    rw [Vector.getElem_replicate]
    rfl
  refine ⟨fun p => ?_, rfl, rfl, fun i => ?_, rfl, rfl, fun i => ?_, rfl, fun p => ?_, rfl, rfl, fun p => ?_, rfl, rfl,
    rfl, rfl⟩
  · rw [State.resetPart_port]
    refine ⟨rfl, rfl, rfl, rfl, ?_, rfl, rfl, tag _, rfl, rfl, rfl, rfl⟩
    cases (s.port p).rxd <;> rfl
  · show (Vector.replicate 256 (⟨1#8, none⟩ : Slot))[i.val] = _
    rw [Vector.getElem_replicate]
  · show (Vector.replicate 256 (none : Option QueueAccount))[i.val] = _
    rw [Vector.getElem_replicate]
  · show resetRights.get p = _
    revert p
    decide
  · show (Vector.replicate 8 false)[p.val] = _
    rw [Vector.getElem_replicate]

/-- Settles O19: the body is its header and layout, and the transmitter works on the head of the queue alone. -/
theorem frameIsSentFromTheHead : Obligations.FrameIsSentFromTheHead := by
  refine ⟨fun r flags status hstatus hflags => ?_, fun s p f rest hm hq => ⟨fun ht => ?_, fun bytes ht hf => ?_⟩,
    fun s p f rest bytes hm hq ht => ⟨fun hf hs => ?_, fun hf => ?_⟩⟩
  · obtain rfl : flags = flagsByte r.flags r.a := BitVec.eq_of_getLsbD_eq fun i hi =>
      (hflags i hi).trans (flagsByte_getLsbD r.flags r.a i hi).symm
    exact ⟨r.body_eq hstatus, r.body_length⟩
  · exact (perform_running _ hm).trans (congrArg _ (startTransmit_head hq ht))
  · have sent : exec (.frameSent p) s = .next (s.setPort p ((s.port p).frameGone f rest)) :=
      (perform_running _ hm).trans (congrArg _ (finishTransmit_plain hq ht hf))
    unfold PortState.frameGone at sent
    exact ⟨fun htag => by rw [htag] at sent; exact sent, fun t htag => by rw [htag] at sent; exact sent⟩
  · obtain ⟨session, queue, tx, rx, rxd, stats, requests, teardown⟩ := (s.port p).frameGone_fields f rest
    have closing : ((s.port p).frameGone f rest).session.state = .closing := by rw [session, hs]
    refine ⟨((s.port p).frameGone f rest).becomeClosed,
      (perform_running _ hm).trans (congrArg _ (finishTransmit_closeReply hq ht hf closing)), ?_,
      PortState.becomeClosed_tag _, queue, tx, rx, rxd, stats, requests, teardown⟩
    show { ((s.port p).frameGone f rest).session with state := .closed } = _
    rw [session]
  · refine ⟨_, (perform_running _ hm).trans (congrArg _ (finishTransmit_partResetReply hq ht hf)),
      State.resetPart_hasResetValues _, rfl, rfl, rfl, fun k => ?_⟩
    rw [State.resetPart_port, State.port_setPort]
    split
    · next hk =>
      obtain ⟨-, -, -, -, rxd, -⟩ := (s.port p).frameGone_fields f rest
      exact rxd.trans (by rw [hk])
    · rfl

end Sys2Proof.Machine
end

section
/-! PROOFS. The beginning and the ends of a session (O10, O11, O18): OPEN in the CLOSED state, CLOSE, and the end by
lapse, break or forced close at the port unit. -/

namespace Sys2Proof.Machine

/-! ### OPEN in the CLOSED state (R113, R128, R129) -/

theorem silenceInRange_iff (silence : Half) :
    silenceInRange silence = true ↔ silence = 0#16 ∨ 10 ≤ silence.toNat ∧ silence.toNat ≤ 60000 := by
  simp [silenceInRange]

/-- An OPEN whose label fits a body and whose fields lie in range opens the session (R128, R129). -/
theorem State.openSession_of_range {s : State} {silence : Half} {label : Label} (hs : silenceInRange silence = true)
    (hl : labelInRange label = true) (q : Sender) :
    s.openSession q silence label = s.setPort q.port
      (({ s.port q.port with session := s.openedSession q.port silence label }.counting countSessionOpened).sendUncached
        q.tag (s.replyTo q RequestCode.openSession.byte
          (.ok (sessionData q.port (s.openedSession q.port silence label))))) := by
  unfold State.openSession
  rw [hs, hl]
  rfl

/-- An OPEN with a field out of range is answered RANGE by an untracked frame, or by nothing but a count (R113, R118). -/
theorem State.openSession_out_of_range {s : State} {silence : Half} {label : Label}
    (h : (silenceInRange silence && labelInRange label) = false) (q : Sender) :
    s.openSession q silence label =
      if ((s.port q.port).queue.filter fun f => f.tag.isNone).length < 4 then
        s.sendsUntracked q 0x03#8 ⟨.range, Flags.clear, .none⟩
      else s.counts q.port fun c => { c with refusalsDropped := raise c.refusalsDropped } := by
  unfold State.openSession
  rw [h]
  show s.answerUntracked q .openSession (.refuse .range) = _
  split
  · next room => exact State.answerUntracked_of_room room _ _
  · next full => exact State.answerUntracked_of_full (Nat.le_of_not_lt full) _ _

/-- Settles O10: a label that fits decides between opening the session and RANGE, and one too long is malformed. -/
theorem openOpensSession : Obligations.OpenOpensSession := by
  intro s q silence label hm hc
  have opens : label.length ≤ 8 → exec (.openSession q silence label) s = .next (s.openSession q silence label) :=
    fun hlen => by
      have decoded := exec_portRequest hm (r := .openSession silence label) rfl (decide_eq_true hlen) q
      rwa [decodeRequest_closed hc] at decoded
  refine ⟨fun hlen hs hl number hn => ?_, fun hlen hbad => ?_, fun hlen => ?_⟩
  · rw [opens hlen, State.openSession_of_range ((silenceInRange_iff silence).mpr hs) ((labelInRange_iff label).mpr hl)]
    subst hn
    rfl
  · have out : (silenceInRange silence && labelInRange label) = false := by
      rw [Bool.and_eq_false_iff, ← Bool.not_eq_true, ← Bool.not_eq_true, silenceInRange_iff, labelInRange_iff]
      rcases hbad with ⟨hne, hr⟩ | ⟨b, hb, hr⟩
      · left
        rintro (h | h)
        · exact hne h
        · omega
      · right
        intro h
        have := h b hb
        omega
    rw [opens hlen, State.openSession_out_of_range out]
  · have long : label.fits = false := decide_eq_false (by omega)
    have same : s.restartTimer q.port = s := State.restartTimer_not_opened (by simp [hc])
    show execOpenSession q silence label s = _
    unfold execOpenSession
    rw [perform_running _ hm, long, same, State.refusePort_eq]
    rfl

/-! ### CLOSE (R134) -/

/-- Settles O11: the tag accepts the CLOSE, and the port unit ends its session; the restarted timer is stopped again. -/
theorem closeEndsSession : Obligations.CloseEndsSession := by
  rintro s q ⟨hm, ho, ht, hc⟩
  have restarted := s.timerRestarted_port q.port
  have tag : ((s.timerRestarted q.port).port q.port).tag q.tag = (s.port q.port).tag q.tag := by rw [restarted]; rfl
  have decoded := exec_portRequest hm (r := .closeSession) rfl rfl q
  rw [decodeRequest_opened ho, State.checkTag_accepted (tag.symm ▸ ht) (tag.symm ▸ hc)] at decoded
  refine decoded.trans (congrArg _ ?_)
  unfold State.accept State.pendTag
  rw [State.port_setPort_same, State.setPort_setPort, restarted]
  exact s.setPort_setPort q.port _ _

/-! ### The end by lapse, break or forced close (R131, R132, R175) -/

/-- A tag at an abrupt end keeps its cache; a WAITING tag stays, and every other becomes IDLE (R132; log 17). -/
theorem TagEntry.atAbruptEnd_cases (e : TagEntry) : e.atAbruptEnd.cache = e.cache ∧
    ((∃ g, e.state = .waiting g) → e.atAbruptEnd.state = e.state) ∧
    ((∀ g, e.state ≠ .waiting g) → e.atAbruptEnd.state = .idle) := by
  unfold TagEntry.atAbruptEnd
  cases hs : e.state with
  | waiting g => exact ⟨rfl, fun _ => hs, fun h => absurd rfl (h g)⟩
  | idle | pending _ | replying _ => exact ⟨rfl, nofun, fun _ => rfl⟩

theorem PortState.endAbruptly_tag (x : PortState) (cause : EndCause) (k : Tag) :
    (x.endAbruptly cause).tag k = (x.tag k).atAbruptEnd := mapVector_get _ _ _

/-- No frame has begun while the transmitter is free. -/
theorem PortState.endAbruptly_queue_of_free {x : PortState} (ht : x.tx = .free) (cause : EndCause) :
    (x.endAbruptly cause).queue = [] := by
  show x.begun.map _ = []
  unfold PortState.begun PortState.sendingHead
  rw [ht]
  rfl

/-- The head frame has begun while the transmitter is sending, and stays as an untracked frame (R118, R132). -/
theorem PortState.endAbruptly_queue_of_sending {x : PortState} {bytes : List Byte} {f : TxFrame} {rest : List TxFrame}
    (ht : x.tx = .sending bytes) (hq : x.queue = f :: rest) (cause : EndCause) :
    (x.endAbruptly cause).queue = [{ f with tag := none }] := by
  show x.begun.map _ = _
  unfold PortState.begun PortState.sendingHead
  rw [ht, hq]
  rfl

/-- An abrupt end resets the part where the PART_RESET reply is among the frames discarded (R132, R175; log 26). -/
theorem State.endAbruptly_eq (s : State) (cause : EndCause) (p : Port) :
    ((∀ f ∈ (s.port p).unsent, f.purpose ≠ .partResetReply) →
      s.endAbruptly cause p = s.setPort p ((s.port p).endAbruptly cause)) ∧
    ((∃ f ∈ (s.port p).unsent, f.purpose = .partResetReply) →
      s.endAbruptly cause p = (s.setPort p ((s.port p).endAbruptly cause)).resetPart) := by
  have reset : (s.port p).unsent.any (fun f => f.purpose == .partResetReply) = true ↔
      ∃ f ∈ (s.port p).unsent, f.purpose = .partResetReply := by simp
  unfold State.endAbruptly
  refine ⟨fun h => if_neg ?_, fun h => if_pos (reset.mpr h)⟩
  rw [reset]
  exact fun ⟨f, hf, hp⟩ => h f hf hp

/-- The silence timer of an OPEN session expires from its time on, and a lapse ends the session (R131, R132; log 9). -/
theorem lapsePort_of_expired {s : State} {p : Port} {e : Word} (ho : (s.port p).session.state = .opened)
    (ht : (s.port p).session.timer = .running e) (he : (s.timebase - e).toNat ≤ 2147483647) :
    lapsePort p s = (s.setPort p ((s.port p).counting countLapse)).endAbruptly .lapsed p := by
  unfold lapsePort
  rw [ht]
  exact if_pos ⟨ho, (reached_iff _ _).mpr he⟩

/-- A silence timer that is stopped, or whose time has not been reached, does not expire (R131). -/
theorem lapsePort_of_unexpired {s : State} {p : Port} (h : ¬ (s.port p).session.timer.expired s.timebase = true) :
    lapsePort p s = s := if_neg fun hl => h hl.2

/-- Settles O18: the end at the port unit field by field, and the lapse by the state of the silence timer. -/
theorem lapseEndsSession : Obligations.LapseEndsSession := by
  have run : ∀ (s : State) (p : Port), s.resetn = .mark → exec (.lapse p) s = .next (lapsePort p s) :=
    fun s p hm => perform_running (lapsePort p) hm
  refine ⟨fun x cause => ⟨rfl, fun k => ?_, rfl, fun ht => PortState.endAbruptly_queue_of_free ht cause,
    fun bytes f rest ht hq => PortState.endAbruptly_queue_of_sending ht hq cause, rfl, rfl, rfl, rfl, rfl⟩,
    fun s p hm => ⟨fun e ho ht he u hu => ?_, fun e ht he => ?_, fun ht => ?_⟩⟩
  · rw [PortState.endAbruptly_tag]
    exact (x.tag k).atAbruptEnd_cases
  · rw [run s p hm, lapsePort_of_expired ho ht he]
    have ended := (s.setPort p ((s.port p).counting countLapse)).endAbruptly_eq .lapsed p
    rw [State.port_setPort_same, State.setPort_setPort] at ended
    subst hu
    exact ⟨fun h => congrArg _ (ended.1 h), fun h => congrArg _ (ended.2 h)⟩
  · rw [run s p hm, lapsePort_of_unexpired]
    rw [ht]
    exact fun h => absurd ((reached_iff _ _).mp h) (by omega)
  · rw [run s p hm, lapsePort_of_unexpired]
    rw [ht]
    nofun

end Sys2Proof.Machine
end

section
/-! PROOFS. The teardown job, stage by stage (R138 to R144): what each stage does for one tag or one slot, and the job of
a session with nothing to clean up (O51). -/

namespace Sys2Proof.Machine

/-! ### The job as it is taken (R2, R138) -/

/-- The teardown job that the arbiter takes next runs its six stages in order. -/
theorem exec_teardown_taken {s : State} {p : Port} {j : TeardownJob} (hm : s.resetn = .mark)
    (hn : s.nextJob = some (.teardown p j)) :
    exec (.teardown p) s = .next (s.endsJob (jobTeardown p j (s.takeTeardown p))) := by
  have job : takeTeardownJob p s = s.endsJob (jobTeardown p j (s.takeTeardown p)) := by
    unfold takeTeardownJob
    rw [hn]
    exact if_pos rfl
  exact (perform_running (takeTeardownJob p) hm).trans (congrArg _ job)

theorem State.takeTeardown_port (s : State) (p : Port) : (s.takeTeardown p).port p = { s.port p with teardown := none } :=
  s.port_setPort_same p _

/-! ### Stage 1, tag by tag (R139, R140) -/

/-- The STRICT cells whose head goes with this waiter, beside those noted before (R140). -/
theorem State.strictHead_noted {s : State} {w : WaitRecord} {old heads : List SlotNo}
    (h : (∃ i, s.isStrictHead w i ∧ heads = i :: old) ∨ (∀ i, ¬ s.isStrictHead w i) ∧ heads = old) :
    (s.strictHead w).toList ++ old = heads := by
  rcases h with ⟨i, hi, rfl⟩ | ⟨hn, rfl⟩
  · rw [(s.strictHead_eq_some_iff w i).mpr hi]
    rfl
  · have none : s.strictHead w = none :=
      Option.eq_none_iff_forall_ne_some.mpr fun i hi => hn i ((s.strictHead_eq_some_iff w i).mp hi)
    rw [none]
    rfl

section
variable {p : Port} {j : TeardownJob} {x : TeardownRun} {t : Tag}

/-- A waiter whose object's record passes its check is removed. -/
theorem stageOneTag_of_sound_waiter {w : WaitRecord} (hw : x.state.waiterOf p t = some w)
    (hv : (x.state.verify w.target.slot).failed = false) : stageOneTag p j x t = stageOneRemove j x w := by
  unfold stageOneTag
  rw [hw]
  exact if_neg (by simp [hv])

/-- A waiter whose object's record fails its check goes with the quarantine of that object. -/
theorem stageOneTag_of_failing {w : WaitRecord} {r : ObjectRecord} (hw : x.state.waiterOf p t = some w)
    (ho : x.state.object w.target.slot = some r) (hc : r.check = .fails) (hq : r.quarantined = false) :
    stageOneTag p j x t = { x with
      state := x.state.quarantine w.target.slot r
      due := x.due || x.state.quarantineDue w.target.slot r } := by
  unfold stageOneTag
  rw [hw]
  dsimp only
  rw [State.verify_of_fails ho hc hq]
  rfl

/-- A waiter removed after a CLOSE is replied CANCELLED with W. -/
theorem stageOneRemove_of_close {w : WaitRecord} (hj : j.cause = .closed) : stageOneRemove j x w = { x with
    state := State.dismiss .cancelled x.state w
    cancelled := x.cancelled + 1
    heads := (x.state.strictHead w).toList ++ x.heads } := by
  unfold stageOneRemove
  rw [if_pos hj]
  cases x.state.strictHead w <;> rfl

/-- A waiter removed after any other end is not replied. -/
theorem stageOneRemove_of_abrupt {w : WaitRecord} (hj : j.cause ≠ .closed) : stageOneRemove j x w = { x with
    state := x.state.removeWaiter w
    heads := (x.state.strictHead w).toList ++ x.heads } := by
  unfold stageOneRemove
  rw [if_neg hj]
  cases x.state.strictHead w <;> rfl

/-- A request taken off the pending list is replied CANCELLED. -/
theorem stageOneTag_of_taken {r : PendingRequest} (hw : x.state.waiterOf p t = none) (hr : j.takenFor t = some r) :
    stageOneTag p j x t = { x with
      state := x.state.complete ⟨p, r.tag, r.gen⟩ r.request.code (.refuse .cancelled)
      cancelled := x.cancelled + 1 } := by
  unfold stageOneTag
  rw [hw, hr]

/-- A tag that carries neither a waiter nor a request taken off is left. -/
theorem stageOneTag_of_idle (hw : x.state.waiterOf p t = none) (hr : j.takenFor t = none) :
    stageOneTag p j x t = x := by
  unfold stageOneTag
  rw [hw, hr]

theorem takenFor_of_first {before after : List PendingRequest} {r : PendingRequest} (hj : j.taken = before ++ r :: after)
    (ht : r.tag = t) (hb : ∀ e ∈ before, e.tag ≠ t) : j.takenFor t = some r := by
  unfold TeardownJob.takenFor
  rw [hj, List.find?_append, List.find?_eq_none.mpr fun e he => by simpa using hb e he]
  simp [ht]

theorem takenFor_eq_none (h : ∀ r ∈ j.taken, r.tag ≠ t) : j.takenFor t = none :=
  List.find?_eq_none.mpr fun r hr => by simpa using h r hr

end

/-! ### Stage 2, slot by slot (R100, R141) -/

section
variable {ending : SessionId} {x : TeardownRun} {i : SlotNo} {r : ObjectRecord} {count : Nat} {damaged : Bool}

/-- A lock of the ending session whose record fails its check is quarantined and skipped. -/
theorem stageTwoSlot_of_failing (ho : x.state.object i = some r) (hp : r.part = .lock (some ending) count damaged)
    (hq : r.quarantined = false) (hc : r.check = .fails) :
    stageTwoSlot ending x i = { x with state := x.state.quarantine i r } := by
  have due : x.state.quarantineDue i r = false := by
    unfold State.quarantineDue
    rw [hp]
  unfold stageTwoSlot
  rw [ho]
  dsimp only
  rw [hp]
  dsimp only
  rw [if_pos ⟨rfl, hq⟩, if_pos (ObjectRecord.failsCheck_of hc hq), due, Bool.or_false]

/-- A lock of the ending session whose record passes its check is abandoned and counted. -/
theorem stageTwoSlot_of_held (ho : x.state.object i = some r) (hp : r.part = .lock (some ending) count damaged)
    (hq : r.quarantined = false) (hc : r.check = .agrees) :
    stageTwoSlot ending x i = { x with state := abandonLock i r x.state, locks := x.locks + 1 } := by
  unfold stageTwoSlot
  rw [ho]
  dsimp only
  rw [hp]
  dsimp only
  rw [if_pos ⟨rfl, hq⟩, if_neg (by simp [ObjectRecord.not_failsCheck (.inl hc)])]

/-- A slot that holds no lock of the ending session in service is left. -/
theorem stageTwoSlot_of_unheld (h : ∀ r count damaged, x.state.object i = some r →
    r.part = .lock (some ending) count damaged → r.quarantined = true) : stageTwoSlot ending x i = x := by
  unfold stageTwoSlot
  split
  · next r ho =>
    split
    · next holder count damaged hp =>
      refine if_neg ?_
      rintro ⟨rfl, hq⟩
      exact absurd (h r count damaged ho hp) (by simp [hq])
    · rfl
  · rfl

/-- A lock abandoned with nobody waiting becomes free and damaged (R100). -/
theorem abandonLock_of_nobody {s : State} (hw : s.waitList (.object i) = []) (hc : r.check = .agrees) :
    abandonLock i r s = s.lockBecomes i r none 0 true := by
  unfold abandonLock
  rw [hw]
  exact State.writeRecord_eq_holds (r := r.withLock none 0 true) hc

/-- A lock abandoned with waiters passes to the oldest, and its port's other waiters are served as re-entries (R97,
R100). -/
theorem abandonLock_of_waiter {s : State} {w : WaitRecord} {ws : List WaitRecord}
    (hw : s.waitList (.object i) = w :: ws) (hc : r.check = .agrees) :
    abandonLock i r s = (ws.filter (fun v => v.sender.port == w.sender.port)).foldl (serveReentry i)
      (((s.without w).lockBecomes i r (some ⟨w.sender.port, (s.port w.sender.port).session.number⟩) 1 true).complete
        w.sender .acquire (lockReply .ok true true (some w.sender.port) 1)) := by
  have hl : w.list = .object i := State.list_of_mem_waitList (hw ▸ List.mem_cons_self)
  unfold abandonLock
  rw [hw]
  show (s.assignLock i r true w).replyHandOff i true w = _
  rw [State.assignLock_eq hc hl]
  exact State.replyHandOff_eq hw rfl true

end

/-! ### Stage 3, slot by slot (R142) -/

section
variable {ending : SessionId} {x : TeardownRun} {i : SlotNo}

/-- An object scoped to the ending session is verified and deleted, with the pool service of its own. -/
theorem stageThreeSlot_of_scoped {r : ObjectRecord} (ho : x.state.object i = some r) (hs : r.isScoped = true)
    (hcr : r.creator = ending) : stageThreeSlot ending x i = { x with
      state := ((x.state.verify i).state.deleted i).poolServiceIf ((x.state.verify i).state.deletionDue i)
      deleted := x.deleted + 1
      due := x.due || (x.state.verify i).due || (x.state.verify i).state.deletionDue i } := by
  unfold stageThreeSlot
  rw [ho]
  dsimp only
  rw [if_pos ⟨hs, hcr⟩, State.deleteObject_eq_deleted]

/-- A slot that holds no object scoped to the ending session is left. -/
theorem stageThreeSlot_of_unscoped (h : ∀ r, x.state.object i = some r → r.isScoped = true → r.creator ≠ ending) :
    stageThreeSlot ending x i = x := by
  unfold stageThreeSlot
  split
  · next r ho => exact if_neg fun ⟨hs, hcr⟩ => h r ho hs hcr
  · rfl

/-- What the verification of a record finds, in the words of the statements (R10, R20). -/
theorem State.verify_eq {s : State} {i : SlotNo} {r : ObjectRecord} (ho : s.object i = some r) :
    (s.verify i).state = (if r.check = .fails ∧ r.quarantined = false then s.quarantine i r else s) ∧
      ((s.verify i).due = true ↔ r.check = .fails ∧ r.quarantined = false ∧ s.promisesEntries i r) := by
  by_cases hf : r.check = .fails ∧ r.quarantined = false
  · rw [State.verify_of_fails ho hf.1 hf.2, if_pos hf]
    exact ⟨rfl, (s.quarantineDue_iff i r).trans ⟨fun h => ⟨hf.1, hf.2, h⟩, fun h => h.2.2⟩⟩
  · have passes : r.failsCheck = false := by
      by_contra h
      simp only [ObjectRecord.failsCheck, Bool.not_eq_false, Bool.and_eq_true, beq_iff_eq, Bool.not_eq_true'] at h
      exact hf h
    unfold State.verify
    rw [ho]
    dsimp only
    rw [passes, if_neg hf]
    exact ⟨rfl, nofun, fun h => absurd ⟨h.1, h.2.1⟩ hf⟩

end

/-! ### Stages that have nothing to do -/

/-- Stage 1 of a job whose port has neither a waiter nor a request taken off does nothing. -/
theorem stageOne_of_idle {p : Port} {j : TeardownJob} {x : TeardownRun} (hw : ∀ w ∈ x.state.waits, w.sender.port ≠ p)
    (hj : j.taken = []) (hh : x.heads = []) : stageOne p j x = x := by
  have idle : ∀ t, stageOneTag p j x t = x := fun t => by
    refine stageOneTag_of_idle (List.find?_eq_none.mpr fun w hm => ?_) (takenFor_eq_none (by simp [hj]))
    simp [hw w hm]
  have tags : allTags.foldl (stageOneTag p j) x = x := List.foldl_fixed' idle allTags
  have heads : allSlots.filter (fun i => x.heads.contains i) = [] := by simp [hh]
  unfold stageOne
  rw [tags]
  dsimp only
  rw [heads]
  rfl

/-- Stage 2 of a session that holds no lock does nothing. -/
theorem stageTwo_of_unheld {ending : SessionId} {x : TeardownRun} (h : ∀ i r, x.state.object i = some r →
    ∀ count damaged, r.part ≠ .lock (some ending) count damaged) : stageTwo ending x = x :=
  List.foldl_fixed' (fun i => stageTwoSlot_of_unheld fun r count damaged ho hp => absurd hp (h i r ho count damaged))
    allSlots

/-- Stage 3 of a session with no scoped object does nothing. -/
theorem stageThree_of_unscoped {ending : SessionId} {x : TeardownRun}
    (h : ∀ i r, x.state.object i = some r → r.isScoped = true → r.creator ≠ ending) : stageThree ending x = x :=
  List.foldl_fixed' (fun i => stageThreeSlot_of_unscoped (h i)) allSlots

/-- With nothing to clean up the job goes straight to its alert and its last stage. -/
theorem jobTeardown_of_idle {s : State} {p : Port} {j : TeardownJob} (hj : j.taken = [])
    (hw : ∀ w ∈ s.waits, w.sender.port ≠ p)
    (ho : ∀ i r, s.object i = some r → (r.isScoped = true → r.creator ≠ ⟨p, j.number⟩) ∧
      ∀ count damaged, r.part ≠ .lock (some ⟨p, j.number⟩) count damaged) :
    jobTeardown p j s = stageSix p j (stageFive ⟨p, j.number⟩ j.cause ⟨s, 0, 0, 0, [], false⟩) := by
  unfold jobTeardown
  rw [stageOne_of_idle (x := ⟨s, 0, 0, 0, [], false⟩) hw hj rfl, stageTwo_of_unheld fun i r hr => (ho i r hr).2,
    stageThree_of_unscoped fun i r hr => (ho i r hr).1]
  rfl

/-- The last stage after an end other than a CLOSE: the port CLOSED, its tag table emptied (R144). -/
theorem stageSix_of_abrupt {p : Port} {j : TeardownJob} {x : TeardownRun} (hj : j.closing = none) :
    stageSix p j x = x.state.setPort p (x.state.port p).becomeClosed := by
  unfold stageSix
  rw [hj]

/-- The last stage after a CLOSE: its reply with the three counts (R144). -/
theorem stageSix_of_close {p : Port} {j : TeardownJob} {x : TeardownRun} {t : Tag} {g : Gen}
    (hj : j.closing = some (t, g)) (hs : (x.state.port p).session.state = .closing)
    (hc : (x.state.port p).session.cause = .closed) :
    stageSix p j x = x.state.repliedFor .closeReply ⟨p, t, g⟩ 0x04#8
      ⟨.ok, Flags.clear, .closed x.cancelled x.locks x.deleted⟩ := by
  unfold stageSix
  rw [hj]
  exact State.completeFor_closing (q := ⟨p, t, g⟩) hs hc _ _ _

/-- The alert of stage 5 for an end that the client did not ask for (R143). -/
theorem stageFive_of_alert {ending : SessionId} {cause : EndCause} {kind : AlertKind} (x : TeardownRun)
    (h : cause = .lapsed ∧ kind = .lapsed ending ∨ cause = .broken ∧ kind = .broken ending ∨
      cause = .forced ∧ kind = .forced ending) :
    stageFive ending cause x = { x with state := x.state.appendAlert kind } := by
  rcases h with ⟨rfl, rfl⟩ | ⟨rfl, rfl⟩ | ⟨rfl, rfl⟩ <;> rfl

/-- Settles O51: four stages do nothing, and the free count stays, so that no POOL_LOW alert follows. -/
theorem teardownOfIdleSession : Obligations.TeardownOfIdleSession := by
  intro s p j hm hn hj hw ho
  have taken := s.takeTeardown_port p
  have run := exec_teardown_taken hm hn
  rw [jobTeardown_of_idle (s := s.takeTeardown p) hj hw ho] at run
  refine ⟨fun t g hclosing hcause hs hc => ?_, fun hclosing kind hkind => ?_⟩
  · rw [run, hcause]
    show Host.Outcome.next (s.endsJob (stageSix p j ⟨s.takeTeardown p, 0, 0, 0, [], false⟩)) = _
    rw [stageSix_of_close hclosing (by rw [taken]; exact hs) (by rw [taken]; exact hc), State.endsJob_of_free_le]
    exact Nat.le_refl _
  · rw [run, stageFive_of_alert _ hkind, stageSix_of_abrupt hclosing, State.endsJob_of_free_le]
    · have port : ((s.takeTeardown p).appendAlert kind).port p = { s.port p with teardown := none } := by
        rw [← taken]
        exact congrArg (fun v => Vector.get v p) (State.appendAlert_ports _ _)
      show Host.Outcome.next (((s.takeTeardown p).appendAlert kind).setPort p
        (((s.takeTeardown p).appendAlert kind).port p).becomeClosed) = _
      rw [port]
      rfl
    · show s.free ≤ ((s.takeTeardown p).appendAlert kind).free
      rw [State.appendAlert_free]
      exact Nat.le_refl _

end Sys2Proof.Machine
end

section
/-! PROOFS. What the operations of a teardown job leave of the objects they are not about (O52): a record is at most
rewritten, or one slot and its own list are worked on and its object stays scoped as it was. -/

namespace Sys2Proof.Machine

/-! ### Records that are at most rewritten (R8, R10; log 8) -/

/-- A record written again as it stands. -/
def ObjectRecord.rewritten (r : ObjectRecord) : ObjectRecord := { r with check := .agrees }

/-- The object of a slot is as it was, or its record was rewritten. -/
def State.Spares (s : State) (i : SlotNo) (t : State) : Prop :=
  t.object i = s.object i ∨ t.object i = (s.object i).map ObjectRecord.rewritten

/-- What an object is scoped to: whether it is, and its creator (R8). -/
def ObjectRecord.scope (r : ObjectRecord) : Bool × SessionId := (r.isScoped, r.creator)

/-- The scope of a slot's object, if the slot is occupied. -/
def State.scopeAt (s : State) (i : SlotNo) : Option (Bool × SessionId) := (s.object i).map ObjectRecord.scope

theorem State.scopeAt_of_object {s : State} {i : SlotNo} {r : ObjectRecord} (h : s.object i = some r) :
    s.scopeAt i = some r.scope := by rw [State.scopeAt, h, Option.map_some]

theorem State.object_congr {s t : State} (h : t.slots = s.slots) (i : SlotNo) : t.object i = s.object i := by
  unfold State.object State.slot
  rw [h]

namespace State.Spares

variable {s t u : State} {i : SlotNo}

theorem refl (s : State) (i : SlotNo) : s.Spares i s := .inl rfl

theorem of_slots (h : t.slots = s.slots) (i : SlotNo) : s.Spares i t := .inl (State.object_congr h i)

theorem trans (h : s.Spares i t) (h' : t.Spares i u) : s.Spares i u := by
  have twice : ∀ o : Option ObjectRecord, (o.map ObjectRecord.rewritten).map ObjectRecord.rewritten =
      o.map ObjectRecord.rewritten := fun o => by rw [Option.map_map]; rfl
  unfold State.Spares at *
  rcases h with h | h <;> rcases h' with h' | h' <;> rw [h] at h'
  · exact .inl h'
  · exact .inr h'
  · exact .inr h'
  · exact .inr (h'.trans (twice _))

theorem foldl {α : Type} {f : State → α → State} (h : ∀ (s : State) a, s.Spares i (f s a)) (l : List α) (s : State) :
    s.Spares i (l.foldl f s) :=
  List.foldlRecOn l f (motive := s.Spares i) (.refl s i) fun t ht a _ => ht.trans (h t a)

theorem scopeAt (h : s.Spares i t) : t.scopeAt i = s.scopeAt i := by
  unfold State.scopeAt
  rcases h with h | h
  · rw [h]
  · rw [h, Option.map_map]
    rfl

/-- A record that agrees with its check is as it was when it is written again. -/
theorem object {r : ObjectRecord} (h : s.Spares i t) (ho : s.object i = some r) (hc : r.check = .agrees) :
    t.object i = some r := by
  have same : r.rewritten = r := by
    unfold ObjectRecord.rewritten
    rw [← hc]
  rcases h with h | h
  · rw [h, ho]
  · rw [h, ho, Option.map_some, same]

/-- A slot that is empty stays so. -/
theorem object_none (h : s.Spares i t) (ho : s.object i = none) : t.object i = none := by
  rcases h with h | h <;> rw [h, ho]
  rfl

end State.Spares

theorem State.listWritten_spares (s : State) (l : WaitList) (i : SlotNo) : s.Spares i (s.listWritten l) := by
  cases l with
  | pool => exact .refl s i
  | object k =>
    unfold State.Spares
    show (s.rewriteRecord k).object i = _ ∨ (s.rewriteRecord k).object i = _
    rw [State.object_rewriteRecord]
    split
    · exact .inr rfl
    · exact .inl rfl

theorem State.removeWaiter_spares (s : State) (w : WaitRecord) (i : SlotNo) : s.Spares i (s.removeWaiter w) := by
  have listed : s.Spares i ({ s with waits := s.waits.erase w }.listWritten w.list) :=
    (State.Spares.of_slots rfl i).trans (State.listWritten_spares _ _ i)
  exact listed.trans (.of_slots (State.withdraw_slots _ _) i)

theorem State.moveWaiter_spares (s : State) (w : WaitRecord) (l : WaitList) (i : SlotNo) :
    s.Spares i (s.moveWaiter w l) := by
  have listed : s.Spares i ({ s with waits := s.waits.erase w ++ [{ w with list := l }] }.listWritten w.list) :=
    (State.Spares.of_slots rfl i).trans (State.listWritten_spares _ _ i)
  exact listed.trans (State.listWritten_spares _ l i)

theorem State.complete_spares (s : State) (q : Sender) (code : RequestCode) (x : Answer) (i : SlotNo) :
    s.Spares i (s.complete q code x) := .of_slots (s.complete_slots q code x) i

theorem State.dismiss_spares (status : Status) (s : State) (w : WaitRecord) (i : SlotNo) :
    s.Spares i (State.dismiss status s w) := (s.removeWaiter_spares w i).trans (State.complete_spares _ _ _ _ i)

theorem State.grantPut_spares (s : State) (k : SlotNo) (a : QueueAccount) (w : WaitRecord) (value : Word)
    (side : QueueEnd) (i : SlotNo) : s.Spares i (s.grantPut k a w value side) := by
  have linked : s.Spares i ((s.removeWaiter w).linkEntry k a side ⟨value, w.sender.port⟩) :=
    (s.removeWaiter_spares w i).trans (.of_slots rfl i)
  exact linked.trans (State.complete_spares _ _ _ _ i)

theorem poolPassRecord_spares (x : State × Bool) (w : WaitRecord) (i : SlotNo) :
    x.1.Spares i (poolPassRecord x w).1 := by
  unfold poolPassRecord
  split
  · split
    · exact x.1.moveWaiter_spares w _ i
    · split
      · exact x.1.grantPut_spares _ _ _ _ _ i
      · exact .refl _ i
  · exact .refl _ i

theorem State.poolService_spares (s : State) (i : SlotNo) : s.Spares i s.poolService :=
  State.poolService_induction (motive := fun s t => s.Spares i t) (fun s => .refl s i) (fun _ _ _ => .trans)
    (fun s => List.foldlRecOn (motive := fun x : State × Bool => s.Spares i x.1) _ _ (.refl s i)
      fun _ hx w _ => hx.trans (poolPassRecord_spares _ w i)) s

theorem State.poolServiceIf_spares (s : State) (due : Bool) (i : SlotNo) : s.Spares i (s.poolServiceIf due) := by
  cases due with
  | true => exact s.poolService_spares i
  | false => exact .refl s i

/-! ### Work on the object of one slot -/

/-- Nothing of another slot's object and list is changed, and the object of the slot stays scoped as it was. -/
structure State.WorksOn (s : State) (i : SlotNo) (t : State) : Prop where
  object : ∀ k, k ≠ i → t.object k = s.object k
  list : ∀ k, k ≠ i → t.waitList (.object k) = s.waitList (.object k)
  scope : t.scopeAt i = s.scopeAt i

namespace State.WorksOn

variable {s t u : State} {i : SlotNo}

theorem of_same (hs : t.slots = s.slots) (hw : t.waits = s.waits) (i : SlotNo) : s.WorksOn i t :=
  ⟨fun k _ => State.object_congr hs k, fun k _ => by rw [State.waitList, hw]; rfl, (State.Spares.of_slots hs i).scopeAt⟩

theorem refl (s : State) (i : SlotNo) : s.WorksOn i s := of_same rfl rfl i

theorem trans (h : s.WorksOn i t) (h' : t.WorksOn i u) : s.WorksOn i u :=
  ⟨fun k hk => (h'.object k hk).trans (h.object k hk), fun k hk => (h'.list k hk).trans (h.list k hk),
    h'.scope.trans h.scope⟩

theorem scopeAt (h : s.WorksOn i t) (k : SlotNo) : t.scopeAt k = s.scopeAt k := by
  by_cases hk : k = i
  · exact hk ▸ h.scope
  · rw [State.scopeAt, h.object k hk]
    rfl

end State.WorksOn

theorem State.complete_worksOn (s : State) (q : Sender) (code : RequestCode) (x : Answer) (i : SlotNo) :
    s.WorksOn i (s.complete q code x) := .of_same (s.complete_slots q code x) (s.complete_waits q code x) i

/-- The record of a slot replaced by one with its scope. -/
theorem State.writeRecord_worksOn {s : State} {i : SlotNo} {r : ObjectRecord} (ho : s.object i = some r)
    (r' : ObjectRecord) (hr : r'.scope = r.scope) : s.WorksOn i (s.writeRecord i r') where
  object k hk := by rw [State.object_writeRecord, if_neg (Ne.symm hk)]
  list _ _ := rfl
  scope := by
    rw [State.scopeAt_of_object ho, ← hr, State.scopeAt, State.object_writeRecord, if_pos rfl]
    rfl

/-- A waiter removed from the list of the slot's own object. -/
theorem State.removeWaiter_worksOn {w : WaitRecord} {i : SlotNo} (hw : w.list = .object i) (s : State) :
    s.WorksOn i (s.removeWaiter w) where
  object k hk := congrArg Slot.object ((State.removeWaiter_confined hw s).slot k hk)
  list k hk := by
    have other : w ∉ s.waitList (.object k) := fun h =>
      hk (WaitList.object.inj ((State.list_of_mem_waitList h).symm.trans hw))
    unfold State.waitList at other ⊢
    rw [State.removeWaiter_waits, ← List.erase_filter, List.erase_of_not_mem other]
  scope := (s.removeWaiter_spares w i).scopeAt

theorem State.serveCellWaiter_worksOn {s : State} {i : SlotNo} {r : ObjectRecord} {w : WaitRecord}
    (ho : s.object i = some r) (hw : w.list = .object i) (v : Word) (order : Order) (op : CellOp) :
    s.WorksOn i (s.serveCellWaiter i r v order w op) :=
  ((State.writeRecord_worksOn ho { r with part := .cell (cellAct op v).after order } rfl).trans
    (State.removeWaiter_worksOn hw _)).trans (State.complete_worksOn _ _ _ _ i)

/-- What every service of a waiter of a cell's list keeps, a scan of the list keeps (R49, R50). -/
theorem State.scan_induction {i : SlotNo} {motive : State → State → Prop} (refl : ∀ s, motive s s)
    (trans : ∀ s t u, motive s t → motive t u → motive s u)
    (serve : ∀ s r v order w op, s.object i = some r → w.list = .object i →
      motive s (s.serveCellWaiter i r v order w op)) (s : State) : motive s (s.scan i) := by
  have strict : ∀ ws : List WaitRecord, (∀ w ∈ ws, w.list = .object i) → ∀ s, motive s (scanStrict i ws s) := by
    intro ws
    induction ws with
    | nil => exact fun _ => refl
    | cons w ws ih =>
      intro hws s
      obtain ⟨hw, hws⟩ := List.forall_mem_cons.mp hws
      rcases scanStrict_cons_cases i w ws s with ⟨r, v, order, op, ho, -, he⟩ | ⟨he, -⟩
      · rw [he]
        exact trans _ _ _ (serve s r v order w op ho hw) (ih hws _)
      · rw [he]
        exact refl s
  have pass : ∀ s, motive s (scanPass i s).1 := fun s =>
    List.foldlRecOn (motive := fun x : State × Bool => motive s x.1) _ _ (refl s) fun x hx w hw => by
      rcases scanPassRecord_cases i x w with he | ⟨r, v, order, op, ho, -, he⟩
      · rwa [he]
      · rw [he]
        exact trans _ _ _ hx (serve x.1 r v order w op ho (State.list_of_mem_waitList hw))
  have passes : ∀ n s, motive s (scanPasses i n s) := by
    intro n
    induction n with
    | zero => exact refl
    | succ n ih =>
      intro s
      rw [scanPasses_succ (t := (scanPass i s).1) (served := (scanPass i s).2) rfl]
      split
      · exact trans _ _ _ (pass s) (ih _)
      · exact pass s
  unfold State.scan
  split
  · split
    · exact strict _ (fun _ => State.list_of_mem_waitList) s
    · exact passes _ s
    · exact refl s
  · exact refl s

theorem State.scan_worksOn (s : State) (i : SlotNo) : s.WorksOn i (s.scan i) :=
  State.scan_induction (motive := fun s t => s.WorksOn i t) (fun s => .refl s i) (fun _ _ _ => .trans)
    (fun _ _ v order _ op ho hw => State.serveCellWaiter_worksOn ho hw v order op) s

theorem serveReentry_worksOn {i : SlotNo} {w : WaitRecord} (hw : w.list = .object i) (s : State) :
    s.WorksOn i (serveReentry i s w) := by
  unfold serveReentry
  split
  · next r ho =>
    split
    · next holder count damaged _ =>
      exact ((State.writeRecord_worksOn ho (r.withLock holder (count + 1) damaged) rfl).trans
        (State.removeWaiter_worksOn hw _)).trans (State.complete_worksOn _ _ _ _ i)
    · exact .refl s i
  · exact .refl s i

theorem State.replyHandOff_worksOn (s : State) (i : SlotNo) (damaged : Bool) (w : WaitRecord) :
    s.WorksOn i (s.replyHandOff i damaged w) := by
  unfold State.replyHandOff
  exact List.foldlRecOn (motive := s.WorksOn i) _ _ (s.complete_worksOn _ _ _ i) fun t ht v hv =>
    ht.trans (serveReentry_worksOn (State.list_of_mem_waitList (List.mem_filter.mp hv).1) t)

theorem abandonLock_worksOn {s : State} {i : SlotNo} {r : ObjectRecord} (ho : s.object i = some r) :
    s.WorksOn i (abandonLock i r s) := by
  have written : ∀ holder count, s.WorksOn i (s.writeRecord i (r.withLock holder count true)) := fun holder count =>
    State.writeRecord_worksOn ho _ rfl
  unfold abandonLock
  split
  · exact written none 0
  · next w hw =>
    have hl : w.list = .object i := State.list_of_mem_waitList (List.mem_of_mem_head? hw)
    have assigned : s.WorksOn i (s.assignLock i r true w) := (written _ 1).trans (State.removeWaiter_worksOn hl _)
    exact assigned.trans (State.replyHandOff_worksOn _ i true w)

theorem State.quarantine_worksOn {s : State} {i : SlotNo} {r : ObjectRecord} (ho : s.object i = some r) :
    s.WorksOn i (s.quarantine i r) where
  object k hk := congrArg Slot.object (s.quarantine_slot_ne r hk)
  list k hk := by
    unfold State.waitList
    rw [State.quarantine_waits, List.filter_filter]
    refine List.filter_congr fun w _ => ?_
    by_cases hl : w.list = .object k <;> simp [hl, WaitRecord.waitsOn, hk]
  scope := by
    rw [State.scopeAt, State.quarantine_object, State.scopeAt_of_object ho]
    rfl

theorem State.verify_worksOn (s : State) (i : SlotNo) : s.WorksOn i (s.verify i).state := by
  unfold State.verify
  split
  · next r ho =>
    split
    · exact State.quarantine_worksOn ho
    · exact .refl s i
  · exact .refl s i

/-! ### The stages -/

/-- Stage 2 works on the slot that it is at. -/
theorem stageTwoSlot_worksOn (ending : SessionId) (x : TeardownRun) (i : SlotNo) :
    x.state.WorksOn i (stageTwoSlot ending x i).state := by
  unfold stageTwoSlot
  split
  · next r ho =>
    split
    · split
      · split
        · exact State.quarantine_worksOn ho
        · exact abandonLock_worksOn ho
      · exact .refl _ i
    · exact .refl _ i
  · exact .refl _ i

/-- Stage 1 leaves every object scoped as it was. -/
theorem stageOneTag_scopeAt (p : Port) (j : TeardownJob) (x : TeardownRun) (t : Tag) (i : SlotNo) :
    (stageOneTag p j x t).state.scopeAt i = x.state.scopeAt i := by
  unfold stageOneTag
  split
  · next w _ =>
    dsimp only
    split
    · exact (x.state.verify_worksOn w.target.slot).scopeAt i
    · unfold stageOneRemove
      dsimp only
      split
      · exact (State.dismiss_spares _ _ w i).scopeAt
      · exact (x.state.removeWaiter_spares w i).scopeAt
  · split
    · exact (x.state.complete_spares _ _ _ i).scopeAt
    · rfl

theorem stageOne_scopeAt (p : Port) (j : TeardownJob) (x : TeardownRun) (i : SlotNo) :
    (stageOne p j x).state.scopeAt i = x.state.scopeAt i := by
  have tags := foldl_keeps (g := fun y : TeardownRun => y.state.scopeAt i)
    (fun y t => stageOneTag_scopeAt p j y t i) allTags x
  exact (foldl_keeps (g := fun s : State => s.scopeAt i) (fun s k => (s.scan_worksOn k).scopeAt i) _ _).trans tags

theorem stageTwo_scopeAt (ending : SessionId) (x : TeardownRun) (i : SlotNo) :
    (stageTwo ending x).state.scopeAt i = x.state.scopeAt i :=
  foldl_keeps (g := fun y : TeardownRun => y.state.scopeAt i)
    (fun y k => (stageTwoSlot_worksOn ending y k).scopeAt i) allSlots x

/-- Stage 3 spares the objects of the other slots. -/
theorem stageThreeSlot_spares (ending : SessionId) (x : TeardownRun) {i k : SlotNo} (hk : k ≠ i) :
    x.state.Spares k (stageThreeSlot ending x i).state := by
  by_cases h : ∃ r, x.state.object i = some r ∧ r.isScoped = true ∧ r.creator = ending
  · obtain ⟨r, ho, hs, hcr⟩ := h
    rw [stageThreeSlot_of_scoped ho hs hcr]
    have verified : x.state.Spares k (x.state.verify i).state := .inl ((x.state.verify_worksOn i).object k hk)
    have deleted : (x.state.verify i).state.Spares k ((x.state.verify i).state.deleted i) := by
      left
      unfold State.object
      rw [State.slot_deleted, if_neg (Ne.symm hk)]
    exact (verified.trans deleted).trans (State.poolServiceIf_spares _ _ k)
  · rw [stageThreeSlot_of_unscoped fun r ho hs hcr => h ⟨r, ho, hs, hcr⟩]
    exact .refl _ k

/-- Stage 3 leaves no object scoped to the ending session in the slot that it is at. -/
theorem stageThreeSlot_here (ending : SessionId) (x : TeardownRun) (i : SlotNo) :
    (x.state.scopeAt i = some (true, ending) → (stageThreeSlot ending x i).state.object i = none) ∧
      (x.state.scopeAt i ≠ some (true, ending) → stageThreeSlot ending x i = x) := by
  refine ⟨fun h => ?_, fun h => stageThreeSlot_of_unscoped fun r ho hs hcr => h ?_⟩
  · obtain ⟨r, ho, hr⟩ := Option.map_eq_some_iff.mp h
    obtain ⟨hs, hcr⟩ := Prod.mk.inj hr
    rw [stageThreeSlot_of_scoped ho hs hcr]
    refine (State.poolServiceIf_spares _ _ i).object_none ?_
    unfold State.object
    rw [State.slot_deleted, if_pos rfl]
  · rw [State.scopeAt_of_object ho, ObjectRecord.scope, hs, hcr]

end Sys2Proof.Machine
end

section
/-! PROOFS. The teardown job counted and followed slot by slot (O52): the waiters that stage 1 removes, the locks that
stage 2 abandons, the objects that stage 3 deletes. -/

namespace Sys2Proof.Machine

/-! ### Folds that count -/

/-- A fold counts the members that its first state counts, where a step counts its own member and changes nothing of
what the others count. -/
theorem foldl_counts {σ α : Type} {f : σ → α → σ} {inv : σ → Prop} {count : σ → Nat} {counted : σ → α → Bool}
    (step : ∀ x a, inv x → inv (f x a) ∧ count (f x a) = count x + (counted x a).toNat ∧
      ∀ b, b ≠ a → counted (f x a) b = counted x b) {l : List α} (hn : l.Nodup) {x : σ} (hx : inv x) :
    count (l.foldl f x) = count x + (l.filter (counted x)).length := by
  induction l generalizing x with
  | nil => rfl
  | cons a l ih =>
    obtain ⟨ha, hn⟩ := List.nodup_cons.mp hn
    obtain ⟨hi, hc, hb⟩ := step x a hx
    have others : l.filter (counted (f x a)) = l.filter (counted x) :=
      List.filter_congr fun b hm => hb b fun h => ha (h ▸ hm)
    rw [List.foldl_cons, ih hn hi, hc, others, List.filter_cons]
    cases counted x a with
    | true => exact Nat.add_right_comm _ _ _
    | false => rfl

/-! ### Stage 1 where the waiters of the port come off singly (R139) -/

/-- A wait record of the port is the only one of its tag, and with one there every record agrees with its check. -/
def State.releases (s : State) (p : Port) : Prop :=
  ∀ w ∈ s.waits, w.sender.port = p → s.recordsAgree ∧
    s.waits.filter (fun v => v.sender.port == w.sender.port && v.sender.tag == w.sender.tag) = [w]

theorem State.releases_of_absent {s : State} {p : Port} (h : ∀ w ∈ s.waits, w.sender.port ≠ p) : s.releases p :=
  fun w hw hp => absurd hp (h w hw)

theorem State.WaitsSingly.releases {s : State} (h : s.WaitsSingly) (hs : s.recordsAgree) (p : Port) : s.releases p :=
  fun w hw _ => ⟨hs, h.only w hw⟩

theorem State.verify_of_recordsAgree {s : State} (h : s.recordsAgree) (i : SlotNo) : s.verify i = ⟨s, false, false⟩ := by
  cases ho : s.object i with
  | some r => exact State.verify_of_agrees ho (h i r ho)
  | none =>
    unfold State.verify
    rw [ho]

/-- A wait record that is the only one of a kind erased: the others are left, in order. -/
theorem erase_of_filter_singleton {ws : List WaitRecord} {q : WaitRecord → Bool} {w : WaitRecord}
    (h : ws.filter q = [w]) : ws.erase w = ws.filter fun v => !q v := by
  rw [← foldl_erase_filter q ws, h, List.foldl_cons, List.foldl_nil]

section
variable {p : Port} {j : TeardownJob}

/-- Stage 1 for one tag takes the waiter of that tag off the lists, and nothing of the object table changes. -/
theorem stageOneTag_of_releases {x : TeardownRun} (h : x.state.releases p) (t : Tag) :
    (stageOneTag p j x t).state.slots = x.state.slots ∧
      (stageOneTag p j x t).state.waits =
        x.state.waits.filter fun w => !(w.sender.port == p && w.sender.tag == t) := by
  cases hw : x.state.waiterOf p t with
  | some w =>
    obtain ⟨mem, rfl, rfl⟩ := State.mem_of_waiterOf hw
    obtain ⟨agree, only⟩ := h w mem rfl
    have removed : x.state.removeWaiter w = x.state.without w :=
      State.removeWaiter_eq_without fun i r _ ho => agree i r ho
    have waits : (x.state.without w).waits = _ := erase_of_filter_singleton only
    rw [stageOneTag_of_sound_waiter hw (by rw [State.verify_of_recordsAgree agree])]
    by_cases hc : j.cause = .closed
    · rw [stageOneRemove_of_close hc]
      unfold State.dismiss
      rw [removed]
      exact ⟨State.complete_slots _ _ _ _, (State.complete_waits _ _ _ _).trans waits⟩
    · rw [stageOneRemove_of_abrupt hc, removed]
      exact ⟨rfl, waits⟩
  | none =>
    have clear := State.clearOf_of_waiterOf hw
    have waits : x.state.waits.filter (fun w => !(w.sender.port == p && w.sender.tag == t)) = x.state.waits :=
      List.filter_eq_self.mpr fun w hm => by
        have := clear w hm
        by_cases hp : w.sender.port = p <;> simp_all
    rw [waits]
    cases hr : j.takenFor t with
    | some r =>
      rw [stageOneTag_of_taken hw hr]
      exact ⟨State.complete_slots _ _ _ _, State.complete_waits _ _ _ _⟩
    | none =>
      rw [stageOneTag_of_idle hw hr]
      exact ⟨rfl, rfl⟩

theorem State.releases.stageOneTag {x : TeardownRun} (h : x.state.releases p) (t : Tag) :
    (stageOneTag p j x t).state.releases p := by
  obtain ⟨slots, waits⟩ := stageOneTag_of_releases (j := j) h t
  intro w hw hp
  rw [waits] at hw ⊢
  obtain ⟨mem, other⟩ := List.mem_filter.mp hw
  obtain ⟨agree, only⟩ := h w mem hp
  refine ⟨agree.congr slots, ?_⟩
  rw [List.filter_comm, only]
  exact List.filter_cons_of_pos other

/-- Stage 1 for the tags of a list. -/
theorem stageOneTags_of_releases (ts : List Tag) {x : TeardownRun} (h : x.state.releases p) :
    (ts.foldl (stageOneTag p j) x).state.slots = x.state.slots ∧
      (ts.foldl (stageOneTag p j) x).state.waits =
        x.state.waits.filter fun w => !(w.sender.port == p && decide (w.sender.tag ∈ ts)) := by
  induction ts generalizing x with
  | nil => exact ⟨rfl, (List.filter_eq_self.mpr fun w _ => by simp).symm⟩
  | cons t ts ih =>
    obtain ⟨slots, waits⟩ := stageOneTag_of_releases (j := j) h t
    obtain ⟨slots', waits'⟩ := ih (h.stageOneTag t)
    refine ⟨slots'.trans slots, waits'.trans ?_⟩
    rw [waits, List.filter_filter]
    refine List.filter_congr fun w _ => ?_
    by_cases hp : w.sender.port = p <;> by_cases ht : w.sender.tag = t <;> simp [hp, ht]

/-- After all tags no waiter of the port is left, and the others stand as they stood. -/
theorem stageOneTags_waitList {x : TeardownRun} (h : x.state.releases p) (l : WaitList) :
    (allTags.foldl (stageOneTag p j) x).state.waitList l =
      (x.state.waitList l).filter fun w => w.sender.port != p := by
  unfold State.waitList
  rw [(stageOneTags_of_releases allTags h).2, List.filter_comm]
  refine List.filter_congr fun w _ => ?_
  simp [mem_allTags, bne]

/-- After a CLOSE stage 1 counts the tags that carry a waiter or a request taken off (R139, R144). -/
theorem stageOneTags_cancelled (hj : j.cause = .closed) {x : TeardownRun} (h : x.state.releases p) :
    (allTags.foldl (stageOneTag p j) x).cancelled = x.cancelled +
      (allTags.filter fun t => (x.state.waiterOf p t).isSome || (j.takenFor t).isSome).length := by
  refine foldl_counts (inv := fun x : TeardownRun => x.state.releases p) (count := TeardownRun.cancelled)
    (counted := fun x t => (x.state.waiterOf p t).isSome || (j.takenFor t).isSome)
    (fun x t hx => ⟨hx.stageOneTag t, ?_, fun k hk => ?_⟩) (by decide) h
  · cases hw : x.state.waiterOf p t with
    | some w =>
      obtain ⟨mem, hp, -⟩ := State.mem_of_waiterOf hw
      rw [stageOneTag_of_sound_waiter hw (by rw [State.verify_of_recordsAgree (hx w mem hp).1]),
        stageOneRemove_of_close hj]
      rfl
    | none =>
      cases hr : j.takenFor t with
      | some r =>
        rw [stageOneTag_of_taken hw hr]
        rfl
      | none =>
        rw [stageOneTag_of_idle hw hr]
        rfl
  · have same : (stageOneTag p j x t).state.waiterOf p k = x.state.waiterOf p k := by
      unfold State.waiterOf
      rw [(stageOneTag_of_releases hx t).2, List.find?_filter]
      congr 1
      funext w
      by_cases ht : w.sender.tag = k <;> simp [ht, hk, Bool.beq_eq_decide_eq]
    rw [same]

end

/-! ### Locks under the scans of stage 1 (R140) -/

/-- The object of a slot, if it is a lock. -/
def State.lockAt (s : State) (i : SlotNo) : Option ObjectRecord := (s.object i).filter fun r => r.part.isLock

theorem State.lockAt_eq_some_iff {s : State} {i : SlotNo} {r : ObjectRecord} :
    s.lockAt i = some r ↔ s.object i = some r ∧ r.part.isLock = true := Option.filter_eq_some_iff

theorem State.lockAt_of_cellAt {s : State} {i : SlotNo} {order : Order} (h : s.cellAt i order) : s.lockAt i = none := by
  obtain ⟨v, h⟩ := h
  obtain ⟨r, ho, hp⟩ := Option.map_eq_some_iff.mp h
  unfold State.lockAt
  rw [ho, Option.filter_some, hp]
  rfl

/-- A scan leaves every lock as it was. -/
theorem State.scan_lockAt (s : State) (k i : SlotNo) : (s.scan k).lockAt i = s.lockAt i := by
  by_cases hk : i = k
  · subst hk
    by_cases h : ∃ order, s.cellAt i order
    · obtain ⟨order, h⟩ := h
      rw [State.lockAt_of_cellAt h, State.lockAt_of_cellAt ((s.scan_cellAt_iff i order).mpr h)]
    · rw [State.scan_other fun order ho => h ⟨order, ho⟩]
  · unfold State.lockAt
    rw [(s.scan_worksOn k).object i hk]

/-- A scan leaves the waiters of every lock. -/
theorem State.scan_waitList_of_lock {s : State} {i : SlotNo} {r : ObjectRecord} (h : s.lockAt i = some r) (k : SlotNo) :
    (s.scan k).waitList (.object i) = s.waitList (.object i) := by
  by_cases hk : i = k
  · subst hk
    rw [State.scan_other fun order hc => by rw [State.lockAt_of_cellAt hc] at h; cases h]
  · exact (s.scan_worksOn k).list i hk

/-- Stage 1 leaves the locks, and of their waiters those of the other ports. -/
theorem stageOne_of_releases {p : Port} {j : TeardownJob} {x : TeardownRun} (h : x.state.releases p) (i : SlotNo) :
    (stageOne p j x).state.lockAt i = x.state.lockAt i ∧
      ∀ r, x.state.lockAt i = some r → (stageOne p j x).state.waitList (.object i) =
        (x.state.waitList (.object i)).filter fun w => w.sender.port != p := by
  have tags : (allTags.foldl (stageOneTag p j) x).state.lockAt i = x.state.lockAt i := by
    unfold State.lockAt
    rw [State.object_congr (stageOneTags_of_releases allTags h).1]
  refine ⟨(foldl_keeps (g := fun s : State => s.lockAt i) (fun s k => s.scan_lockAt k i) _ _).trans tags,
    fun r hr => ?_⟩
  rw [← stageOneTags_waitList (j := j) h]
  have lock := tags.trans hr
  exact (List.foldlRecOn (motive := fun s : State => s.lockAt i = some r ∧
      s.waitList (.object i) = (allTags.foldl (stageOneTag p j) x).state.waitList (.object i)) _ State.scan
    ⟨lock, rfl⟩ fun s hs k _ =>
      ⟨(s.scan_lockAt k i).trans hs.1, (State.scan_waitList_of_lock hs.1 k).trans hs.2⟩).2

/-! ### Stage 2 at one lock (R97, R100, R141) -/

/-- What becomes of an abandoned lock, by its waiters: free and damaged, or held by the session of the oldest, with one
hold for it and one for each other waiter of its port (R97, R100). -/
def State.abandonedTo (s : State) : List WaitRecord → KindPart
  | [] => .lock none 0 true
  | w :: ws => .lock (some ⟨w.sender.port, (s.port w.sender.port).session.number⟩)
      (1 + (ws.filter (fun v => v.sender.port == w.sender.port)).length) true

theorem State.abandonedTo_congr {s t : State} (h : ∀ p, (t.port p).session = (s.port p).session) (ws : List WaitRecord) :
    t.abandonedTo ws = s.abandonedTo ws := by
  cases ws with
  | nil => rfl
  | cons w ws =>
    show KindPart.lock (some ⟨_, (t.port w.sender.port).session.number⟩) _ _ = _
    rw [h]
    rfl

theorem State.lockBecomes_object (s : State) (i : SlotNo) (r : ObjectRecord) (holder : Option SessionId) (count : Nat)
    (damaged : Bool) :
    (s.lockBecomes i r holder count damaged).object i = some { r with part := .lock holder count damaged } := by
  unfold State.lockBecomes State.holds State.object State.slot
  dsimp only
  rw [vector_get_set, if_pos rfl]

/-- Waiters served as re-entries raise the count by one each. -/
theorem foldl_serveReentry_object {i : SlotNo} {r : ObjectRecord} (hc : r.check = .agrees) {holder : Option SessionId}
    {damaged : Bool} (ws : List WaitRecord) (hws : ∀ w ∈ ws, w.list = .object i) {s : State} {count : Nat}
    (ho : s.object i = some { r with part := .lock holder count damaged }) :
    (ws.foldl (serveReentry i) s).object i =
      some { r with part := .lock holder (count + ws.length) damaged } := by
  induction ws generalizing s count with
  | nil => exact ho
  | cons w ws ih =>
    obtain ⟨hw, hws⟩ := List.forall_mem_cons.mp hws
    have served : (serveReentry i s w).object i = some { r with part := .lock holder (count + 1) damaged } := by
      rw [serveReentry_eq ho hc rfl hw, State.complete_object, State.lockBecomes_object]
    rw [List.foldl_cons, ih hws served, List.length_cons, Nat.add_assoc, Nat.add_comm 1]

/-- An abandoned lock whose record agrees (R100). -/
theorem abandonLock_object {s : State} {i : SlotNo} {r : ObjectRecord} (hc : r.check = .agrees) :
    (abandonLock i r s).object i = some { r with part := s.abandonedTo (s.waitList (.object i)) } := by
  cases hw : s.waitList (.object i) with
  | nil =>
    rw [abandonLock_of_nobody hw hc, State.lockBecomes_object]
    rfl
  | cons w ws =>
    have own : ∀ v ∈ ws.filter (fun v => v.sender.port == w.sender.port), v.list = .object i := fun v hv =>
      State.list_of_mem_waitList (hw ▸ List.mem_cons_of_mem _ (List.mem_filter.mp hv).1)
    rw [abandonLock_of_waiter hw hc]
    refine foldl_serveReentry_object hc _ own ?_
    rw [State.complete_object, State.lockBecomes_object]

/-- Stage 2 at the other slots leaves the object and the list of this one, and every session. -/
theorem stageTwoSlots_beside (ending : SessionId) {l : List SlotNo} {i : SlotNo} (hi : i ∉ l) (x : TeardownRun) :
    (l.foldl (stageTwoSlot ending) x).state.object i = x.state.object i ∧
      (l.foldl (stageTwoSlot ending) x).state.waitList (.object i) = x.state.waitList (.object i) := by
  refine List.foldlRecOn (motive := fun y : TeardownRun => y.state.object i = x.state.object i ∧
    y.state.waitList (.object i) = x.state.waitList (.object i)) l _ ⟨rfl, rfl⟩ fun y ⟨ho, hl⟩ k hk => ?_
  have other : i ≠ k := fun h => hi (h ▸ hk)
  have work := stageTwoSlot_worksOn ending y k
  exact ⟨(work.object i other).trans ho, (work.list i other).trans hl⟩

/-- The slots before and behind a slot, none of which is that slot again. -/
theorem allSlots_split (i : SlotNo) : ∃ before after, allSlots = before ++ i :: after ∧ i ∉ before ∧ i ∉ after := by
  obtain ⟨before, after, h, hb⟩ := finRange_split i
  have nodup : (before ++ i :: after).Nodup := h ▸ List.nodup_finRange 256
  obtain ⟨-, hafter, -⟩ := List.nodup_append.mp nodup
  exact ⟨before, after, h, fun hi => absurd (hb i hi) (lt_irrefl i), (List.nodup_cons.mp hafter).1⟩

/-- A lock of the ending session in service, its record agreeing, after stage 2. -/
theorem stageTwo_object {ending : SessionId} {x : TeardownRun} {i : SlotNo} {r : ObjectRecord} {count : Nat}
    {damaged : Bool} (ho : x.state.object i = some r) (hp : r.part = .lock (some ending) count damaged)
    (hq : r.quarantined = false) (hc : r.check = .agrees) :
    (stageTwo ending x).state.object i =
      some { r with part := x.state.abandonedTo (x.state.waitList (.object i)) } := by
  obtain ⟨before, after, split, hb, ha⟩ := allSlots_split i
  obtain ⟨object, list⟩ := stageTwoSlots_beside ending hb x
  have sessions : ∀ p, ((before.foldl (stageTwoSlot ending) x).state.port p).session = (x.state.port p).session :=
    fun p => (portsContinue_foldl (fun y k => (stageTwoSlot_continues ending y k).portsContinue) before x p).session
  unfold stageTwo
  rw [split, List.foldl_append, List.foldl_cons, (stageTwoSlots_beside ending ha _).1,
    stageTwoSlot_of_held (object.trans ho) hp hq hc]
  dsimp only
  rw [abandonLock_object hc, list, State.abandonedTo_congr sessions]

/-- A lock that stage 2 will abandon: held by the ending session, in service, its record agreeing. -/
def State.abandons (s : State) (ending : SessionId) (i : SlotNo) : Bool :=
  (s.object i).any fun r => r.check == .agrees && !r.quarantined && r.part.heldBy ending

theorem KindPart.heldBy_iff (part : KindPart) (holder : SessionId) :
    part.heldBy holder = true ↔ ∃ count damaged, part = .lock (some holder) count damaged := by
  cases part with
  | lock h count damaged =>
    show (h == some holder) = true ↔ _
    rw [beq_iff_eq]
    exact ⟨fun hh => ⟨count, damaged, hh ▸ rfl⟩, fun ⟨_, _, hh⟩ => (KindPart.lock.inj hh).1⟩
  | cell | queue => exact iff_of_false nofun nofun

theorem State.abandons_iff {s : State} {ending : SessionId} {i : SlotNo} : s.abandons ending i = true ↔
    ∃ r count damaged, s.object i = some r ∧ r.part = .lock (some ending) count damaged ∧ r.quarantined = false ∧
      r.check = .agrees := by
  simp only [State.abandons, Option.any_eq_true, Bool.and_eq_true, beq_iff_eq, Bool.not_eq_true', KindPart.heldBy_iff]
  exact ⟨fun ⟨r, ho, ⟨hc, hq⟩, count, damaged, hp⟩ => ⟨r, count, damaged, ho, hp, hq, hc⟩,
    fun ⟨r, count, damaged, ho, hp, hq, hc⟩ => ⟨r, ho, ⟨hc, hq⟩, count, damaged, hp⟩⟩

/-- Stage 2 counts a lock that it abandons and no other slot. -/
theorem stageTwoSlot_locks (ending : SessionId) (x : TeardownRun) (i : SlotNo) :
    (stageTwoSlot ending x i).locks = x.locks + (x.state.abandons ending i).toNat := by
  cases hb : x.state.abandons ending i with
  | true =>
    obtain ⟨r, count, damaged, ho, hp, hq, hc⟩ := State.abandons_iff.mp hb
    rw [stageTwoSlot_of_held ho hp hq hc]
    rfl
  | false =>
    have skipped : ∀ r count damaged, x.state.object i = some r → r.part = .lock (some ending) count damaged →
        r.quarantined = false → r.check = .fails := fun r count damaged ho hp hq => by
      cases hc : r.check with
      | fails => rfl
      | agrees =>
        rw [State.abandons_iff.mpr ⟨r, count, damaged, ho, hp, hq, hc⟩] at hb
        cases hb
    by_cases h : ∃ r count damaged, x.state.object i = some r ∧ r.part = .lock (some ending) count damaged ∧
        r.quarantined = false
    · obtain ⟨r, count, damaged, ho, hp, hq⟩ := h
      rw [stageTwoSlot_of_failing ho hp hq (skipped r count damaged ho hp hq)]
      rfl
    · rw [stageTwoSlot_of_unheld fun r count damaged ho hp => ?_]
      · rfl
      · by_contra hq
        exact h ⟨r, count, damaged, ho, hp, by simpa using hq⟩

theorem stageTwo_locks (ending : SessionId) (x : TeardownRun) :
    (stageTwo ending x).locks = x.locks + (allSlots.filter (x.state.abandons ending)).length := by
  refine foldl_counts (inv := fun _ => True) (count := TeardownRun.locks)
    (counted := fun x i => x.state.abandons ending i)
    (fun x i _ => ⟨trivial, stageTwoSlot_locks ending x i, fun k hk => ?_⟩) (List.nodup_finRange 256) trivial
  unfold State.abandons
  rw [(stageTwoSlot_worksOn ending x i).object k hk]

/-! ### Stage 3 and what follows (R142) -/

/-- After stage 3 no object is scoped to the ending session. -/
theorem stageThree_scopeAt (ending : SessionId) (x : TeardownRun) (i : SlotNo) :
    (stageThree ending x).state.scopeAt i ≠ some (true, ending) := by
  obtain ⟨before, after, split, -, ha⟩ := allSlots_split i
  unfold stageThree
  rw [split, List.foldl_append, List.foldl_cons]
  generalize before.foldl (stageThreeSlot ending) x = y
  have here : (stageThreeSlot ending y i).state.scopeAt i ≠ some (true, ending) := by
    by_cases h : y.state.scopeAt i = some (true, ending)
    · rw [State.scopeAt, (stageThreeSlot_here ending y i).1 h]
      nofun
    · rwa [(stageThreeSlot_here ending y i).2 h]
  refine List.foldlRecOn (motive := fun z : TeardownRun => z.state.scopeAt i ≠ some (true, ending)) after _ here
    fun z hz k hk => ?_
  have other : i ≠ k := fun h => ha (h ▸ hk)
  rwa [(stageThreeSlot_spares ending z other).scopeAt]

/-- An object that is not scoped to the ending session and whose record agrees is as it was after stage 3. -/
theorem stageThree_object {ending : SessionId} {x : TeardownRun} {i : SlotNo} {r : ObjectRecord}
    (ho : x.state.object i = some r) (hc : r.check = .agrees) (hs : r.scope ≠ (true, ending)) :
    (stageThree ending x).state.object i = some r := by
  refine List.foldlRecOn (motive := fun y : TeardownRun => y.state.object i = some r) allSlots _ ho fun y hy k _ => ?_
  by_cases hk : i = k
  · subst hk
    rwa [(stageThreeSlot_here ending y i).2 fun h => hs (Option.some.inj ((State.scopeAt_of_object hy).symm.trans h))]
  · exact (stageThreeSlot_spares ending y hk).object hy hc

/-- Stage 3 counts the objects scoped to the ending session (R144). -/
theorem stageThree_deleted (ending : SessionId) (x : TeardownRun) : (stageThree ending x).deleted = x.deleted +
    (allSlots.filter fun i => decide (x.state.scopeAt i = some (true, ending))).length := by
  refine foldl_counts (inv := fun _ => True) (count := TeardownRun.deleted)
    (counted := fun x i => decide (x.state.scopeAt i = some (true, ending)))
    (fun x i _ => ⟨trivial, ?_, fun k hk => ?_⟩) (List.nodup_finRange 256) trivial
  · by_cases h : x.state.scopeAt i = some (true, ending)
    · obtain ⟨r, ho, hr⟩ := Option.map_eq_some_iff.mp h
      obtain ⟨hs, hcr⟩ := Prod.mk.inj hr
      rw [stageThreeSlot_of_scoped ho hs hcr, decide_eq_true h]
      rfl
    · rw [(stageThreeSlot_here ending x i).2 h, decide_eq_false h]
      rfl
  · rw [(stageThreeSlot_spares ending x hk).scopeAt]

theorem stageFour_spares (x : TeardownRun) (i : SlotNo) : x.state.Spares i (stageFour x).state :=
  x.state.poolServiceIf_spares x.due i

theorem stageFive_spares (ending : SessionId) (cause : EndCause) (x : TeardownRun) (i : SlotNo) :
    x.state.Spares i (stageFive ending cause x).state := by
  cases cause with
  | lapsed | broken | forced => exact .of_slots (State.appendAlert_slots _ _) i
  | closed | none => exact .refl _ i

end Sys2Proof.Machine
end

section
/-! PROOFS. The teardown job as a whole (O52): what it leaves when its six stages have run. -/

namespace Sys2Proof.Machine

/-! ### The requests of a port, tag by tag (R106, R139) -/

theorem TagState.carried_length {st : TagState} {waits asked sent hand : List Gen}
    (h : st.carried waits asked sent hand) : waits.length + asked.length ≤ 1 := by
  cases st with
  | idle =>
    obtain ⟨rfl, rfl, -⟩ := h
    exact Nat.zero_le 1
  | pending g =>
    obtain ⟨rfl, ha, -⟩ := h
    have := congrArg List.length ha
    simp only [List.length_append, List.length_singleton, List.length_nil] at this ⊢
    omega
  | waiting g =>
    obtain ⟨hw, rfl, -⟩ := h
    have := congrArg List.length hw
    simp only [List.length_append, List.length_singleton, List.length_nil] at this ⊢
    omega
  | replying g =>
    obtain ⟨rfl, rfl, -⟩ := h
    exact Nat.zero_le 1

/-- A tag carries a waiter or a request taken off the pending list, not both, and one at most. -/
theorem State.waitLaw.one_of_tag {s : State} (h : s.waitLaw) {p : Port} {j : TeardownJob}
    (hj : (s.port p).teardown = some j) (t : Tag) :
    (s.waits.filter (fun w => w.sender.port == p && w.sender.tag == t)).length +
      (j.taken.filter (fun r => r.tag == t)).length ≤ 1 := by
  have carried := TagState.carried_length ((((State.waitLaw_iff_sound s).mp h).port p).carried t)
  have asked : (s.port p).asked =
      (s.port p).requests.map PendingRequest.key ++ (j.closing.toList ++ j.taken.map PendingRequest.key) := by
    unfold PortState.asked
    rw [hj]
    rfl
  rw [State.waiters, gensOf_keysAt, asked, gensOf_append, gensOf_append, gensOf_requests t j.taken] at carried
  simp only [List.length_append, List.length_map] at carried
  omega

/-- The members of a list sorted by a tag, counted tag by tag. -/
theorem sum_length_filter_tag {α : Type} (tag : α → Tag) (l : List α) :
    (allTags.map fun t => (l.filter fun a => tag a == t).length).sum = l.length := by
  induction l with
  | nil => rfl
  | cons a l ih =>
    have one : ∀ k : Tag, (allTags.map fun t => (k == t).toNat).sum = 1 := by decide
    have cons : ∀ t, ((a :: l).filter fun b => tag b == t).length =
        (tag a == t).toNat + (l.filter fun b => tag b == t).length := fun t => by
      rw [List.filter_cons]
      cases tag a == t with
      | true => exact Nat.add_comm _ 1
      | false => exact (Nat.zero_add _).symm
    simp only [cons, List.sum_map_add, one, ih, List.length_cons, Nat.add_comm]

/-- The members of a list that a property picks out, as a sum. -/
theorem length_filter_eq_sum {α : Type} (q : α → Bool) (l : List α) :
    (l.filter q).length = (l.map fun a => (q a).toNat).sum := by
  induction l with
  | nil => rfl
  | cons a l ih =>
    rw [List.filter_cons, List.map_cons, List.sum_cons, ← ih]
    cases q a with
    | true => exact Nat.add_comm _ 1
    | false => exact (Nat.zero_add _).symm

/-- Of two lists with one member at most, the heads that there are count the members. -/
theorem isSome_heads_of_length_le_one {α β : Type} (ws : List α) (rs : List β) (one : ws.length + rs.length ≤ 1) :
    (ws.head?.isSome || rs.head?.isSome).toNat = ws.length + rs.length := by
  cases ws with
  | nil =>
    cases rs with
    | nil => rfl
    | cons r rs =>
      simp only [List.length_nil, List.length_cons] at one
      obtain rfl := List.eq_nil_of_length_eq_zero (show rs.length = 0 by omega)
      rfl
  | cons w ws =>
    simp only [List.length_cons] at one
    obtain rfl := List.eq_nil_of_length_eq_zero (show ws.length = 0 by omega)
    obtain rfl := List.eq_nil_of_length_eq_zero (show rs.length = 0 by omega)
    rfl

/-- The tags that carry a waiter or a request taken off are as many as those waiters and requests. -/
theorem State.waitLaw.tags_counted {s : State} (h : s.waitLaw) {p : Port} {j : TeardownJob}
    (hj : (s.port p).teardown = some j) :
    (allTags.filter fun t => (s.waiterOf p t).isSome || (j.takenFor t).isSome).length =
      (s.waits.filter fun w => w.sender.port == p).length + j.taken.length := by
  have each : ∀ t, ((s.waiterOf p t).isSome || (j.takenFor t).isSome).toNat =
      ((s.waits.filter fun w => w.sender.port == p).filter fun w => w.sender.tag == t).length +
        (j.taken.filter fun r => r.tag == t).length := fun t => by
    have one := h.one_of_tag hj t
    have waiter : s.waiterOf p t = _ := List.head?_filter.symm
    have taken : j.takenFor t = _ := List.head?_filter.symm
    have own : ((s.waits.filter fun w => w.sender.port == p).filter fun w => w.sender.tag == t) =
        s.waits.filter fun w => w.sender.port == p && w.sender.tag == t := by
      rw [List.filter_filter]
      exact List.filter_congr fun w _ => Bool.and_comm _ _
    rw [own, waiter, taken]
    exact isSome_heads_of_length_le_one _ _ one
  rw [length_filter_eq_sum, ← sum_length_filter_tag (fun w => w.sender.tag) (s.waits.filter _),
    ← sum_length_filter_tag PendingRequest.tag j.taken, ← List.sum_map_add]
  simp only [each]

/-! ### The first five stages together (R138 to R143) -/

/-- The teardown job up to its last stage. -/
def teardownRun (p : Port) (j : TeardownJob) (s : State) : TeardownRun :=
  stageFive ⟨p, j.number⟩ j.cause (stageFour (stageThree ⟨p, j.number⟩ (stageTwo ⟨p, j.number⟩
    (stageOne p j ⟨s, 0, 0, 0, [], false⟩))))

theorem jobTeardown_eq (p : Port) (j : TeardownJob) (s : State) :
    jobTeardown p j s = stageSix p j (teardownRun p j s) := rfl

section
variable (p : Port) (j : TeardownJob) (s : State)

theorem teardownRun_portsContinue : s.PortsContinue (teardownRun p j s).state :=
  ((((stageOne_portsContinue p j ⟨s, 0, 0, 0, [], false⟩).trans (stageTwo_portsContinue ⟨p, j.number⟩ _)).trans
    (stageThree_portsContinue ⟨p, j.number⟩ _)).trans (stageFour_continues _).portsContinue).trans
    (stageFive_continues ⟨p, j.number⟩ j.cause _).portsContinue

theorem teardownRun_serves : s.Serves (teardownRun p j s).state := by
  have one := stageOne_serves p j ⟨s, 0, 0, 0, [], false⟩
  have two := one.trans (.foldl TeardownRun.state (stageTwoSlot_serves ⟨p, j.number⟩) allSlots _)
  have three := two.trans (.foldl TeardownRun.state (stageThreeSlot_serves ⟨p, j.number⟩) allSlots _)
  exact (three.trans (stageFour_serves _)).trans (stageFive_serves ⟨p, j.number⟩ j.cause _)

theorem teardownRun_scopeAt (i : SlotNo) : (teardownRun p j s).state.scopeAt i ≠ some (true, ⟨p, j.number⟩) := by
  unfold teardownRun
  rw [((stageFour_spares _ i).trans (stageFive_spares _ j.cause _ i)).scopeAt]
  exact stageThree_scopeAt _ _ i

end

/-- A lock of the ending session in service, its record agreeing and not itself scoped to that session, ends free or
with its oldest waiter of another port (R100). -/
theorem teardownRun_object {p : Port} {j : TeardownJob} {s : State} (hs : s.releases p) {i : SlotNo} {r : ObjectRecord}
    {count : Nat} {damaged : Bool} (ho : s.object i = some r) (hc : r.check = .agrees) (hq : r.quarantined = false)
    (hp : r.part = .lock (some ⟨p, j.number⟩) count damaged) (hn : ¬ (r.isScoped = true ∧ r.creator = ⟨p, j.number⟩)) :
    (teardownRun p j s).state.object i =
      some { r with part := s.abandonedTo ((s.waitList (.object i)).filter fun w => w.sender.port != p) } := by
  have lock : s.lockAt i = some r := State.lockAt_eq_some_iff.mpr ⟨ho, by rw [hp]; rfl⟩
  obtain ⟨lockAt, list⟩ := stageOne_of_releases (j := j) (x := ⟨s, 0, 0, 0, [], false⟩) hs i
  have sessions : ∀ k, ((stageOne p j ⟨s, 0, 0, 0, [], false⟩).state.port k).session = (s.port k).session :=
    fun k => (stageOne_portsContinue p j ⟨s, 0, 0, 0, [], false⟩ k).session
  have two := stageTwo_object (State.lockAt_eq_some_iff.mp (lockAt.trans lock)).1 hp hq hc
  rw [list r lock, State.abandonedTo_congr sessions] at two
  have three := stageThree_object (ending := ⟨p, j.number⟩) two hc fun h => hn (Prod.mk.inj h)
  exact ((stageFour_spares _ i).trans (stageFive_spares _ j.cause _ i)).object three hc

/-! ### The three counts (R144) -/

theorem stageOneTag_counts (p : Port) (j : TeardownJob) (x : TeardownRun) (t : Tag) :
    (stageOneTag p j x t).locks = x.locks ∧ (stageOneTag p j x t).deleted = x.deleted := by
  unfold stageOneTag stageOneRemove
  split
  · dsimp only
    split
    · exact ⟨rfl, rfl⟩
    · split <;> exact ⟨rfl, rfl⟩
  · split <;> exact ⟨rfl, rfl⟩

theorem stageTwoSlot_counts (ending : SessionId) (x : TeardownRun) (i : SlotNo) :
    (stageTwoSlot ending x i).cancelled = x.cancelled ∧ (stageTwoSlot ending x i).deleted = x.deleted := by
  unfold stageTwoSlot
  split
  · split
    · split
      · split <;> exact ⟨rfl, rfl⟩
      · exact ⟨rfl, rfl⟩
    · exact ⟨rfl, rfl⟩
  · exact ⟨rfl, rfl⟩

theorem stageThreeSlot_counts (ending : SessionId) (x : TeardownRun) (i : SlotNo) :
    (stageThreeSlot ending x i).cancelled = x.cancelled ∧ (stageThreeSlot ending x i).locks = x.locks := by
  unfold stageThreeSlot
  split
  · split <;> exact ⟨rfl, rfl⟩
  · exact ⟨rfl, rfl⟩

theorem stageFour_counts (x : TeardownRun) : (stageFour x).cancelled = x.cancelled ∧ (stageFour x).locks = x.locks ∧
    (stageFour x).deleted = x.deleted := ⟨rfl, rfl, rfl⟩

theorem stageFive_counts (ending : SessionId) (cause : EndCause) (x : TeardownRun) :
    (stageFive ending cause x).cancelled = x.cancelled ∧ (stageFive ending cause x).locks = x.locks ∧
      (stageFive ending cause x).deleted = x.deleted := by
  cases cause <;> exact ⟨rfl, rfl, rfl⟩

theorem stageOne_counts (p : Port) (j : TeardownJob) (x : TeardownRun) :
    (stageOne p j x).locks = x.locks ∧ (stageOne p j x).deleted = x.deleted :=
  ⟨foldl_keeps (g := TeardownRun.locks) (fun y t => (stageOneTag_counts p j y t).1) allTags x,
    foldl_keeps (g := TeardownRun.deleted) (fun y t => (stageOneTag_counts p j y t).2) allTags x⟩

theorem stageTwo_counts (ending : SessionId) (x : TeardownRun) :
    (stageTwo ending x).cancelled = x.cancelled ∧ (stageTwo ending x).deleted = x.deleted :=
  ⟨foldl_keeps (g := TeardownRun.cancelled) (fun y i => (stageTwoSlot_counts ending y i).1) allSlots x,
    foldl_keeps (g := TeardownRun.deleted) (fun y i => (stageTwoSlot_counts ending y i).2) allSlots x⟩

theorem stageThree_counts (ending : SessionId) (x : TeardownRun) :
    (stageThree ending x).cancelled = x.cancelled ∧ (stageThree ending x).locks = x.locks :=
  ⟨foldl_keeps (g := TeardownRun.cancelled) (fun y i => (stageThreeSlot_counts ending y i).1) allSlots x,
    foldl_keeps (g := TeardownRun.locks) (fun y i => (stageThreeSlot_counts ending y i).2) allSlots x⟩

section
variable (p : Port) (j : TeardownJob) (s : State)

/-- The requests are counted by stage 1. -/
theorem teardownRun_cancelled : (teardownRun p j s).cancelled =
    (allTags.foldl (stageOneTag p j) ⟨s, 0, 0, 0, [], false⟩).cancelled := by
  unfold teardownRun
  rw [(stageFive_counts _ _ _).1, (stageFour_counts _).1, (stageThree_counts _ _).1, (stageTwo_counts _ _).1]
  rfl

/-- The locks are counted by stage 2. -/
theorem teardownRun_locks : (teardownRun p j s).locks =
    (allSlots.filter ((stageOne p j ⟨s, 0, 0, 0, [], false⟩).state.abandons ⟨p, j.number⟩)).length := by
  have none : (stageOne p j ⟨s, 0, 0, 0, [], false⟩).locks = 0 := (stageOne_counts p j _).1
  unfold teardownRun
  rw [(stageFive_counts _ _ _).2.1, (stageFour_counts _).2.1, (stageThree_counts _ _).2, stageTwo_locks, none,
    Nat.zero_add]

/-- The objects are counted by stage 3, which finds them as they were when the job was taken. -/
theorem teardownRun_deleted : (teardownRun p j s).deleted =
    (allSlots.filter fun i => decide (s.scopeAt i = some (true, ⟨p, j.number⟩))).length := by
  have none : (stageTwo ⟨p, j.number⟩ (stageOne p j ⟨s, 0, 0, 0, [], false⟩)).deleted = 0 :=
    (stageTwo_counts _ _).2.trans (stageOne_counts p j _).2
  have kept : ∀ i, (stageTwo ⟨p, j.number⟩ (stageOne p j ⟨s, 0, 0, 0, [], false⟩)).state.scopeAt i = s.scopeAt i :=
    fun i => (stageTwo_scopeAt _ _ i).trans (stageOne_scopeAt p j _ i)
  unfold teardownRun
  rw [(stageFive_counts _ _ _).2.2, (stageFour_counts _).2.2, stageThree_deleted, none, Nat.zero_add]
  simp only [kept]

end

/-- The objects scoped to a session, as the statement counts them. -/
theorem decide_scopeAt_eq_any (s : State) (ending : SessionId) (i : SlotNo) :
    decide (s.scopeAt i = some (true, ending)) = (s.object i).any fun r => r.isScoped && r.creator == ending := by
  unfold State.scopeAt ObjectRecord.scope
  cases s.object i with
  | none => rfl
  | some r => simp [Bool.beq_eq_decide_eq]

/-- Where every record agrees, stage 2 finds the locks that the session held as its teardown began. -/
theorem stageOne_abandons {p : Port} {j : TeardownJob} {s : State} (hs : s.releases p) (ha : s.recordsAgree)
    (ending : SessionId) (i : SlotNo) :
    (stageOne p j ⟨s, 0, 0, 0, [], false⟩).state.abandons ending i =
      (s.object i).any fun r => !r.quarantined && r.part.heldBy ending := by
  have lockAt := (stageOne_of_releases (j := j) (x := ⟨s, 0, 0, 0, [], false⟩) hs i).1
  rw [Bool.eq_iff_iff, State.abandons_iff]
  simp only [Option.any_eq_true, Bool.and_eq_true, Bool.not_eq_true', KindPart.heldBy_iff]
  constructor
  · rintro ⟨r, count, damaged, ho, hp, hq, -⟩
    have lock := lockAt.symm.trans (State.lockAt_eq_some_iff.mpr ⟨ho, by rw [hp]; rfl⟩)
    exact ⟨r, (State.lockAt_eq_some_iff.mp lock).1, hq, count, damaged, hp⟩
  · rintro ⟨r, ho, hq, count, damaged, hp⟩
    have lock := lockAt.trans (State.lockAt_eq_some_iff.mpr ⟨ho, by rw [hp]; rfl⟩)
    exact ⟨r, count, damaged, (State.lockAt_eq_some_iff.mp lock).1, hp, hq, ha i r ho⟩

/-! ### The last stage (R144) -/

theorem stageSix_slots (p : Port) (j : TeardownJob) (x : TeardownRun) : (stageSix p j x).slots = x.state.slots := by
  unfold stageSix
  split
  · exact State.completeFor_slots _ _ _ _ _
  · rfl

theorem stageSix_alerts (p : Port) (j : TeardownJob) (x : TeardownRun) : (stageSix p j x).alerts = x.state.alerts := by
  unfold stageSix
  split
  · exact State.completeFor_alerts _ _ _ _ _
  · rfl

theorem stageSix_teardown (p : Port) (j : TeardownJob) (x : TeardownRun) :
    ((stageSix p j x).port p).teardown = (x.state.port p).teardown := by
  unfold stageSix
  split
  · exact ((x.state.completeFor_continues _ _ _ _).port p).teardown
  · rw [State.port_setPort_same]
    rfl

/-- After a CLOSE the port's session is left to the reply; after any other end it is CLOSED at once. -/
theorem stageSix_session (p : Port) (j : TeardownJob) (x : TeardownRun) :
    (j.closing ≠ none → ((stageSix p j x).port p).session = (x.state.port p).session) ∧
      (j.closing = none →
        ((stageSix p j x).port p).session = { (x.state.port p).session with state := .closed }) := by
  unfold stageSix
  split
  · next t g hj => exact ⟨fun _ => ((x.state.completeFor_continues _ _ _ _).port p).session, fun h => by simp [h] at hj⟩
  · next hj =>
    rw [State.port_setPort_same]
    exact ⟨fun h => absurd hj h, fun _ => rfl⟩

/-- An alert that stands last in the list is there still when the job has ended (R169, R173). -/
theorem State.mem_endsJob_alerts {start u : State} {l : List Alert} {a : Alert} (h : u.alerts = l ++ [a]) :
    a ∈ (start.endsJob u).alerts := by
  unfold State.endsJob
  split
  · rw [State.appendAlert_alerts, h]
    split
    · simp
    · next full =>
      rw [List.drop_append_of_le_length (by simp at full; omega)]
      simp
  · simp [h]

/-! ### The alert (R143) -/

theorem State.verify_timebase (s : State) (i : SlotNo) : (s.verify i).state.timebase = s.timebase := by
  unfold State.verify
  split
  · split
    · exact State.quarantine_timebase _ _ _
    · rfl
  · rfl

theorem abandonLock_timebase (i : SlotNo) (r : ObjectRecord) (s : State) :
    (abandonLock i r s).timebase = s.timebase := by
  unfold abandonLock
  split
  · rfl
  · rw [State.replyHandOff_timebase, State.assignLock_timebase]

theorem stageOneTag_timebase (p : Port) (j : TeardownJob) (x : TeardownRun) (t : Tag) :
    (stageOneTag p j x t).state.timebase = x.state.timebase := by
  unfold stageOneTag
  split
  · next w _ =>
    dsimp only
    split
    · exact x.state.verify_timebase w.target.slot
    · unfold stageOneRemove
      dsimp only
      split
      · exact State.dismiss_timebase _ _ _
      · exact State.removeWaiter_timebase _ _
  · split
    · exact State.complete_timebase _ _ _ _
    · rfl

theorem stageTwoSlot_timebase (ending : SessionId) (x : TeardownRun) (i : SlotNo) :
    (stageTwoSlot ending x i).state.timebase = x.state.timebase := by
  unfold stageTwoSlot
  split
  · split
    · split
      · split
        · exact State.quarantine_timebase _ _ _
        · exact abandonLock_timebase _ _ _
      · rfl
    · rfl
  · rfl

theorem stageThreeSlot_timebase (ending : SessionId) (x : TeardownRun) (i : SlotNo) :
    (stageThreeSlot ending x i).state.timebase = x.state.timebase := by
  unfold stageThreeSlot
  split
  · split
    · dsimp only
      rw [State.poolServiceIf_timebase, State.deleteObject_timebase, State.verify_timebase]
    · rfl
  · rfl

theorem stageOne_timebase (p : Port) (j : TeardownJob) (x : TeardownRun) :
    (stageOne p j x).state.timebase = x.state.timebase :=
  (foldl_keeps (g := State.timebase) (fun s i => s.scan_timebase i) _ _).trans
    (foldl_keeps (g := fun y : TeardownRun => y.state.timebase) (fun y t => stageOneTag_timebase p j y t) allTags x)

theorem stageTwo_timebase (ending : SessionId) (x : TeardownRun) :
    (stageTwo ending x).state.timebase = x.state.timebase := by
  unfold stageTwo
  exact foldl_keeps (g := fun y : TeardownRun => y.state.timebase) (fun y i => stageTwoSlot_timebase ending y i) allSlots x

theorem stageThree_timebase (ending : SessionId) (x : TeardownRun) :
    (stageThree ending x).state.timebase = x.state.timebase := by
  unfold stageThree
  exact foldl_keeps (g := fun y : TeardownRun => y.state.timebase) (fun y i => stageThreeSlot_timebase ending y i) allSlots x

theorem stageFour_timebase (x : TeardownRun) : (stageFour x).state.timebase = x.state.timebase :=
  State.poolServiceIf_timebase _ _

theorem stageFive_alerts {ending : SessionId} {cause : EndCause} {kind : AlertKind} (x : TeardownRun)
    (h : cause = .lapsed ∧ kind = .lapsed ending ∨ cause = .broken ∧ kind = .broken ending ∨
      cause = .forced ∧ kind = .forced ending) :
    ∃ l, (stageFive ending cause x).state.alerts = l ++ [⟨kind, x.state.timebase⟩] := by
  rw [stageFive_of_alert x h]
  exact ⟨_, State.appendAlert_alerts x.state kind⟩

/-- The alert of an end that the client did not ask for stands last as the job ends (R143). -/
theorem teardownRun_alerts {p : Port} {j : TeardownJob} {kind : AlertKind} (s : State)
    (h : j.cause = .lapsed ∧ kind = .lapsed ⟨p, j.number⟩ ∨ j.cause = .broken ∧ kind = .broken ⟨p, j.number⟩ ∨
      j.cause = .forced ∧ kind = .forced ⟨p, j.number⟩) :
    ∃ l, (teardownRun p j s).state.alerts = l ++ [⟨kind, s.timebase⟩] := by
  have time : (stageFour (stageThree ⟨p, j.number⟩ (stageTwo ⟨p, j.number⟩
      (stageOne p j ⟨s, 0, 0, 0, [], false⟩)))).state.timebase = s.timebase :=
    by rw [stageFour_timebase, stageThree_timebase, stageTwo_timebase, stageOne_timebase]
  rw [← time]
  exact stageFive_alerts _ h

end Sys2Proof.Machine
end

section
/-! PROOFS. The teardown job of any session (O52): its stages in the words of the statement, and what the state after
the job shows. -/

namespace Sys2Proof.Machine

/-! ### The state after the job -/

/-- The state after a port's teardown job, with the POOL_LOW alert that may follow it. -/
def State.afterTeardown (s : State) (p : Port) (j : TeardownJob) : State :=
  s.endsJob (stageSix p j (teardownRun p j (s.takeTeardown p)))

theorem exec_teardown_afterTeardown {s : State} {p : Port} {j : TeardownJob} (hm : s.resetn = .mark)
    (hn : s.nextJob = some (.teardown p j)) : exec (.teardown p) s = .next (s.afterTeardown p j) :=
  exec_teardown_taken hm hn

theorem State.endsJob_port (s u : State) (p : Port) : (s.endsJob u).port p = u.port p := by
  unfold State.port
  rw [State.endsJob_ports]

/-- Every port keeps its session as the job is taken. -/
theorem State.takeTeardown_session (s : State) (p k : Port) : ((s.takeTeardown p).port k).session = (s.port k).session := by
  by_cases h : p = k
  · subst h
    rw [State.takeTeardown_port]
  · exact congrArg PortState.session (s.port_setPort_ne _ h)

section
variable (s : State) (p : Port) (j : TeardownJob)

theorem State.afterTeardown_port :
    (s.afterTeardown p j).port p = (stageSix p j (teardownRun p j (s.takeTeardown p))).port p := s.endsJob_port _ p

theorem State.afterTeardown_object (i : SlotNo) :
    (s.afterTeardown p j).object i = (teardownRun p j (s.takeTeardown p)).state.object i :=
  State.object_congr ((State.endsJob_slots _ _).trans (stageSix_slots _ _ _)) i

theorem State.afterTeardown_teardown : ((s.afterTeardown p j).port p).teardown = none := by
  rw [State.afterTeardown_port, stageSix_teardown, (teardownRun_portsContinue p j _ p).teardown,
    State.takeTeardown_teardown]

/-- The last stage finds the session as it was when the job was taken. -/
theorem teardownRun_session :
    ((teardownRun p j (s.takeTeardown p)).state.port p).session = (s.port p).session := by
  rw [(teardownRun_portsContinue p j _ p).session, State.takeTeardown_session]

end

section
variable {s : State} {p : Port} {j : TeardownJob}

theorem State.afterTeardown_session_of_close (hj : j.closing ≠ none) :
    ((s.afterTeardown p j).port p).session = (s.port p).session := by
  rw [State.afterTeardown_port, (stageSix_session p j _).1 hj, teardownRun_session]

theorem State.afterTeardown_session_of_abrupt (hj : j.closing = none) :
    ((s.afterTeardown p j).port p).session = { (s.port p).session with state := .closed } := by
  rw [State.afterTeardown_port, (stageSix_session p j _).2 hj, teardownRun_session]

/-- After the job nothing of the port waits (R139, R145). -/
theorem State.afterTeardown_waits (hm : s.resetn = .mark) (hn : s.nextJob = some (.teardown p j)) (h : s.waitLaw) :
    ∀ w ∈ (s.afterTeardown p j).waits, w.sender.port ≠ p := by
  obtain ⟨-, ending, -, -⟩ := (State.waitLaw_iff_sound _).mpr
    (exec_sound ((State.waitLaw_iff_sound s).mp h) (exec_teardown_afterTeardown hm hn))
  obtain ⟨-, -, -, law⟩ := h
  obtain ⟨-, -, closing, -⟩ := law p
  have state : (s.port p).session.state = .closing := closing (by rw [State.teardown_of_nextJob hn]; nofun)
  obtain ⟨-, -, absent, -⟩ := ending p
  refine absent ?_ (s.afterTeardown_teardown p j)
  cases hj : j.closing with
  | none =>
    rw [State.afterTeardown_session_of_abrupt hj]
    nofun
  | some x =>
    rw [State.afterTeardown_session_of_close (by rw [hj]; nofun), state]
    nofun

/-- After the job no object is scoped to the session (R142). -/
theorem State.afterTeardown_unscoped {i : SlotNo} {r : ObjectRecord} (ho : (s.afterTeardown p j).object i = some r)
    (hs : r.isScoped = true) : r.creator ≠ ⟨p, j.number⟩ := by
  rw [State.afterTeardown_object] at ho
  intro hcr
  refine teardownRun_scopeAt p j (s.takeTeardown p) i ?_
  rw [State.scopeAt_of_object ho, ObjectRecord.scope, hs, hcr]

/-- A lock of the session in service ends as its waiters of the other ports say (R97, R100). -/
theorem State.afterTeardown_lock (hs : s.releases p) {i : SlotNo} {r : ObjectRecord} {held : Nat} {damaged : Bool}
    (ho : s.object i = some r) (hc : r.check = .agrees) (hq : r.quarantined = false)
    (hp : r.part = .lock (some ⟨p, j.number⟩) held damaged) (hn : ¬ (r.isScoped = true ∧ r.creator = ⟨p, j.number⟩)) :
    (s.afterTeardown p j).object i =
      some { r with part := s.abandonedTo ((s.waitList (.object i)).filter fun w => w.sender.port != p) } := by
  rw [State.afterTeardown_object, teardownRun_object (s := s.takeTeardown p) hs ho hc hq hp hn,
    State.abandonedTo_congr (s.takeTeardown_session p)]
  rfl

/-! ### After an end other than a CLOSE (R143, R144) -/

theorem State.afterTeardown_tag_of_abrupt (hj : j.closing = none) (k : Tag) :
    ((s.afterTeardown p j).port p).tag k = ⟨.idle, none⟩ := by
  rw [State.afterTeardown_port, stageSix_of_abrupt hj, State.port_setPort_same]
  exact PortState.becomeClosed_tag _ k

/-- A port whose tags are all IDLE has no tag frame in its transmit queue. -/
theorem State.tagLaw.untagged_of_idle {t : State} (h : t.tagLaw) (idle : ∀ k, ((t.port p).tag k).state = .idle) :
    ∀ f ∈ (t.port p).queue, f.tag = none := by
  intro f hf
  cases hk : f.tag with
  | none => rfl
  | some k =>
    have law := h p k
    rw [idle k] at law
    have frames : (t.port p).queue.filter (fun f => f.tag == some k) = [] := congrArg Carriers.frames law
    exact absurd (beq_iff_eq.mpr hk) (List.filter_eq_nil_iff.mp frames f hf)

/-- After an end other than a CLOSE the job adds no frame to the transmit queue. -/
theorem State.afterTeardown_queue_of_abrupt (hm : s.resetn = .mark) (hn : s.nextJob = some (.teardown p j))
    (h : s.waitLaw) (hj : j.closing = none) : ((s.afterTeardown p j).port p).queue = (s.port p).queue := by
  obtain ⟨tags, -⟩ := (State.waitLaw_iff_sound _).mpr
    (exec_sound ((State.waitLaw_iff_sound s).mp h) (exec_teardown_afterTeardown hm hn))
  have untagged := tags.untagged_of_idle fun k => by rw [State.afterTeardown_tag_of_abrupt hj k]
  obtain ⟨frames, run, tagged⟩ := ((teardownRun_serves p j (s.takeTeardown p)).port p).queue
  have queue : ((s.afterTeardown p j).port p).queue = (s.port p).queue ++ frames := by
    rw [State.afterTeardown_port, stageSix_of_abrupt hj, State.port_setPort_same]
    exact run.trans (by rw [State.takeTeardown_port])
  have none : frames = [] := List.eq_nil_iff_forall_not_mem.mpr fun f hf =>
    (tagged f hf).1 (untagged f (queue ▸ List.mem_append_right _ hf))
  rw [queue, none, List.append_nil]

theorem State.mem_afterTeardown_alerts {kind : AlertKind}
    (h : j.cause = .lapsed ∧ kind = .lapsed ⟨p, j.number⟩ ∨ j.cause = .broken ∧ kind = .broken ⟨p, j.number⟩ ∨
      j.cause = .forced ∧ kind = .forced ⟨p, j.number⟩) : ⟨kind, s.timebase⟩ ∈ (s.afterTeardown p j).alerts := by
  obtain ⟨l, hl⟩ := teardownRun_alerts (s.takeTeardown p) h
  exact State.mem_endsJob_alerts ((stageSix_alerts p j _).trans hl)

/-! ### After a CLOSE (R144) -/

/-- After a CLOSE its reply, with the three counts of the job, is the last frame of the transmit queue. -/
theorem State.afterTeardown_queue_of_close {k : Tag} {g : Gen} (hj : j.closing = some (k, g))
    (hs : (s.port p).session.state = .closing) (hc : (s.port p).session.cause = .closed) :
    ∃ before f, ((s.afterTeardown p j).port p).queue = before ++ [f] ∧ f.tag = some k ∧ f.purpose = .closeReply ∧
      f.reply.code = 0x04#8 ∧ f.reply.gen = g ∧ f.reply.status = .ok ∧ f.reply.flags = Flags.clear ∧
      f.reply.data = .closed (teardownRun p j (s.takeTeardown p)).cancelled (teardownRun p j (s.takeTeardown p)).locks
        (teardownRun p j (s.takeTeardown p)).deleted := by
  have session := teardownRun_session s p j
  rw [State.afterTeardown_port, stageSix_of_close hj (by rw [session, hs]) (by rw [session, hc])]
  generalize teardownRun p j (s.takeTeardown p) = x
  refine ⟨(x.state.port p).queue, ⟨some k, x.state.replyNow ⟨p, k, g⟩ 0x04#8
    ⟨.ok, Flags.clear, .closed x.cancelled x.locks x.deleted⟩, .closeReply⟩, ?_, rfl, rfl, rfl, rfl, rfl, rfl, rfl⟩
  exact congrArg PortState.queue (x.state.port_setPort_same p _)

/-- A job that carries a CLOSE ends a session for that cause (R138). -/
theorem State.waitLaw.cause_of_closing (h : s.waitLaw) (hj : (s.port p).teardown = some j) {x : Tag × Gen}
    (hx : j.closing = some x) : j.cause = .closed := by
  obtain ⟨-, ending, -, -⟩ := h
  obtain ⟨job, -⟩ := ending p
  obtain ⟨-, -, closes, -⟩ := job j hj
  exact closes.mp (by rw [hx]; rfl)

/-- The objects deleted are those scoped to the session. -/
theorem teardownRun_deleted_takeTeardown : (teardownRun p j (s.takeTeardown p)).deleted =
    (allSlots.filter fun i => (s.object i).any fun r => r.isScoped && r.creator == ⟨p, j.number⟩).length := by
  rw [teardownRun_deleted]
  simp only [decide_scopeAt_eq_any]
  rfl

/-- Where every record agrees, the locks abandoned are those that the session held in service. -/
theorem teardownRun_locks_takeTeardown (hs : s.releases p) (ha : s.recordsAgree) :
    (teardownRun p j (s.takeTeardown p)).locks =
      (allSlots.filter fun i => (s.object i).any fun r => !r.quarantined && r.part.heldBy ⟨p, j.number⟩).length := by
  rw [teardownRun_locks]
  exact congrArg List.length (List.filter_congr fun i _ =>
    stageOne_abandons (s := s.takeTeardown p) hs ha ⟨p, j.number⟩ i)

/-- Where every record agrees, the requests cancelled are the waiters of the port and the requests taken off. -/
theorem teardownRun_cancelled_takeTeardown (h : s.waitLaw) (hs : s.releases p)
    (hj : (s.port p).teardown = some j) (hc : j.cause = .closed) :
    (teardownRun p j (s.takeTeardown p)).cancelled =
      (s.waits.filter fun w => w.sender.port == p).length + j.taken.length := by
  rw [teardownRun_cancelled, stageOneTags_cancelled hc (x := ⟨s.takeTeardown p, 0, 0, 0, [], false⟩) hs, Nat.zero_add]
  exact h.tags_counted hj

end

/-! ### The stages in the words of the statement -/

/-- Stage 1 for a waiter whose record passes its check (R139, R140). -/
theorem stageOneTag_of_agreeing {p : Port} {j : TeardownJob} {x : TeardownRun} {t : Tag} {w : WaitRecord}
    {r : ObjectRecord} (hw : x.state.waiterOf p t = some w) (ho : x.state.object w.target.slot = some r)
    (hc : r.check = .agrees) (hl : w.list = .object w.target.slot ∨ w.list = .pool) {heads : List SlotNo}
    (hh : (∃ i, x.state.isStrictHead w i ∧ heads = i :: x.heads) ∨
      (∀ i, ¬ x.state.isStrictHead w i) ∧ heads = x.heads) :
    (j.cause = .closed → stageOneTag p j x t = { x with
      state := (x.state.without w).complete w.sender w.request.code ⟨.cancelled, Flags.waited, .none⟩
      cancelled := x.cancelled + 1, heads := heads }) ∧
    (j.cause ≠ .closed → stageOneTag p j x t = { x with state := x.state.without w, heads := heads }) := by
  have agree := agrees_of_list ho hc hl
  rw [stageOneTag_of_sound_waiter hw (by rw [State.verify_of_agrees ho hc])]
  refine ⟨fun hj => ?_, fun hj => ?_⟩
  · rw [stageOneRemove_of_close hj, State.strictHead_noted hh, State.dismiss_eq .cancelled agree]
    rfl
  · rw [stageOneRemove_of_abrupt hj, State.strictHead_noted hh, State.removeWaiter_eq_without agree]

/-- Stage 1 for a request taken off the pending list (R139). -/
theorem stageOneTag_of_first {p : Port} {j : TeardownJob} {x : TeardownRun} {t : Tag} {r : PendingRequest}
    {before after : List PendingRequest} (hw : x.state.waiterOf p t = none) (hj : j.taken = before ++ r :: after)
    (ht : r.tag = t) (hb : ∀ e ∈ before, e.tag ≠ t) : stageOneTag p j x t = { x with
      state := x.state.complete ⟨p, t, r.gen⟩ r.request.code ⟨.cancelled, Flags.clear, .none⟩
      cancelled := x.cancelled + 1 } := by
  rw [stageOneTag_of_taken hw (takenFor_of_first hj ht hb), ht]
  rfl

/-- Stage 3 for a scoped object, its record verified first (R10, R14, R142). -/
theorem stageThreeSlot_of_verified {ending : SessionId} {x : TeardownRun} {i : SlotNo} {r : ObjectRecord}
    (ho : x.state.object i = some r) (hs : r.isScoped = true) (hcr : r.creator = ending) {u : State} {due : Bool}
    (hu : u = if r.check = .fails ∧ r.quarantined = false then x.state.quarantine i r else x.state)
    (hd : due = true ↔ x.due = true ∨ u.givesBackEntries i ∨
      r.check = .fails ∧ r.quarantined = false ∧ x.state.promisesEntries i r) :
    (¬ u.givesBackEntries i →
      stageThreeSlot ending x i = { x with state := u.deleted i, deleted := x.deleted + 1, due := due }) ∧
    (u.givesBackEntries i → stageThreeSlot ending x i = { x with
      state := (u.deleted i).poolService, deleted := x.deleted + 1, due := due }) := by
  obtain ⟨state, verified⟩ := State.verify_eq ho
  have dues : (x.due || (x.state.verify i).due || u.deletionDue i) = due := by
    rw [Bool.eq_iff_iff, hd, Bool.or_eq_true, Bool.or_eq_true, verified, State.deletionDue_iff, or_assoc,
      or_comm (a := _ ∧ _)]
  rw [stageThreeSlot_of_scoped ho hs hcr, state, ← hu, dues]
  refine ⟨fun hg => ?_, fun hg => ?_⟩
  · have nothing : u.deletionDue i = false := by rwa [← Bool.not_eq_true, State.deletionDue_iff]
    rw [nothing]
    rfl
  · rw [(State.deletionDue_iff u i).mpr hg]
    rfl

/-- Stage 4 runs pool service exactly when an earlier stage called for it (R142). -/
theorem stageFour_of_due {x : TeardownRun} (hd : x.due = true) : stageFour x = { x with state := x.state.poolService } := by
  unfold stageFour
  rw [hd]
  rfl

theorem stageFour_of_not_due {x : TeardownRun} (hd : x.due = false) : stageFour x = x := by
  have nothing : x.state.poolServiceIf x.due = x.state := by rw [hd]; rfl
  unfold stageFour
  rw [nothing]

/-- Settles O52: the stages are the model's own, and what the state after the job shows is counted and followed slot by
slot through them. -/
theorem teardownCleansUp : Obligations.TeardownCleansUp := by
  refine ⟨fun s p j hm hn => exec_teardown_taken hm hn, fun p j x => ⟨fun t w r hw ho => ⟨?_, ?_⟩, fun t hw => ?_, ?_⟩,
    fun ending x => ⟨fun i r count damaged ho hp hq => ⟨stageTwoSlot_of_failing ho hp hq, fun hc => ⟨?_, ?_⟩⟩,
      fun i h => stageTwoSlot_of_unheld h, rfl⟩,
    fun ending x => ⟨fun i r ho hs hcr u due => stageThreeSlot_of_verified ho hs hcr,
      fun i h => stageThreeSlot_of_unscoped h, rfl, stageFour_of_due, stageFour_of_not_due, rfl, rfl, rfl, rfl⟩,
    fun s p j hm hn => ?_⟩
  · exact fun hc hl heads hh => stageOneTag_of_agreeing hw ho hc hl hh
  · intro hc hq due hd
    have dues : (x.due || x.state.quarantineDue w.target.slot r) = due := by
      rw [Bool.eq_iff_iff, hd, Bool.or_eq_true, State.quarantineDue_iff]
    rw [stageOneTag_of_failing hw ho hc hq, dues]
  · exact ⟨fun before r after hj ht hb => stageOneTag_of_first hw hj ht hb,
      fun h => stageOneTag_of_idle hw (takenFor_eq_none h)⟩
  · rintro y rfl
    rfl
  · intro hw
    rw [stageTwoSlot_of_held ho hp hq hc, abandonLock_of_nobody hw hc]
  · rintro w ws hw u rfl
    rw [stageTwoSlot_of_held ho hp hq hc, abandonLock_of_waiter hw hc]
  · have taken := State.teardown_of_nextJob hn
    have single : s.waitLaw → s.recordsAgree → s.releases p := fun h ha =>
      ((State.waitLaw_iff_sound s).mp h).waitsSingly.releases ha p
    refine ⟨s.afterTeardown p j, exec_teardown_afterTeardown hm hn, s.afterTeardown_teardown p j,
      State.afterTeardown_waits hm hn, fun i r => State.afterTeardown_unscoped, fun i r held damaged ho hc hq hp hns =>
        ⟨fun absent list => ?_, fun law ha => ⟨fun list => ?_, ?_⟩⟩, fun hj => ?_, fun k g hj hs hc => ?_⟩
    · rw [State.afterTeardown_lock (State.releases_of_absent absent) ho hc hq hp hns, list]
      rfl
    · rw [State.afterTeardown_lock (single law ha) ho hc hq hp hns, list]
      rfl
    · rintro w ws list count rfl
      rw [State.afterTeardown_lock (single law ha) ho hc hq hp hns, list]
      rfl
    · exact ⟨State.afterTeardown_session_of_abrupt hj, State.afterTeardown_tag_of_abrupt hj,
        fun law => State.afterTeardown_queue_of_abrupt hm hn law hj,
        fun h => State.mem_afterTeardown_alerts (.inl ⟨h, rfl⟩),
        fun h => State.mem_afterTeardown_alerts (.inr (.inl ⟨h, rfl⟩)),
        fun h => State.mem_afterTeardown_alerts (.inr (.inr ⟨h, rfl⟩))⟩
    · obtain ⟨before, f, queue, tag, purpose, code, gen, status, flags, data⟩ :=
        State.afterTeardown_queue_of_close hj hs hc
      exact ⟨State.afterTeardown_session_of_close (by rw [hj]; nofun), before, f, _, _, _, queue, tag, purpose, code,
        gen, status, flags, data, teardownRun_deleted_takeTeardown, fun law ha =>
          ⟨teardownRun_cancelled_takeTeardown law (single law ha) taken (law.cause_of_closing taken hj),
            teardownRun_locks_takeTeardown (single law ha) ha⟩⟩

end Sys2Proof.Machine
end

section
/-! PROOFS. The frame check (O20): a run of it is linear and loses nothing, so that it ends at 0 exactly behind its own
two bytes. -/

namespace Sys2Proof.Machine

/-! ### Bits of the check computation (R150) -/

theorem crcBit_xor (a b : Half) : crcBit (a ^^^ b) = crcBit a ^^^ crcBit b := by
  unfold crcBit
  rw [BitVec.msb_xor, BitVec.shiftLeft_xor_distrib]
  cases a.msb <;> cases b.msb
  · rfl
  · exact BitVec.xor_assoc _ _ _
  · show a <<< 1 ^^^ b <<< 1 ^^^ 0x1021#16 = (a <<< 1 ^^^ 0x1021#16) ^^^ b <<< 1
    rw [BitVec.xor_assoc, BitVec.xor_comm (b <<< 1), BitVec.xor_assoc]
  · show a <<< 1 ^^^ b <<< 1 = (a <<< 1 ^^^ 0x1021#16) ^^^ (b <<< 1 ^^^ 0x1021#16)
    rw [BitVec.xor_comm (b <<< 1), ← BitVec.xor_assoc, BitVec.xor_assoc (a <<< 1) 0x1021#16, BitVec.xor_self,
      BitVec.xor_zero]

/-- Where no 1 leaves, a bit of the computation is a shift. -/
theorem crcBit_of_lt {c : Half} (h : c.toNat < 2 ^ 15) : crcBit c = c <<< 1 := by
  unfold crcBit
  rw [BitVec.msb_eq_decide, decide_eq_false (by omega)]
  rfl

/-- The divisor is odd, so that a 1 that leaves sets bit 0, which a shift alone leaves clear. -/
theorem crcBit_eq_zero {c : Half} (h : crcBit c = 0#16) : c = 0#16 := by
  by_cases hc : c.toNat < 2 ^ 15
  · rw [crcBit_of_lt hc] at h
    bv_omega
  · have divided : crcBit c = c <<< 1 ^^^ 0x1021#16 := by
      unfold crcBit
      rw [BitVec.msb_eq_decide, decide_eq_true (by omega)]
      rfl
    have odd : (crcBit c).getLsbD 0 = true := by
      rw [divided]
      simp
    rw [h] at odd
    cases odd

theorem crcBits_xor (n : Nat) (a b : Half) : crcBits n (a ^^^ b) = crcBits n a ^^^ crcBits n b := by
  induction n generalizing a b with
  | zero => rfl
  | succ n ih =>
    show crcBits n (crcBit (a ^^^ b)) = _
    rw [crcBit_xor, ih]
    rfl

theorem crcBits_of_lt {n : Nat} {c : Half} (h : c.toNat * 2 ^ n < 2 ^ 16) : crcBits n c = c <<< n := by
  induction n generalizing c with
  | zero => simp [crcBits]
  | succ n ih =>
    have hc : c.toNat < 2 ^ 15 := by
      have least : c.toNat * 2 ≤ c.toNat * 2 ^ (n + 1) :=
        Nat.mul_le_mul_left _ (Nat.le_self_pow n.succ_ne_zero 2)
      omega
    have shifted : (c <<< 1).toNat = c.toNat * 2 := by
      rw [BitVec.toNat_shiftLeft, Nat.shiftLeft_eq]
      omega
    show crcBits n (crcBit c) = _
    rw [crcBit_of_lt hc, ih (by rw [shifted, Nat.mul_assoc, ← Nat.pow_succ']; exact h), ← BitVec.shiftLeft_add,
      Nat.add_comm]

theorem crcBits_zero (n : Nat) : crcBits n 0#16 = 0#16 := by
  rw [crcBits_of_lt (by simp)]
  simp

theorem crcBits_eq_zero {n : Nat} {c : Half} (h : crcBits n c = 0#16) : c = 0#16 := by
  induction n generalizing c with
  | zero => exact h
  | succ n ih => exact crcBit_eq_zero (ih h)

theorem crcBits_add (m n : Nat) (c : Half) : crcBits (m + n) c = crcBits n (crcBits m c) := by
  induction m generalizing c with
  | zero => rw [Nat.zero_add]; rfl
  | succ m ih => rw [Nat.succ_add]; exact ih _

/-! ### Two bytes of the check computation -/

/-- The two bytes of a 16-bit value make it up again. -/
theorem append_halfBytes (x : Half) : x.extractLsb' 8 8 ++ x.extractLsb' 0 8 = x :=
  (BitVec.extractLsb'_append_extractLsb'_eq_extractLsb' rfl).trans BitVec.extractLsb'_eq_self

/-- Two bytes are the bytes of a 16-bit value exactly when together they are that value. -/
theorem halfBytes_eq_iff (x : Half) (c b : Byte) : halfBytes x = [c, b] ↔ (c ++ b : Half) = x := by
  constructor
  · intro h
    obtain ⟨rfl, rfl⟩ := by simpa [halfBytes] using h
    exact append_halfBytes x
  · rintro rfl
    exact congrArg₂ (fun x y => [x, y]) BitVec.extractLsb'_append_eq_left BitVec.extractLsb'_append_eq_right

/-- In eight bits of the computation a low byte shifts up to the high one, and no 1 leaves. -/
theorem append_zero_eq_crcBits (b : Byte) : b ++ 0#8 = crcBits 8 (b.setWidth 16) := by
  have hb := b.isLt
  rw [crcBits_of_lt (by rw [BitVec.toNat_setWidth]; omega)]
  apply BitVec.eq_of_toNat_eq
  rw [BitVec.toNat_append, BitVec.toNat_shiftLeft, BitVec.toNat_setWidth]
  simp
  omega

/-- Two bytes of the computation are sixteen bits of it, on the two bytes together. -/
theorem crcRun_halfBytes (c x : Half) : crcRun c (halfBytes x) = crcBits 16 (c ^^^ x) := by
  have low : (x.extractLsb' 0 8).setWidth 16 = 0#8 ++ x.extractLsb' 0 8 := BitVec.setWidth_eq_append (by decide)
  have parts : (x.extractLsb' 8 8 ++ 0#8) ^^^ (x.extractLsb' 0 8).setWidth 16 = x := by
    rw [low]
    exact BitVec.xor_append.trans (by rw [BitVec.xor_zero, BitVec.zero_xor, append_halfBytes])
  show crcBits 8 (crcBits 8 (c ^^^ (x.extractLsb' 8 8 ++ 0#8)) ^^^ (x.extractLsb' 0 8 ++ 0#8)) = _
  rw [append_zero_eq_crcBits (x.extractLsb' 0 8), ← crcBits_xor, ← crcBits_add, BitVec.xor_assoc, parts]

theorem crcRun_append (c : Half) (xs ys : List Byte) : crcRun c (xs ++ ys) = crcRun (crcRun c xs) ys :=
  List.foldl_append

/-- Settles O20: sixteen bits of the computation give 0 exactly for 0, and two bytes are added to what was there. -/
theorem frameCheckLeavesZero : Obligations.FrameCheckLeavesZero := by
  refine ⟨fun bytes => ?_, fun bytes c h => ?_, by decide +kernel, by decide +kernel⟩
  · rw [crcRun_append, crcRun_halfBytes]
    show crcBits 16 (frameCheck bytes ^^^ frameCheck bytes) = _
    rw [BitVec.xor_self, crcBits_zero]
  · rw [crcRun_append, crcRun_halfBytes] at h
    exact (BitVec.xor_eq_zero_iff.mp (crcBits_eq_zero h)).symm

end Sys2Proof.Machine
end

section
/-! PROOFS. The link receiver: what each byte does to it by its receive state (O15), the second check byte of a frame
(O16), and a whole frame byte by byte (O21). -/

namespace Sys2Proof.Machine

/-! ### A receiver and the counts of its port (R151, R158) -/

@[simp] theorem State.setPort_withRx (s : State) (p : Port) (rx : Receiver) :
    s.setPort p ((s.port p).withRx rx) = s.receives p rx := rfl

@[simp] theorem State.receives_port (s : State) (p : Port) (rx : Receiver) :
    (s.receives p rx).port p = (s.port p).withRx rx := s.port_setPort_same p _

@[simp] theorem State.setPort_receives (s : State) (p : Port) (rx : Receiver) (x : PortState) :
    (s.receives p rx).setPort p x = s.setPort p x := s.setPort_setPort p _ x

@[simp] theorem State.receives_gapTimer (s : State) (p : Port) (rx : Receiver) :
    (s.receives p rx).gapTimer = s.gapTimer := rfl

@[simp] theorem PortState.withRx_rx (x : PortState) (rx : Receiver) : (x.withRx rx).rx = rx := rfl

@[simp] theorem PortState.withRx_withRx (x : PortState) (rx rx' : Receiver) :
    (x.withRx rx).withRx rx' = x.withRx rx' := rfl

@[simp] theorem State.receives_receives (s : State) (p : Port) (rx rx' : Receiver) :
    (s.receives p rx).receives p rx' = s.receives p rx' := by
  rw [← State.setPort_withRx (s.receives p rx), State.receives_port, State.setPort_receives]
  rfl

/-- A receiver replaced and an event counted, in one port. -/
@[simp] theorem State.setPort_withRx_counting (s : State) (p : Port) (rx : Receiver) (f : Statistics → Statistics) :
    s.setPort p (((s.port p).withRx rx).counting f) = (s.receives p rx).counts p f := by
  show _ = (s.receives p rx).setPort p (((s.receives p rx).port p).counting f)
  rw [State.receives_port, State.setPort_receives]

/-! ### Characters (R148) -/

theorem exec_characterReceived {s : State} (hm : s.resetn = .mark) (p : Port) (b : Byte) :
    exec (.characterReceived p b) s = .next (receiveCharacter p b s) := perform_running _ hm

theorem exec_frameReceived {s : State} (hm : s.resetn = .mark) (p : Port) (b : Byte) :
    exec (.frameReceived p b) s = .next (receiveLastByte p b s) := perform_running _ hm

/-- A receiver as the stop bit of a character leaves it, looking for a start bit again. -/
def Receiver.atRest (rx : Receiver) : Receiver := { rx with phase := .waiting }

/-- With the input at mark and no framing fault the byte is taken (R148). -/
theorem receiveCharacter_of_mark {s : State} {p : Port} (hd : (s.port p).rxd = .mark)
    (hp : (s.port p).rx.phase ≠ .awaitingMark) (b : Byte) :
    receiveCharacter p b s = takeByte p b (s.receives p (s.port p).rx.atRest) := by
  unfold receiveCharacter
  cases h : (s.port p).rx.phase with
  | awaitingMark => exact absurd h hp
  | waiting | inCharacter =>
    rw [hd]
    rfl

/-- A character in progress with the input at space has a framing fault (R148). -/
theorem receiveCharacter_of_space {s : State} {p : Port} (hd : (s.port p).rxd = .space)
    (hp : (s.port p).rx.phase = .inCharacter) (b : Byte) :
    receiveCharacter p b s = s.receives p { (s.port p).rx with phase := .awaitingMark } := by
  unfold receiveCharacter
  rw [hd, hp]
  rfl

/-- A receiver that a framing fault holds takes no byte (R148). -/
theorem receiveCharacter_of_awaitingMark {s : State} {p : Port} (hp : (s.port p).rx.phase = .awaitingMark) (b : Byte) :
    receiveCharacter p b s = s := by
  unfold receiveCharacter
  rw [hp]

/-- With the input at space and no character in progress no byte is taken (R148). -/
theorem receiveCharacter_of_idle {s : State} {p : Port} (hd : (s.port p).rxd = .space)
    (hp : (s.port p).rx.phase = .waiting) (b : Byte) : receiveCharacter p b s = s := by
  unfold receiveCharacter
  rw [hd, hp]

/-- Where no byte is taken, no second check byte is taken either. -/
theorem receiveLastByte_of_receiveCharacter {s : State} {p : Port} {b : Byte} (h : receiveCharacter p b s = s) :
    receiveLastByte p b s = s := by
  unfold receiveLastByte
  rw [h, ite_self]

/-! ### A byte by receive state (R152) -/

section

variable (s : State) (p : Port) {rx : Receiver}

/-- The start byte begins a frame (R152). -/
theorem Receiver.hunt_startByte (rx : Receiver) (gap : Timer) :
    rx.hunt gap 0x5A#8 = { rx with state := .length, partialFrame := [], gapTimer := gap } := if_pos rfl

/-- A byte other than the start byte is ignored in HUNT (R152). -/
theorem Receiver.hunt_other {b : Byte} (h : b ≠ 0x5A#8) (rx : Receiver) (gap : Timer) : rx.hunt gap b = rx := if_neg h

theorem takeByte_hunt (h : rx.state = .hunt) (b : Byte) :
    takeByte p b (s.receives p rx) = s.receives p (rx.hunt s.gapTimer b) := by
  simp [takeByte, h]

/-- A length byte in 2 to 64 is kept (R149). -/
theorem takeByte_length {b : Byte} (h : rx.state = .length) (hb : 2 ≤ b.toNat ∧ b.toNat ≤ 64) :
    takeByte p b (s.receives p rx) = s.receives p (rx.takeLength s.gapTimer b) := by
  have range : lengthInRange b = true := by simpa [lengthInRange] using hb
  simp [takeByte, h, range]

/-- A length byte out of range is counted, and is then examined as a byte in HUNT (R152). -/
theorem takeByte_length_error {b : Byte} (h : rx.state = .length) (hb : ¬ (2 ≤ b.toNat ∧ b.toNat ≤ 64)) :
    takeByte p b (s.receives p rx) = (s.receives p (rx.toHunt.hunt s.gapTimer b)).counts p countLengthError := by
  have range : lengthInRange b = false := by simpa [lengthInRange] using hb
  simp [takeByte, h, range]

theorem takeByte_body (h : rx.state = .body) (b : Byte) :
    takeByte p b (s.receives p rx) = s.receives p (rx.takeBody s.gapTimer b) := by
  simp [takeByte, h]

/-- The first check byte: the length byte and the body alone are kept before it (R152). -/
theorem takeByte_check {l : Byte} {body : List Byte} (h : rx.state = .check) (hk : rx.partialFrame = l :: body)
    (hl : body.length = l.toNat) (b : Byte) :
    takeByte p b (s.receives p rx) =
      s.receives p { rx with partialFrame := rx.partialFrame ++ [b], gapTimer := s.gapTimer } := by
  have first : rx.awaitsLast = false := by simp [Receiver.awaitsLast, Receiver.frameLength, hk, hl]
  simp [takeByte, h, first]

end

/-- Settles O15: the receive state decides what a byte taken does, and the level and phase whether one is taken. -/
theorem characterIsCollected : Obligations.CharacterIsCollected := by
  rintro s p b rx hm rfl
  rw [exec_characterReceived hm, exec_frameReceived hm]
  refine ⟨fun hd hp => ?_, fun hd hp => ?_, fun hp => ?_, fun hd hp => ?_⟩
  · rw [receiveCharacter_of_mark hd hp]
    refine ⟨fun h => ⟨fun hb => ?_, fun hb => ?_⟩, fun h => ⟨fun hb => ?_, fun hb => ?_, fun hb hne => ?_⟩, fun h => ?_,
      fun l body h hk hl => ?_⟩
    · rw [takeByte_hunt s p (rx := (s.port p).rx.atRest) h, hb, Receiver.hunt_startByte]
      rfl
    · rw [takeByte_hunt s p (rx := (s.port p).rx.atRest) h, Receiver.hunt_other hb]
      rfl
    · rw [takeByte_length s p (rx := (s.port p).rx.atRest) h hb]
      rfl
    · rw [takeByte_length_error s p (rx := (s.port p).rx.atRest) h (by rw [hb]; decide), hb, Receiver.hunt_startByte]
      rfl
    · rw [takeByte_length_error s p (rx := (s.port p).rx.atRest) h hb, Receiver.hunt_other hne]
      rfl
    · rw [takeByte_body s p (rx := (s.port p).rx.atRest) h]
      simp only [Receiver.takeBody, Nat.sub_eq_zero_iff_le]
      rfl
    · rw [takeByte_check s p (rx := (s.port p).rx.atRest) h hk hl]
      rfl
  · rw [receiveCharacter_of_space hd hp]
  · have still := receiveCharacter_of_awaitingMark hp b
    rw [still, receiveLastByte_of_receiveCharacter still]
    exact ⟨rfl, rfl⟩
  · have still := receiveCharacter_of_idle hd hp b
    rw [still, receiveLastByte_of_receiveCharacter still]
    exact ⟨rfl, rfl⟩

/-! ### The second check byte (R150, R153) -/

section

variable (s : State) (p : Port) {rx : Receiver} {l c : Byte} {body : List Byte}

theorem Receiver.awaitsLast_of_check (h : rx.state = .check) (hk : rx.partialFrame = l :: (body ++ [c]))
    (hl : body.length = l.toNat) : rx.awaitsLast = true := by
  simp [Receiver.awaitsLast, Receiver.frameLength, h, hk, hl]

/-- The second check byte is tested over the length byte and body, and hands the body of a good frame over (R153). -/
theorem takeByte_last (h : rx.state = .check) (hk : rx.partialFrame = l :: (body ++ [c]))
    (hl : body.length = l.toNat) (b : Byte) :
    takeByte p b (s.receives p rx) =
      if (c ++ b : Half) = frameCheck (l :: body) then
        decodeFrame p body ((s.receives p rx.toHunt).counts p countFrameAccepted)
      else (s.receives p rx.toHunt).counts p countCheckError := by
  have kept : rx.partialFrame ++ [b] = (l :: body) ++ [c, b] := by simp [hk]
  have long : rx.frameLength = (l :: body).length := by simp [Receiver.frameLength, hk, hl]
  have last : takeByte p b (s.receives p rx) = takeLastByte p b (s.receives p rx) := by
    simp [takeByte, h, Receiver.awaitsLast_of_check h hk hl]
  rw [last]
  unfold takeLastByte
  simp only [State.receives_port, PortState.withRx_rx, PortState.withRx_withRx, State.setPort_receives,
    State.setPort_withRx_counting, kept, long, List.take_left, List.drop_left, List.drop_one, List.tail_cons,
    halfBytes_eq_iff]

end

/-- A body that spells a request goes to checks 2 and 3 (R108, R110). -/
theorem decodeFrame_request {body : List Byte} {t : Tag} {g : Gen} {r : Request}
    (h : decodeBody body = .request t g r) (p : Port) (s : State) :
    decodeFrame p body s = decodeRequest ⟨p, t, g⟩ r s := by
  unfold decodeFrame
  rw [h]

/-- Settles O16: the receiver awaits the second check byte, so both commands take it, and the test decides. -/
theorem lastCheckByteEndsFrame : Obligations.LastCheckByteEndsFrame := by
  refine ⟨fun s p body t g r h => decodeFrame_request h p s, ?_⟩
  rintro s p b l c body hm hd hp h hk hl u rfl
  have last : receiveLastByte p b s = receiveCharacter p b s :=
    if_pos (Receiver.awaitsLast_of_check h hk hl)
  rw [exec_frameReceived hm, exec_characterReceived hm, last, receiveCharacter_of_mark hd hp,
    takeByte_last s p (rx := (s.port p).rx.atRest) h hk hl]
  refine ⟨rfl, fun good => ?_, fun bad => ?_⟩
  · rw [if_pos good]
    rfl
  · rw [if_neg bad]
    rfl

/-! ### A whole frame (R149 to R153) -/

theorem receiveAll_of_next {s t : State} {p : Port} {b : Byte} (h : exec (.characterReceived p b) s = .next t)
    (bs : List Byte) : receiveAll p (b :: bs) s = receiveAll p bs t := by
  rw [receiveAll, h]

/-- One byte of a frame, received with the input at mark. -/
theorem receiveAll_receives {s : State} {p : Port} (hm : s.resetn = .mark) (hd : (s.port p).rxd = .mark) {rx : Receiver}
    (hp : rx.phase = .waiting) (b : Byte) (bs : List Byte) :
    receiveAll p (b :: bs) (s.receives p rx) = receiveAll p bs (takeByte p b (s.receives p rx)) := by
  have port := s.receives_port p rx
  have rest : rx.atRest = rx := by
    cases rx
    cases hp
    rfl
  refine receiveAll_of_next ?_ bs
  rw [exec_characterReceived (s := s.receives p rx) hm, receiveCharacter_of_mark (by rw [port]; exact hd)
    (by rw [port, PortState.withRx_rx, hp]; nofun), State.receives_receives, port, PortState.withRx_rx, rest]

/-- A receiver in the middle of a frame: the bytes kept, and how many body bytes are still to come (R151). -/
def Receiver.collecting (rx : Receiver) (gap : Timer) (kept : List Byte) (left : Nat) : Receiver :=
  { rx with
    state := if left = 0 then .check else .body
    partialFrame := kept, bodyCount := left, gapTimer := gap, phase := .waiting }

/-- A length byte in range leads into the body (R152). -/
theorem Receiver.takeLength_eq_collecting {rx : Receiver} {l : Byte} (hl : 2 ≤ l.toNat) (hp : rx.phase = .waiting)
    (gap : Timer) : rx.takeLength gap l = rx.collecting gap [l] l.toNat := by
  unfold Receiver.takeLength Receiver.collecting
  rw [if_neg (by omega), hp]

/-- Body bytes are kept one after another, until none is still to come (R152). -/
theorem receiveAll_body {s : State} {p : Port} (hm : s.resetn = .mark) (hd : (s.port p).rxd = .mark) (rx : Receiver)
    (kept body rest : List Byte) :
    receiveAll p (body ++ rest) (s.receives p (rx.collecting s.gapTimer kept body.length)) =
      receiveAll p rest (s.receives p (rx.collecting s.gapTimer (kept ++ body) 0)) := by
  induction body generalizing kept with
  | nil => rw [List.append_nil]; rfl
  | cons b body ih =>
    have taken : (rx.collecting s.gapTimer kept (b :: body).length).takeBody s.gapTimer b =
        rx.collecting s.gapTimer (kept ++ [b]) body.length := rfl
    rw [List.cons_append, receiveAll_receives hm hd rfl, takeByte_body s p rfl, taken, ih, List.append_assoc]
    rfl

/-- The two check bytes behind a body whose check they are (R153). -/
theorem receiveAll_check {s : State} {p : Port} (hm : s.resetn = .mark) (hd : (s.port p).rxd = .mark) (rx : Receiver)
    {l : Byte} {body : List Byte} (hl : body.length = l.toNat) :
    receiveAll p (halfBytes (frameCheck (l :: body))) (s.receives p (rx.collecting s.gapTimer (l :: body) 0)) =
      .next (decodeFrame p body ((s.receives p
        { rx with state := .hunt, partialFrame := [], bodyCount := 0, gapTimer := .stopped, phase := .waiting }).counts p
          countFrameAccepted)) := by
  have good := (halfBytes_eq_iff (frameCheck (l :: body)) _ _).mp rfl
  unfold halfBytes
  rw [receiveAll_receives hm hd rfl, takeByte_check s p rfl rfl hl, receiveAll_receives hm hd rfl,
    takeByte_last s p rfl rfl hl, if_pos good]
  rfl

/-- Settles O21: the start byte and the length byte lead into the body, and the check bytes behind it are its own. -/
theorem frameIsCollectedWhole : Obligations.FrameIsCollectedWhole := by
  intro s p body hm hd hs hp hmin hmax
  have length : (lengthByte body).toNat = body.length := by
    unfold lengthByte
    rw [BitVec.toNat_ofNat]
    omega
  have frame : frameBytes body = 0x5A#8 :: lengthByte body :: (body ++
      halfBytes (frameCheck (lengthByte body :: body))) := rfl
  have start : exec (.characterReceived p 0x5A#8) s = _ := exec_characterReceived hm p _
  rw [receiveCharacter_of_mark hd hp, takeByte_hunt s p (rx := (s.port p).rx.atRest) hs,
    Receiver.hunt_startByte] at start
  rw [frame, receiveAll_of_next start, receiveAll_receives hm hd rfl, takeByte_length s p rfl (by omega),
    Receiver.takeLength_eq_collecting (by omega) rfl, length, receiveAll_body hm hd, List.singleton_append,
    receiveAll_check hm hd _ length.symm]
  rfl

end Sys2Proof.Machine
end

section
/-! PROOFS. The timers and levels of a link (O17): the gap timer, a change of the input's level, and the break. -/

namespace Sys2Proof.Machine

/-! ### The gap timer (R154) -/

theorem gapExpires_of_expired {s : State} {p : Port} (h : (s.port p).rx.gapTimer.expired s.timebase = true) :
    gapExpires p s = (s.receives p (s.port p).rx.toHunt).counts p countGapError :=
  (if_pos h).trans (s.setPort_withRx_counting p _ _)

theorem gapExpires_of_unexpired {s : State} {p : Port} (h : ¬ (s.port p).rx.gapTimer.expired s.timebase = true) :
    gapExpires p s = s := if_neg h

/-! ### The level of the input (R148, R155, R160) -/

/-- A change to space begins a character where none was in progress (R148). -/
theorem Receiver.toSpace_eq (now : Word) (x : Receiver) : x.toSpace now =
    { x with breakDetector := .measuring now, phase := if x.phase = .waiting then .inCharacter else x.phase } := by
  unfold Receiver.toSpace
  cases x.phase <;> rfl

/-- A return to mark releases a receiver that a framing fault holds (R148). -/
theorem Receiver.toMark_eq (x : Receiver) : x.toMark =
    { x with breakDetector := .atMark, phase := if x.phase = .awaitingMark then .waiting else x.phase } := by
  unfold Receiver.toMark
  cases x.phase <;> rfl

theorem Receiver.reset_eq (level : Level) : Receiver.reset level =
    ⟨.hunt, [], 0, .stopped, if level = .mark then .atMark else .measuring 0#32, .waiting⟩ := by
  cases level <;> rfl

section

variable {s : State} {p : Port}

/-- A level that is already there is no change. -/
theorem changeLevel_same {level : Level} (h : (s.port p).rxd = level) : changeLevel p level s = s := if_pos h

/-- While RESETN is low the pin changes and the receiver stays in its reset state (R160; log 14). -/
theorem changeLevel_held {level : Level} (hr : s.resetn = .space) (h : (s.port p).rxd ≠ level) :
    changeLevel p level s = s.setPort p { s.port p with rxd := level, rx := Receiver.reset level } := by
  unfold changeLevel
  rw [if_neg h, hr]

theorem changeLevel_toSpace (hm : s.resetn = .mark) (h : (s.port p).rxd = .mark) :
    changeLevel p .space s = s.setPort p { s.port p with rxd := .space, rx := (s.port p).rx.toSpace s.timebase } := by
  unfold changeLevel
  rw [if_neg (by rw [h]; nofun), hm]
  rfl

theorem changeLevel_toMark (hm : s.resetn = .mark) (h : (s.port p).rxd = .space) :
    changeLevel p .mark s = s.setPort p { s.port p with rxd := .mark, rx := (s.port p).rx.toMark } := by
  unfold changeLevel
  rw [if_neg (by rw [h]; nofun), hm]
  rfl

/-! ### The break (R135, R155) -/

/-- A break gives up the frame in progress, whose gap error it counts first, and is counted itself (log 28). -/
theorem PortState.countedBreak_eq (x : PortState) : x.countedBreak =
    { x with
      rx := { x.rx with
        state := .hunt, partialFrame := [], bodyCount := 0, gapTimer := .stopped, breakDetector := .reported }
      stats := { x.stats with
        gapErrors := if x.rx.gapTimer = .stopped then x.stats.gapErrors else raise x.stats.gapErrors
        breaks := raise x.stats.breaks } } := by
  unfold PortState.countedBreak PortState.beforeBreak
  cases x.rx.gapTimer <;> rfl

theorem BreakDetector.due_measuring (since now : Word) :
    (BreakDetector.measuring since).due now = true ↔ (now - (since + 2#32)).toNat ≤ 2147483647 := reached_iff _ _

theorem reportBreak_of_not_due (h : ¬ (s.port p).rx.breakDetector.due s.timebase = true) : reportBreak p s = s :=
  if_neg h

/-- A break with no session OPEN is counted, and nothing further happens (R155). -/
theorem reportBreak_of_not_opened (h : (s.port p).rx.breakDetector.due s.timebase = true)
    (ho : (s.port p).session.state ≠ .opened) : reportBreak p s = s.setPort p (s.port p).countedBreak :=
  (if_pos h).trans (if_neg ho)

/-- A break ends an OPEN session with cause BROKEN (R135). -/
theorem reportBreak_of_opened (h : (s.port p).rx.breakDetector.due s.timebase = true)
    (ho : (s.port p).session.state = .opened) :
    reportBreak p s = (s.setPort p (s.port p).countedBreak).endAbruptly .broken p := (if_pos h).trans (if_pos ho)

end

/-- Settles O17: the gap timer and the break detector act from their times on, and a level acts where it changes. -/
theorem gapErrorsLevelsAndBreaks : Obligations.GapErrorsLevelsAndBreaks := by
  refine ⟨fun s p hm => ?_, fun s p level hr => ⟨fun h => ?_, fun h => ?_⟩, fun s p hm => ?_⟩
  · have gap : exec (.gapError p) s = .next (gapExpires p s) := perform_running _ hm
    rw [gap]
    refine ⟨fun e he => ⟨fun due => ?_, fun early => ?_⟩, fun stopped => ?_, fun hd => ?_, fun hd => ?_, ?_⟩
    · rw [gapExpires_of_expired (by rw [he]; exact (reached_iff _ _).mpr due)]
      rfl
    · rw [gapExpires_of_unexpired]
      rw [he]
      exact fun h => absurd ((reached_iff _ _).mp h) (by omega)
    · rw [gapExpires_of_unexpired]
      rw [stopped]
      nofun
    · rw [← Receiver.toSpace_eq]
      exact congrArg _ (changeLevel_toSpace hm hd)
    · rw [← Receiver.toMark_eq]
      exact congrArg _ (changeLevel_toMark hm hd)
    · exact congrArg _ (changeLevel_same rfl)
  · exact congrArg _ (changeLevel_same h)
  · rw [← Receiver.reset_eq]
    exact congrArg _ (changeLevel_held hr h)
  · have reported : exec (.lineBreak p) s = .next (reportBreak p s) := perform_running _ hm
    rw [reported]
    refine ⟨fun since hb => ⟨fun due x hx => ?_, fun early => ?_⟩, fun hb => ?_, fun hb => ?_⟩
    · rw [← PortState.countedBreak_eq] at hx
      subst hx
      have ready : (s.port p).rx.breakDetector.due s.timebase = true := by
        rw [hb]
        exact (BreakDetector.due_measuring _ _).mpr due
      have ended := (s.setPort p (s.port p).countedBreak).endAbruptly_eq .broken p
      rw [State.port_setPort_same, State.setPort_setPort] at ended
      refine ⟨fun ho => congrArg _ (reportBreak_of_not_opened ready ho), fun ho plain => ?_, fun ho reset => ?_⟩
      · rw [reportBreak_of_opened ready ho, ended.1 plain]
      · rw [reportBreak_of_opened ready ho, ended.2 reset]
    · rw [reportBreak_of_not_due]
      rw [hb, BreakDetector.due_measuring]
      omega
    · rw [reportBreak_of_not_due]
      rw [hb]
      nofun
    · rw [reportBreak_of_not_due]
      rw [hb]
      nofun

end Sys2Proof.Machine
end

section
/-! PROOFS. The resets (O4), and every command as a whole: it answers a next state, leaves the queue of commands alone,
and does nothing while RESETN is low (O2). -/

namespace Sys2Proof.Machine

/-! ### The resets (R147, R160, R176) -/

/-- Settles O4: each reset is `resetPart` on the levels it samples, and the line rate changes with a reset alone. -/
theorem resetsRestoreResetValues : Obligations.ResetsRestoreResetValues := by
  refine ⟨fun level straps s => ?_, fun straps s => rfl, fun s => ⟨s.resetPart_hasResetValues, rfl, fun level => ?_⟩⟩
  · have driven : ∀ p : Port, (({ s with resetn := level, straps := straps } : State).resetPart.port p).rxd =
        (s.port p).rxd := fun p => by
      rw [State.resetPart_port]
      rfl
    refine ⟨_, rfl, State.resetPart_hasResetValues _, rfl, rfl, rfl, driven, ?_, ?_, ?_, ?_⟩ <;>
      · rintro rfl
        rfl
  · exact ⟨rfl, rfl⟩

/-! ### The queue of commands under the shared operations -/

theorem State.ReplacesPort.pending {s t : State} {p : Port} (h : s.ReplacesPort p t) : t.pending = s.pending := by
  obtain ⟨x, rfl⟩ := h
  rfl

theorem State.Confined.pending {s t : State} {i : SlotNo} (h : s.Confined i t) : t.pending = s.pending :=
  h.reads State.pending rfl

@[simp] theorem State.resetPart_pending (s : State) : s.resetPart.pending = s.pending := rfl

@[simp] theorem State.endAbruptly_pending (s : State) (cause : EndCause) (p : Port) :
    (s.endAbruptly cause p).pending = s.pending := by
  unfold State.endAbruptly
  dsimp only
  split <;> rfl

@[simp] theorem State.verify_pending (s : State) (i : SlotNo) : (s.verify i).state.pending = s.pending := by
  unfold State.verify
  split
  · split
    · exact s.quarantine_pending i _
    · rfl
  · rfl

@[simp] theorem abandonLock_pending (i : SlotNo) (r : ObjectRecord) (s : State) :
    (abandonLock i r s).pending = s.pending := by
  unfold abandonLock
  split <;> simp

/-! ### The queue of commands under the jobs on objects -/

/-- A request that names an object is refused, finds a failing record, or is carried out (R9, R10). -/
theorem State.withObject_pending {s : State} {run : ObjectRecord → State} (hrun : ∀ r, (run r).pending = s.pending)
    (q : Sender) (code : RequestCode) (h : Handle) (c : Checks) :
    (s.withObject q code h c run).pending = s.pending := by
  have refused := fun status => s.complete_pending q code (.refuse status)
  unfold State.withObject
  split
  · exact refused _
  · split
    · simp
    · iterate 5 (split; exact refused _)
      exact hrun _

theorem jobCreate_pending (q : Sender) (slot : SlotChoice) (access : Byte) (isScoped : Bool) (kind : KindParams)
    (label : Label) (s : State) : (jobCreate q slot access isScoped kind label s).pending = s.pending := by
  have refused := fun status => s.complete_pending q .create (.refuse status)
  unfold jobCreate
  iterate 2 (split; exact refused _)
  split
  · exact refused _
  · iterate 2 (split; exact refused _)
    exact State.complete_pending _ _ _ _

theorem jobFind_pending (q : Sender) (label : Label) (s : State) : (jobFind q label s).pending = s.pending := by
  unfold jobFind
  split
  · simp
  · split
    · simp
    · split
      · simp
      · split
        · simp
        · split <;> simp

theorem jobCell_pending (q : Sender) (h : Handle) (op : CellOp) (guard : Guard) (wait : Half) (s : State) :
    (jobCell q h op guard wait s).pending = s.pending := by
  refine State.withObject_pending (fun r => ?_) _ _ _ _
  split
  · exact (runCell_confined q h op guard wait s r _ _).pending
  · rfl

theorem jobSetOrder_pending (q : Sender) (h : Handle) (order : Order) (s : State) :
    (jobSetOrder q h order s).pending = s.pending := by
  refine State.withObject_pending (fun r => ?_) _ _ _ _
  split
  · simp
  · rfl

theorem jobAcquire_pending (q : Sender) (h : Handle) (wait : Half) (s : State) :
    (jobAcquire q h wait s).pending = s.pending := by
  refine State.withObject_pending (fun r => ?_) _ _ _ _
  split
  · exact (runAcquire_confined q h wait s r _ _ _).pending
  · rfl

theorem jobRelease_pending (q : Sender) (h : Handle) (s : State) : (jobRelease q h s).pending = s.pending := by
  refine State.withObject_pending (fun r => ?_) _ _ _ _
  split
  · exact (runRelease_confined q h s r _ _ _).pending
  · rfl

theorem jobRestore_pending (q : Sender) (h : Handle) (s : State) : (jobRestore q h s).pending = s.pending := by
  refine State.withObject_pending (fun r => ?_) _ _ _ _
  split
  · exact (runRestore_confined q h s r _ _ _).pending
  · rfl

/-! ### The queue of commands under the jobs on queues -/

theorem waitOrReport_pending (q : Sender) (code : RequestCode) (request : WaitRequest) (h : Handle) (wait : Half)
    (l : WaitList) (status : Status) (depth : Nat) (s : State) :
    (waitOrReport q code request h wait l status depth s).pending = s.pending := by
  unfold waitOrReport
  split <;> simp

theorem runPut_pending (q : Sender) (h : Handle) (side : QueueEnd) (value : Word) (wait : Half) (s : State) :
    (runPut q h side value wait s).pending = s.pending := by
  unfold runPut
  split
  · simp
  · split
    · exact waitOrReport_pending _ _ _ _ _ _ _ _ s
    · split
      · exact waitOrReport_pending _ _ _ _ _ _ _ _ s
      · simp

theorem runTake_pending (q : Sender) (h : Handle) (side : QueueEnd) (wait : Half) (s : State) :
    (runTake q h side wait s).pending = s.pending := by
  unfold runTake
  split
  · simp
  · split
    · simp
    · exact waitOrReport_pending _ _ _ _ _ _ _ _ s

theorem jobPeek_pending (q : Sender) (h : Handle) (index : Half) (s : State) :
    (jobPeek q h index s).pending = s.pending := by
  refine State.withObject_pending (fun r => ?_) _ _ _ _
  split
  · simp
  · rfl

theorem runFlush_pending (q : Sender) (h : Handle) (s : State) : (runFlush q h s).pending = s.pending := by
  unfold runFlush
  split <;> simp

theorem runSetQueueLimits_pending (q : Sender) (h : Handle) (limit reserve : Half) (s : State) :
    (runSetQueueLimits q h limit reserve s).pending = s.pending := by
  have written : (s.withLimits h.slot limit reserve).pending = s.pending := rfl
  unfold runSetQueueLimits
  split
  · simp
  · dsimp only
    split <;> simp [written]

/-! ### The queue of commands under the jobs on waiters and of administration -/

theorem jobCancel_pending (q : Sender) (target : Tag) (s : State) : (jobCancel q target s).pending = s.pending := by
  unfold jobCancel
  split
  · unfold cancelWaiter
    dsimp only
    split <;> simp
  · simp

theorem jobExpiry_pending (q : Sender) (s : State) : (jobExpiry q s).pending = s.pending := by
  unfold jobExpiry
  split
  · split
    · unfold expireWaiter
      dsimp only
      split <;> simp
    · rfl
  · rfl

theorem State.asAdmin_pending {s : State} {run : State} (q : Sender) (code : RequestCode)
    (h : run.pending = s.pending) : (s.asAdmin q code run).pending = s.pending := by
  unfold State.asAdmin
  split
  · exact h
  · simp

theorem State.withPort_pending {s : State} {run : Port → State} (q : Sender) (code : RequestCode) (target : Byte)
    (h : ∀ p, (run p).pending = s.pending) : (s.withPort q code target run).pending = s.pending := by
  unfold State.withPort
  split
  · exact h _
  · simp

theorem clearSlots_pending (s : State) : (clearSlots s).state.pending = s.pending := by
  have cleared : ∀ (x : ClearRun) i, (clearSlot x i).state.pending = x.state.pending := fun x i => by
    unfold clearSlot
    split
    · simp
    · rfl
  unfold clearSlots
  exact foldl_keeps (g := fun x : ClearRun => x.state.pending) cleared allSlots ⟨s, 0, 0⟩

/-- Every job of the store leaves the queue of commands alone. -/
theorem storeJob_pending (q : Sender) (r : Request) (s : State) : (storeJob q r s).pending = s.pending := by
  cases r with
  | create slot access isScoped kind label => exact jobCreate_pending q slot access isScoped kind label s
  | delete h => exact State.withObject_pending (fun _ => by simp) _ _ _ _
  | describe h => exact State.withObject_pending (fun _ => s.complete_pending _ _ _) _ _ _ _
  | find label => exact jobFind_pending q label s
  | setAccess h access => exact State.withObject_pending (fun _ => by simp) _ _ _ _
  | cell h op guard wait => exact jobCell_pending q h op guard wait s
  | setOrder h order => exact jobSetOrder_pending q h order s
  | put h side value wait =>
    exact State.withObject_pending (fun _ => runPut_pending q h side value wait s) _ _ _ _
  | take h side wait => exact State.withObject_pending (fun _ => runTake_pending q h side wait s) _ _ _ _
  | peek h index => exact jobPeek_pending q h index s
  | flush h => exact State.withObject_pending (fun _ => runFlush_pending q h s) _ _ _ _
  | setQueueLimits h limit reserve =>
    exact State.withObject_pending (fun _ => runSetQueueLimits_pending q h limit reserve s) _ _ _ _
  | acquire h wait => exact jobAcquire_pending q h wait s
  | release h => exact jobRelease_pending q h s
  | restore h => exact jobRestore_pending q h s
  | cancel target => exact jobCancel_pending q target s
  | setRights target rights =>
    refine s.asAdmin_pending q _ (s.withPort_pending q _ target fun p => ?_)
    split <;> simp
  | forceClose target =>
    refine s.asAdmin_pending q _ (s.withPort_pending q _ target fun p => ?_)
    split
    · simp
    · split <;> simp
  | storeClear => exact s.asAdmin_pending q _ (by simp [clearSlots_pending])
  | readAlerts => exact s.asAdmin_pending q _ (by simp)
  | stats target clear =>
    refine s.asAdmin_pending q _ (s.withPort_pending q _ target fun p => ?_)
    rw [State.complete_pending]
    split <;> rfl
  | setPoolMark mark =>
    refine s.asAdmin_pending q _ ?_
    split <;> simp
  | partReset => exact s.asAdmin_pending q _ (State.completeFor_pending s _ _ _ _)
  | nop | identify | queryTags | openSession | closeSession => rfl

/-! ### The queue of commands under the teardown job -/

theorem stageOneTag_pending (p : Port) (j : TeardownJob) (x : TeardownRun) (t : Tag) :
    (stageOneTag p j x t).state.pending = x.state.pending := by
  unfold stageOneTag
  split
  · dsimp only
    split
    · simp
    · unfold stageOneRemove
      dsimp only
      split <;> simp
  · split
    · simp
    · rfl

theorem stageOne_pending (p : Port) (j : TeardownJob) (x : TeardownRun) :
    (stageOne p j x).state.pending = x.state.pending :=
  (foldl_keeps State.scan_pending _ _).trans
    (foldl_keeps (g := fun y : TeardownRun => y.state.pending) (stageOneTag_pending p j) allTags x)

theorem stageTwoSlot_pending (ending : SessionId) (x : TeardownRun) (i : SlotNo) :
    (stageTwoSlot ending x i).state.pending = x.state.pending := by
  unfold stageTwoSlot
  split
  · split
    · split
      · split <;> simp
      · rfl
    · rfl
  · rfl

theorem stageThreeSlot_pending (ending : SessionId) (x : TeardownRun) (i : SlotNo) :
    (stageThreeSlot ending x i).state.pending = x.state.pending := by
  unfold stageThreeSlot
  split
  · split
    · simp
    · rfl
  · rfl

theorem stageFour_pending (x : TeardownRun) : (stageFour x).state.pending = x.state.pending :=
  x.state.poolServiceIf_pending _

theorem stageFive_pending (ending : SessionId) (cause : EndCause) (x : TeardownRun) :
    (stageFive ending cause x).state.pending = x.state.pending := by
  cases cause with
  | lapsed | broken | forced => exact x.state.appendAlert_pending _
  | closed | none => rfl

theorem stageSix_pending (p : Port) (j : TeardownJob) (x : TeardownRun) :
    (stageSix p j x).pending = x.state.pending := by
  unfold stageSix
  split
  · simp
  · rfl

theorem jobTeardown_pending (p : Port) (j : TeardownJob) (s : State) : (jobTeardown p j s).pending = s.pending := by
  have one := stageOne_pending p j ⟨s, 0, 0, 0, [], false⟩
  have two := (foldl_keeps (g := fun y : TeardownRun => y.state.pending) (stageTwoSlot_pending ⟨p, j.number⟩)
    allSlots _).trans one
  have three := (foldl_keeps (g := fun y : TeardownRun => y.state.pending) (stageThreeSlot_pending ⟨p, j.number⟩)
    allSlots _).trans two
  have four := (stageFour_pending _).trans three
  exact ((stageSix_pending p j _).trans (stageFive_pending ⟨p, j.number⟩ j.cause _)).trans four

/-! ### The queue of commands under the events -/

theorem runJob_pending {body : State → State} {s : State} (h : (body s).pending = s.pending) :
    (runJob body s).pending = s.pending := (s.endsJob_pending (body s)).trans h

theorem requestJob_pending (q : Sender) (r : Request) (s : State) :
    (requestJob q r (storeJob q r) s).pending = s.pending := by
  unfold requestJob
  split
  · exact runJob_pending (storeJob_pending q r _)
  · rfl

theorem takeExpiryJob_pending (s : State) : (takeExpiryJob s).pending = s.pending := by
  unfold takeExpiryJob
  split
  · exact runJob_pending (jobExpiry_pending _ _)
  · rfl

theorem takeTeardownJob_pending (p : Port) (s : State) : (takeTeardownJob p s).pending = s.pending := by
  unfold takeTeardownJob
  split
  · split
    · exact runJob_pending (jobTeardown_pending p _ _)
    · rfl
  · rfl

theorem lapsePort_pending (p : Port) (s : State) : (lapsePort p s).pending = s.pending := by
  unfold lapsePort
  split
  · simp
  · rfl

theorem reportBreak_pending (p : Port) (s : State) : (reportBreak p s).pending = s.pending := by
  unfold reportBreak
  split
  · dsimp only
    split <;> simp
  · rfl

theorem finishTransmit_pending (p : Port) (s : State) : (finishTransmit p s).pending = s.pending := by
  unfold finishTransmit
  split
  · dsimp only
    split <;> rfl
  · rfl

theorem changePin_pending (pin : InputPin) (level : Level) (s : State) :
    (changePin pin level s).pending = s.pending := by
  cases pin with
  | link p => exact (changeLevel_replacesPort p level s).pending
  | ratesel1 | ratesel0 => rfl

/-! ### The commands -/

/-- The commands that act in reset too: the two resets, and the level of an input (R160; log 14). -/
def actsInReset : Instr → Bool
  | .supplyPowerUp _ _ => true
  | .powerOnReset _ => true
  | .inputLevelChange _ _ => true
  | _ => false

/-- Every other command is an effect that RESETN lets through, and the effect leaves the queue of commands alone. -/
theorem exec_eq_perform {c : Instr} (h : actsInReset c = false) :
    ∃ f, (∀ s, exec c s = perform f s) ∧ ∀ s : State, (f s).pending = s.pending := by
  cases hc : c.request? with
  | some x =>
    obtain ⟨q, r⟩ := x
    cases hr : isStoreJob r with
    | true => exact ⟨_, exec_storeCommand hc hr, requestJob_pending q r⟩
    | false =>
      obtain ⟨f, hf, hp⟩ := exec_portCommand hc hr
      exact ⟨f, hf, fun s => (hp s).pending⟩
  | none =>
    cases c with
    | frameReceived p b => exact ⟨_, fun _ => rfl, fun s => (receiveLastByte_replacesPort p b s).pending⟩
    | gapError p => exact ⟨_, fun _ => rfl, fun s => (gapExpires_replacesPort p s).pending⟩
    | lineBreak p => exact ⟨_, fun _ => rfl, reportBreak_pending p⟩
    | deadlineDue => exact ⟨_, fun _ => rfl, fun _ => rfl⟩
    | expiryJob => exact ⟨_, fun _ => rfl, takeExpiryJob_pending⟩
    | lapse p => exact ⟨_, fun _ => rfl, lapsePort_pending p⟩
    | teardown p => exact ⟨_, fun _ => rfl, takeTeardownJob_pending p⟩
    | transmitStart p => exact ⟨_, fun _ => rfl, fun s => (startTransmit_replacesPort p s).pending⟩
    | frameSent p => exact ⟨_, fun _ => rfl, finishTransmit_pending p⟩
    | characterReceived p b => exact ⟨_, fun _ => rfl, fun s => (receiveCharacter_replacesPort p b s).pending⟩
    | timebaseTick => exact ⟨_, fun _ => rfl, fun _ => rfl⟩
    | supplyPowerUp _ _ | powerOnReset _ | inputLevelChange _ _ => cases h
    | _ => cases hc

/-- Settles O2: a command acts in reset too, or it is an effect that RESETN lets through. -/
theorem everyCommandAnswersNext : Obligations.EveryCommandAnswersNext := by
  constructor
  · intro c s
    cases h : actsInReset c with
    | false =>
      obtain ⟨f, hf, pending⟩ := exec_eq_perform h
      obtain ⟨t, ht, rfl | rfl⟩ := perform_next f s
      · exact ⟨t, (hf t).trans ht, rfl⟩
      · exact ⟨f s, (hf s).trans ht, pending s⟩
    | true =>
      cases c with
      | supplyPowerUp _ _ | powerOnReset _ => exact ⟨_, rfl, rfl⟩
      | inputLevelChange pin level => exact ⟨_, rfl, changePin_pending pin level s⟩
      | _ => cases h
  · intro c s held notPowerUp notReset notLevel
    have h : actsInReset c = false := by
      cases c with
      | supplyPowerUp level straps => exact absurd rfl (notPowerUp level straps)
      | powerOnReset straps => exact absurd rfl (notReset straps)
      | inputLevelChange pin level => exact absurd rfl (notLevel pin level)
      | _ => rfl
    obtain ⟨f, hf, -⟩ := exec_eq_perform h
    rw [hf, perform_held f held]

end Sys2Proof.Machine
end

section
/-! PROOFS. The administrative requests: their refusals (O47), SET_RIGHTS and FORCE_CLOSE (O48), and READ_ALERTS, STATS,
SET_POOL_MARK and PART_RESET (O50). -/

namespace Sys2Proof.Machine

/-! ### The port and the right that an administrative request needs (R163) -/

theorem portOf_eq_some {b : Byte} {p : Port} (h : b.toNat = p.val) : portOf b = some p := by
  unfold portOf
  rw [dif_pos (h ▸ p.isLt)]
  exact congrArg some (Fin.ext h)

theorem portOf_eq_none {b : Byte} (h : 8 ≤ b.toNat) : portOf b = none := dif_neg (Nat.not_lt.mpr h)

theorem State.asAdmin_of_admin {s : State} {q : Sender} (h : (s.rightsOf q.port).admin = true) (code : RequestCode)
    (run : State) : s.asAdmin q code run = run := if_pos h

theorem State.asAdmin_without_admin {s : State} {q : Sender} (h : (s.rightsOf q.port).admin = false)
    (code : RequestCode) (run : State) : s.asAdmin q code run = s.complete q code (.refuse .noRight) :=
  if_neg (by simp [h])

theorem State.withPort_of_port {target : Byte} {p : Port} (h : target.toNat = p.val) (s : State) (q : Sender)
    (code : RequestCode) (run : Port → State) : s.withPort q code target run = run p := by
  unfold State.withPort
  rw [portOf_eq_some h]

theorem State.withPort_out_of_range {target : Byte} (h : 8 ≤ target.toNat) (s : State) (q : Sender)
    (code : RequestCode) (run : Port → State) :
    s.withPort q code target run = s.complete q code (.refuse .range) := by
  unfold State.withPort
  rw [portOf_eq_none h]

/-- The seven requests that need the right ADMIN (R163). -/
def isAdministrative : Request → Bool
  | .setRights _ _ => true
  | .forceClose _ => true
  | .storeClear => true
  | .readAlerts => true
  | .stats _ _ => true
  | .setPoolMark _ => true
  | .partReset => true
  | _ => false

/-- An administrative request is a job of the store, which begins with the test of ADMIN. -/
theorem storeJob_eq_asAdmin {r : Request} (hr : isAdministrative r = true) (q : Sender) (s : State) :
    isStoreJob r = true ∧ ∃ run, storeJob q r s = s.asAdmin q r.code run := by
  cases r <;> cases hr <;> exact ⟨rfl, _, rfl⟩

/-- The target port of the administrative requests that name one. -/
def targetPort? : Request → Option Byte
  | .setRights target _ => some target
  | .forceClose target => some target
  | .stats target _ => some target
  | _ => none

/-- The job of a request with a target port tests ADMIN, then the port number. -/
theorem storeJob_eq_withPort {r : Request} {target : Byte} (hr : targetPort? r = some target) (q : Sender) (s : State) :
    isStoreJob r = true ∧ ∃ run, storeJob q r s = s.asAdmin q r.code (s.withPort q r.code target run) := by
  cases r <;> cases hr <;> exact ⟨rfl, _, rfl⟩

/-! ### The refusals (R163, R165, R172) -/

/-- A port without ADMIN is refused NO_RIGHT. -/
theorem exec_noRight {s : State} {q : Sender} {r : Request} (hr : isAdministrative r = true) (h : s.serves q r)
    (ha : (s.rightsOf q.port).admin = false) : exec (requestCommand q r) s = .next (s.refuses q r .noRight) := by
  obtain ⟨hjob, run, hrun⟩ := storeJob_eq_asAdmin hr q (s.takeRequest q.port)
  exact exec_refused hjob h (hrun.trans (State.asAdmin_without_admin (s := s.takeRequest q.port) ha _ _))

/-- A port number above 7 is refused RANGE. -/
theorem exec_port_out_of_range {s : State} {q : Sender} {r : Request} {target : Byte}
    (hr : targetPort? r = some target) (h : s.administers q r) (ht : 8 ≤ target.toNat) :
    exec (requestCommand q r) s = .next (s.refuses q r .range) := by
  obtain ⟨hserves, hadmin⟩ := h
  obtain ⟨hjob, run, hrun⟩ := storeJob_eq_withPort hr q (s.takeRequest q.port)
  refine exec_refused hjob hserves ?_
  rw [hrun, State.asAdmin_of_admin (s := s.takeRequest q.port) hadmin, State.withPort_out_of_range ht]

/-- A FORCE_CLOSE of the own port, or of a session that is not OPEN, is refused RANGE (R165). -/
theorem jobForceClose_refused {s : State} {q : Sender} {target : Byte} {p : Port}
    (ha : (s.rightsOf q.port).admin = true) (ht : target.toNat = p.val)
    (hp : p = q.port ∨ (s.port p).session.state ≠ .opened) :
    jobForceClose q target s = s.complete q .forceClose (.refuse .range) := by
  unfold jobForceClose
  rw [State.asAdmin_of_admin ha, State.withPort_of_port ht]
  by_cases own : p = q.port
  · exact if_pos own
  · exact (if_neg own).trans (if_pos (hp.resolve_left own))

/-- A mark above 2048 is refused RANGE (R172). -/
theorem jobSetPoolMark_refused {s : State} {q : Sender} {mark : Half} (ha : (s.rightsOf q.port).admin = true)
    (hm : 2048 < mark.toNat) : jobSetPoolMark q mark s = s.complete q .setPoolMark (.refuse .range) := by
  unfold jobSetPoolMark
  rw [State.asAdmin_of_admin ha]
  exact if_pos hm

/-- Settles O47: the job begins with the tests of ADMIN and of the port number, and then tests its own fields. -/
theorem administrativeRefusals : Obligations.AdministrativeRefusals := by
  intro s q
  refine ⟨fun r hserves ha hr => exec_noRight ?_ hserves ha,
    fun r target h ht hr => exec_port_out_of_range ?_ h ht, fun target p ⟨hserves, ha⟩ ht hp => ?_,
    fun mark ⟨hserves, ha⟩ hm => ?_⟩
  · rcases hr with ⟨_, _, rfl⟩ | ⟨_, rfl⟩ | rfl | rfl | ⟨_, _, rfl⟩ | ⟨_, rfl⟩ | rfl <;> rfl
  · rcases hr with ⟨_, rfl⟩ | rfl | ⟨_, rfl⟩ <;> rfl
  · refine exec_refused (r := .forceClose target) rfl hserves ?_
    refine jobForceClose_refused (s := s.takeRequest q.port) ha ht ?_
    rwa [State.takeRequest_session]
  · exact exec_refused (r := .setPoolMark mark) rfl hserves
      (jobSetPoolMark_refused (s := s.takeRequest q.port) ha hm)

/-! ### SET_RIGHTS (R122, R164) -/

theorem mem_allPorts (p : Port) : p ∈ allPorts := by
  revert p
  decide

/-- The last holder of ADMIN holds it, and no other port does. -/
theorem State.onlyAdmin_iff (s : State) (p : Port) :
    s.onlyAdmin p = true ↔ (s.rightsOf p).admin = true ∧ ∀ x, x ≠ p → (s.rightsOf x).admin = false := by
  unfold State.onlyAdmin
  simp only [Bool.and_eq_true, List.all_eq_true, Bool.or_eq_true, beq_iff_eq, Bool.not_eq_true', or_iff_not_imp_left]
  exact and_congr_right fun _ => ⟨fun h x => h x (mem_allPorts x), fun h x _ => h x⟩

theorem jobSetRights_lastAdmin {s : State} {q : Sender} {target : Byte} {p : Port} {rights : Rights}
    (ha : (s.rightsOf q.port).admin = true) (ht : target.toNat = p.val) (hp : s.onlyAdmin p = true)
    (hr : rights.admin = false) :
    jobSetRights q target rights s = s.complete q .setRights (.refuse .lastAdmin) := by
  unfold jobSetRights
  rw [State.asAdmin_of_admin ha, State.withPort_of_port ht]
  exact if_pos (by simp [hp, hr])

theorem jobSetRights_replaces {s : State} {q : Sender} {target : Byte} {p : Port} {rights : Rights}
    (ha : (s.rightsOf q.port).admin = true) (ht : target.toNat = p.val)
    (hp : s.onlyAdmin p = false ∨ rights.admin = true) :
    jobSetRights q target rights s = (s.setRights p rights).complete q .setRights (.ok (.rights p rights)) := by
  unfold jobSetRights
  rw [State.asAdmin_of_admin ha, State.withPort_of_port ht]
  exact if_neg (by rcases hp with hp | hp <;> simp [hp])

/-! ### FORCE_CLOSE (R136, R165) -/

theorem jobForceClose_ends {s : State} {q : Sender} {target : Byte} {p : Port}
    (ha : (s.rightsOf q.port).admin = true) (ht : target.toNat = p.val) (hp : p ≠ q.port)
    (ho : (s.port p).session.state = .opened) (hf : ∀ f ∈ (s.port p).unsent, f.purpose ≠ .partResetReply) :
    jobForceClose q target s = (s.setPort p ((s.port p).endAbruptly .forced)).complete q .forceClose
      (.ok (.forced p (s.port p).session.number)) := by
  unfold jobForceClose
  rw [State.asAdmin_of_admin ha, State.withPort_of_port ht, if_neg hp, if_neg (not_not.mpr ho),
    (s.endAbruptly_eq .forced p).1 hf]

/-- Settles O48: SET_RIGHTS refuses for the last holder of ADMIN alone, and FORCE_CLOSE replaces its target's port. -/
theorem setRightsAndForceClose : Obligations.SetRightsAndForceClose := by
  intro s q target p ht
  refine ⟨fun rights ⟨hserves, ha⟩ => ⟨fun hp hx hr => ?_, fun h => ?_⟩, fun ⟨hserves, ha⟩ hp ho hf => ?_⟩
  · exact exec_refused (r := .setRights target rights) rfl hserves
      (jobSetRights_lastAdmin (s := s.takeRequest q.port) ha ht ((State.onlyAdmin_iff _ p).mpr ⟨hp, hx⟩) hr)
  · have replaceable : s.onlyAdmin p = false ∨ rights.admin = true := by
      rw [← or_assoc] at h
      refine h.imp_left fun other => Bool.eq_false_iff.mpr fun only => ?_
      obtain ⟨hp, hx⟩ := (s.onlyAdmin_iff p).mp only
      rcases other with other | ⟨x, hne, other⟩
      · simp [hp] at other
      · simp [hx x hne] at other
    exact exec_replied (r := .setRights target rights) rfl hserves
      (jobSetRights_replaces (s := s.takeRequest q.port) ha ht replaceable) (State.serves.opened hserves)
      (Nat.le_refl _)
  · have other := s.takeRequest_port_ne hp
    have job := jobForceClose_ends (s := s.takeRequest q.port) ha ht hp (by rwa [other]) (by rwa [other])
    rw [other] at job
    refine exec_replied (r := .forceClose target) rfl hserves job ?_ (Nat.le_refl _)
    rw [State.port_setPort_ne _ _ hp]
    exact State.serves.opened hserves

/-! ### READ_ALERTS, STATS, SET_POOL_MARK and PART_RESET (R171, R172, R174, R175) -/

theorem jobReadAlerts_reads {s : State} {q : Sender} (ha : (s.rightsOf q.port).admin = true) :
    jobReadAlerts q s = (s.setAlerts (s.alerts.drop 4) 0).complete q .readAlerts
      (.ok (.alerts (s.alerts.take 4) (s.alerts.length - 4) s.dropped)) := by
  unfold jobReadAlerts
  rw [State.asAdmin_of_admin ha, List.length_drop]
  rfl

theorem jobStats_reports {s : State} {q : Sender} {target : Byte} {p : Port} (ha : (s.rightsOf q.port).admin = true)
    (ht : target.toNat = p.val) (clear : Bool) :
    jobStats q target clear s =
      (if clear then s.counts p fun _ => Statistics.reset else s).complete q .stats (.ok (s.statsData p)) := by
  unfold jobStats
  rw [State.asAdmin_of_admin ha, State.withPort_of_port ht]
  rfl

theorem jobSetPoolMark_writes {s : State} {q : Sender} {mark : Half} (ha : (s.rightsOf q.port).admin = true)
    (hm : mark.toNat ≤ 2048) : jobSetPoolMark q mark s =
      State.complete { s with poolMark := mark.toNat } q .setPoolMark (.ok (.mark mark.toNat s.free)) := by
  unfold jobSetPoolMark
  rw [State.asAdmin_of_admin ha]
  exact if_neg (Nat.not_lt.mpr hm)

/-- Reset pending is set beside the reply, whose frame brings the reset about (R175). -/
theorem jobPartReset_pends {s : State} {q : Sender} (ha : (s.rightsOf q.port).admin = true)
    (ho : (s.port q.port).session.state = .opened) : jobPartReset q s =
      State.repliedFor { s with resetPending := true } .partResetReply q 0x56#8 ⟨.ok, Flags.clear, .none⟩ := by
  unfold jobPartReset
  rw [State.asAdmin_of_admin ha, State.completeFor_opened ho]
  rfl

theorem State.takeRequest_stats (s : State) (p p' : Port) :
    ((s.takeRequest p).port p').stats = (s.port p').stats := by
  simp only [State.takeRequest, State.port, State.setPort, vector_get_set]
  split
  · next h => subst h; rfl
  · rfl

/-- As a request is taken, every port's statistics and session are as they were. -/
theorem State.takeRequest_statsData (s : State) (p p' : Port) : (s.takeRequest p).statsData p' = s.statsData p' := by
  unfold State.statsData
  rw [State.takeRequest_session, State.takeRequest_stats]

/-- A change of statistics leaves every session. -/
theorem State.counts_session (s : State) (p p' : Port) (f : Statistics → Statistics) :
    ((s.counts p f).port p').session = (s.port p').session := by
  show ((s.setPort p { s.port p with stats := f (s.port p).stats }).port p').session = _
  rw [State.port_setPort]
  split
  · next h => rw [h]
  · rfl

/-- Settles O50: each job changes its own fields and replies once. -/
theorem alertsStatisticsMarkAndReset : Obligations.AlertsStatisticsMarkAndReset := by
  intro s q
  refine ⟨fun ⟨hserves, ha⟩ => ?_, ?_, fun mark ⟨hserves, ha⟩ hm => ?_, fun ⟨hserves, ha⟩ => ?_⟩
  · exact exec_replied (r := .readAlerts) rfl hserves (jobReadAlerts_reads (s := s.takeRequest q.port) ha)
      (State.serves.opened hserves) (Nat.le_refl _)
  · rintro target p ht _ rfl
    have job := fun ha clear => jobStats_reports (s := s.takeRequest q.port) (q := q) ha ht clear
    simp only [State.takeRequest_statsData] at job
    refine ⟨fun ⟨hserves, ha⟩ => ?_, fun ⟨hserves, ha⟩ => ?_⟩
    · exact exec_replied_at_once (r := .stats target false) rfl hserves (job ha false)
    · refine exec_replied (r := .stats target true) rfl hserves (job ha true) ?_ (Nat.le_refl _)
      exact (congrArg Session.state (State.counts_session _ _ _ _)).trans (State.serves.opened hserves)
  · exact exec_replied (r := .setPoolMark mark) rfl hserves (jobSetPoolMark_writes (s := s.takeRequest q.port) ha hm)
      (State.serves.opened hserves) (Nat.le_refl _)
  · have job := jobPartReset_pends (s := s.takeRequest q.port) ha (State.serves.opened hserves)
    refine (exec_served_of_free_le (r := .partReset) rfl hserves ?_).trans (congrArg _ job)
    show s.free ≤ (jobPartReset q _).free
    rw [job]
    exact Nat.le_refl _

end Sys2Proof.Machine
end

section
/-! PROOFS. The state after reset (O3): it is what a reset of the part leaves, and the reset values give the laws. -/

namespace Sys2Proof.Machine

/-- The state after reset is what a reset of the part makes of itself: its inputs are at mark and its straps low
(R147, R176; log 13). -/
theorem State.reset_eq_resetPart : State.reset = State.reset.resetPart := by
  have ports : State.reset.ports = mapVector (fun x => PortState.reset x.rxd) State.reset.ports :=
    vector_ext_get fun p => by
      have port : State.reset.ports.get p = PortState.reset .mark := by
        show (Vector.replicate 8 (PortState.reset .mark))[p.val] = _
        rw [Vector.getElem_replicate]
      rw [mapVector_get, port]
      rfl
  unfold State.resetPart
  rw [← ports]
  rfl

/-- Where every slot is empty under a stamp of 1 and no label is given, the laws of the table and of locks hold. -/
theorem State.hasResetValues.objectLaws {s : State} (h : s.hasResetValues) : s.tableLaw ∧ s.lockLaw := by
  obtain ⟨-, -, -, slot, labelMap, -⟩ := h
  have object : ∀ i r, s.object i ≠ some r := fun i r => by
    unfold State.object
    rw [slot]
    nofun
  refine ⟨⟨fun i => ?_, fun i r ho => absurd ho (object i r), fun l i => ?_,
    fun i j r r' l ho => absurd ho (object i r)⟩, fun i r holder count damaged ho => absurd ho (object i r)⟩
  · rw [slot]
    decide
  · rw [labelMap]
    exact iff_of_false List.not_mem_nil fun ⟨r, ho, _⟩ => object i r ho

/-- Settles O3: the values and the laws are those of every reset of the part. -/
theorem resetStateHasSpecValuesAndLaws : Obligations.ResetStateHasSpecValuesAndLaws := by
  have values : State.reset.hasResetValues := State.reset_eq_resetPart ▸ State.resetPart_hasResetValues _
  obtain ⟨table, lock⟩ := values.objectLaws
  refine ⟨values, rfl, ?_, ?_, lock, table, ?_⟩ <;> rw [State.reset_eq_resetPart]
  · exact State.resetPart_poolLaw _
  · exact (State.waitLaw_iff_sound _).mpr (State.resetPart_sound _)
  · exact State.resetPart_adminLaw _

end Sys2Proof.Machine
end

section
/-! PROOFS. STORE_CLEAR (O49): what the clearing of one slot does, the slots cleared one after another, and the whole
job, its two counts included. -/

namespace Sys2Proof.Machine

/-! ### The verification of a slot's record (R10) -/

theorem State.verify_slot_ne (s : State) {i j : SlotNo} (hj : j ≠ i) : (s.verify i).state.slot j = s.slot j := by
  unfold State.verify
  split
  · split
    · exact s.quarantine_slot_ne _ hj
    · rfl
  · rfl

/-- Quarantine takes every waiter of the object off the lists, and a record that passes leaves them. -/
theorem State.verify_waits (s : State) (i : SlotNo) :
    (s.verify i).state.waits = s.waits ∨ (s.verify i).state.waits = s.waits.filter fun w => !w.waitsOn i := by
  unfold State.verify
  split
  · split
    · exact .inr (s.quarantine_waits i _)
    · exact .inl rfl
  · exact .inl rfl

theorem State.verify_queue_eq_none {s : State} {j : SlotNo} (h : s.queue j = none) (i : SlotNo) :
    (s.verify i).state.queue j = none := by
  unfold State.verify
  split
  · split
    · rw [State.quarantine_queue]
      split
      · next hij => rw [hij.2, h]; rfl
      · exact h
    · exact h
  · exact h

/-! ### One slot cleared (R166, R168) -/

/-- The slot holds an object. -/
def State.occupied (s : State) (i : SlotNo) : Bool := (s.object i).isSome

theorem State.occupied_iff {s : State} {i : SlotNo} : s.occupied i = true ↔ s.object i ≠ none :=
  Option.isSome_iff_ne_none

theorem State.clearedSlot_of_empty {s : State} {i : SlotNo} (h : s.object i = none) : s.clearedSlot i = s := by
  unfold State.clearedSlot
  rw [h]

/-- An object is verified and then deleted. -/
theorem State.clearedSlot_of_object {s : State} {i : SlotNo} {r : ObjectRecord} (h : s.object i = some r) :
    s.clearedSlot i = (s.verify i).state.deleted i := by
  unfold State.clearedSlot
  rw [h, (State.verify_eq h).1]
  dsimp only
  split <;> rfl

/-- The model's step of STORE_CLEAR: the slot cleared, an object and its waiters counted (R167). -/
theorem clearSlot_eq (x : ClearRun) (i : SlotNo) : clearSlot x i =
    ⟨x.state.clearedSlot i, x.objects + (x.state.occupied i).toNat,
      x.waiters + if x.state.occupied i then (x.state.deletionWaiters i).length else 0⟩ := by
  unfold clearSlot State.occupied
  split
  · next r ho => rw [State.clearedSlot_of_object ho, State.deleteObject_eq_deleted, ho]; rfl
  · next ho => rw [State.clearedSlot_of_empty ho, ho]; rfl

theorem State.clearedSlot_slot_ne (s : State) {i j : SlotNo} (hj : j ≠ i) : (s.clearedSlot i).slot j = s.slot j := by
  cases ho : s.object i with
  | none => rw [State.clearedSlot_of_empty ho]
  | some r => rw [State.clearedSlot_of_object ho, State.slot_deleted, if_neg (Ne.symm hj), s.verify_slot_ne hj]

theorem State.clearedSlot_slot (s : State) (i : SlotNo) : (s.clearedSlot i).slot i =
    if s.object i = none then s.slot i else ⟨nextStamp (s.slot i).stamp, none⟩ := by
  cases ho : s.object i with
  | none => rw [State.clearedSlot_of_empty ho, if_pos rfl]
  | some r =>
    rw [State.clearedSlot_of_object ho, State.slot_deleted, if_pos rfl, (s.verify_continues i).stamp, if_neg nofun]

theorem State.clearedSlot_occupied_ne (s : State) {i j : SlotNo} (hj : j ≠ i) :
    (s.clearedSlot i).occupied j = s.occupied j := by
  unfold State.occupied State.object
  rw [s.clearedSlot_slot_ne hj]

theorem State.deleted_waits (s : State) (i : SlotNo) :
    (s.deleted i).waits = s.waits.filter fun w => !w.waitsOn i := by
  show (State.dismissAll .deleted s (s.waitList (.object i) ++ s.poolPuts i)).waits = _
  rw [State.dismissAll_waits, State.erase_waiters]

/-- Every waiter of an object leaves the lists as its slot is cleared, whether quarantine or the deletion removes it. -/
theorem State.clearedSlot_waits (s : State) (i : SlotNo) :
    (s.clearedSlot i).waits = s.waits.filter fun w => !(s.occupied i && w.waitsOn i) := by
  unfold State.occupied
  cases ho : s.object i with
  | none => simp [State.clearedSlot_of_empty ho]
  | some r =>
    rw [State.clearedSlot_of_object ho, State.deleted_waits]
    rcases s.verify_waits i with h | h <;> simp [h]

theorem State.clearedSlot_vacates {s : State} {i : SlotNo} (h : s.object i ≠ none) : (s.clearedSlot i).vacated i := by
  obtain ⟨r, ho⟩ := Option.ne_none_iff_exists'.mp h
  rw [State.clearedSlot_of_object ho]
  exact State.deleted_vacated _ i

theorem State.clearedSlot_vacated {s : State} {i : SlotNo} (h : s.vacated i) (j : SlotNo) :
    (s.clearedSlot j).vacated i := by
  obtain ⟨hq, hw⟩ := h
  refine ⟨?_, fun w hm => ?_⟩
  · cases ho : s.object j with
    | none => rwa [State.clearedSlot_of_empty ho]
    | some r =>
      rw [State.clearedSlot_of_object ho, State.queue_deleted, State.verify_queue_eq_none hq, ite_self]
  · rw [State.clearedSlot_waits] at hm
    exact hw w (List.mem_of_mem_filter hm)

/-- What STORE_CLEAR leaves of the settings of the part. -/
def State.settings (s : State) : Vector Rights 8 × Nat × Word := (s.rights, s.poolMark, s.timebase)

theorem State.clearedSlot_settings (s : State) (i : SlotNo) : (s.clearedSlot i).settings = s.settings := by
  cases ho : s.object i with
  | none => rw [State.clearedSlot_of_empty ho]
  | some r =>
    rw [State.clearedSlot_of_object ho, ← State.deleteObject_eq_deleted]
    unfold State.settings State.verify
    rw [ho]
    dsimp only
    split <;> simp

theorem State.clearedSlot_portsContinue (s : State) (i : SlotNo) : s.PortsContinue (s.clearedSlot i) := by
  cases ho : s.object i with
  | none => rw [State.clearedSlot_of_empty ho]; exact fun p => .refl _
  | some r =>
    rw [State.clearedSlot_of_object ho]
    exact (s.verify_continues i).portsContinue.trans (State.deleted_port_continues _ i)

/-! ### The slots in ascending order (R166) -/

/-- Every slot cleared, in ascending order. -/
def State.cleared (s : State) : State := (List.finRange 256).foldl State.clearedSlot s

theorem clearSlots_state (s : State) : (clearSlots s).state = s.cleared :=
  (List.foldl_hom ClearRun.state fun x i => (congrArg ClearRun.state (clearSlot_eq x i)).symm).symm

theorem State.clearedSlots_slot_beside {l : List SlotNo} {i : SlotNo} (hi : i ∉ l) (s : State) :
    (l.foldl State.clearedSlot s).slot i = s.slot i := by
  refine List.foldlRecOn (motive := fun t : State => t.slot i = s.slot i) l _ rfl fun t ht k hk => ?_
  have hne : i ≠ k := fun h => hi (h ▸ hk)
  rw [t.clearedSlot_slot_ne hne, ht]

/-- Every object is gone and the stamp of its slot has advanced; an empty slot is left (R6, R166). -/
theorem State.cleared_slot (s : State) (i : SlotNo) : s.cleared.slot i =
    if s.object i = none then s.slot i else ⟨nextStamp (s.slot i).stamp, none⟩ := by
  obtain ⟨before, after, split, hb, ha⟩ := allSlots_split i
  have cleared : s.cleared = allSlots.foldl State.clearedSlot s := rfl
  have reached := State.clearedSlots_slot_beside hb s
  rw [cleared, split, List.foldl_append, List.foldl_cons, State.clearedSlots_slot_beside ha, State.clearedSlot_slot]
  unfold State.object
  rw [reached]

/-- Nothing waits on a slot that held an object, and no accounting stands there. -/
theorem State.cleared_vacated {s : State} {i : SlotNo} (h : s.object i ≠ none) : s.cleared.vacated i := by
  obtain ⟨before, after, split, hb, -⟩ := allSlots_split i
  have cleared : s.cleared = allSlots.foldl State.clearedSlot s := rfl
  rw [cleared, split, List.foldl_append, List.foldl_cons]
  refine List.foldlRecOn (motive := fun t : State => t.vacated i) after _ (State.clearedSlot_vacates ?_)
    fun t ht k _ => State.clearedSlot_vacated ht k
  unfold State.object
  rwa [State.clearedSlots_slot_beside hb]

theorem State.cleared_settings (s : State) : s.cleared.settings = s.settings :=
  foldl_keeps State.clearedSlot_settings _ s

theorem State.cleared_portsContinue (s : State) : s.PortsContinue s.cleared :=
  List.foldlRecOn (motive := s.PortsContinue) _ _ (fun _ => .refl _)
    fun t ht i _ => ht.trans (t.clearedSlot_portsContinue i)

/-! ### The two counts (R167; log 22) -/

/-- The waiters of the slots cleared leave the lists, and all others stay in order. -/
theorem State.clearedSlots_waits {l : List SlotNo} (hl : l.Nodup) (s : State) :
    (l.foldl State.clearedSlot s).waits =
      s.waits.filter fun w => !l.any fun i => s.occupied i && w.waitsOn i := by
  induction l generalizing s with
  | nil => simp
  | cons a l ih =>
    obtain ⟨ha, hl⟩ := List.nodup_cons.mp hl
    rw [List.foldl_cons, ih hl, State.clearedSlot_waits, List.filter_filter]
    refine List.filter_congr fun w _ => ?_
    have others : (l.any fun i => (s.clearedSlot a).occupied i && w.waitsOn i) =
        l.any fun i => s.occupied i && w.waitsOn i := by
      rw [Bool.eq_iff_iff, List.any_eq_true, List.any_eq_true]
      refine exists_congr fun i => and_congr_right fun hi => ?_
      have hne : i ≠ a := fun h => ha (h ▸ hi)
      rw [s.clearedSlot_occupied_ne hne]
    rw [others, List.any_cons, Bool.not_or, Bool.and_comm]

/-- A waiter of an object waits on some occupied slot. -/
theorem State.waitsOnObject_eq_any (s : State) (w : WaitRecord) :
    s.waitsOnObject w = allSlots.any fun i => s.occupied i && w.waitsOn i := by
  rw [Bool.eq_iff_iff, List.any_eq_true]
  unfold State.waitsOnObject State.occupied WaitRecord.waitsOn
  cases w.list <;> simp [allSlots]

theorem State.cleared_waits (s : State) : s.cleared.waits = s.waits.filter fun w => !s.waitsOnObject w := by
  simp only [State.waitsOnObject_eq_any]
  exact State.clearedSlots_waits (List.nodup_finRange 256) s

/-- The waiters that a deletion removes are those that wait on the slot. -/
theorem State.deletionWaiters_length (s : State) (i : SlotNo) :
    (s.deletionWaiters i).length = (s.waits.filter fun w => w.waitsOn i).length := by
  have own : ∀ w : WaitRecord, (w.list == .object i && w.waitsOn i) = (w.list == .object i) := fun w => by
    unfold WaitRecord.waitsOn
    cases w.list <;> simp
  have pool : ∀ w : WaitRecord, (!w.list == .object i && w.waitsOn i) = (w.list == .pool && w.target.slot == i) :=
    fun w => by
      rw [Bool.eq_iff_iff, WaitRecord.waitsOn]
      cases w.list <;> simp
  unfold State.deletionWaiters State.waitList State.poolPuts
  rw [List.length_append, List.length_eq_length_filter_add (l := s.waits.filter fun w => w.waitsOn i)
    fun w => w.list == .object i, List.filter_filter, List.filter_filter]
  simp only [own, pool]

/-- A waiter counted is a waiter gone. -/
theorem clearSlot_waiters (x : ClearRun) (i : SlotNo) :
    (clearSlot x i).waiters + (clearSlot x i).state.waits.length = x.waiters + x.state.waits.length := by
  rw [clearSlot_eq]
  dsimp only
  rw [State.clearedSlot_waits, State.deletionWaiters_length]
  cases x.state.occupied i with
  | false => simp
  | true =>
    have parts := List.length_eq_length_filter_add (l := x.state.waits) fun w => w.waitsOn i
    simp only [Bool.true_and, if_true]
    omega

/-- The waiters of objects are counted. -/
theorem clearSlots_waiters (s : State) : (clearSlots s).waiters = (s.waits.filter s.waitsOnObject).length := by
  have run : clearSlots s = allSlots.foldl clearSlot ⟨s, 0, 0⟩ := rfl
  have counted := foldl_keeps (g := fun x : ClearRun => x.waiters + x.state.waits.length) clearSlot_waiters allSlots
    ⟨s, 0, 0⟩
  have parts := List.length_eq_length_filter_add (l := s.waits) s.waitsOnObject
  rw [← run, clearSlots_state, State.cleared_waits] at counted
  dsimp only at counted
  omega

/-- The occupied slots are counted. -/
theorem clearSlots_objects (s : State) : (clearSlots s).objects = (allSlots.filter s.occupied).length := by
  have counted := foldl_counts (f := clearSlot) (inv := fun _ => True) (count := ClearRun.objects)
    (counted := fun x i => x.state.occupied i) (fun x i _ => ⟨trivial, by rw [clearSlot_eq], fun k hk => by
      rw [clearSlot_eq]
      exact x.state.clearedSlot_occupied_ne hk⟩) (List.nodup_finRange 256) (x := ⟨s, 0, 0⟩) trivial
  exact counted.trans (Nat.zero_add _)

/-! ### The job (R166, R167) -/

/-- What a STORE_CLEAR is replied: the number of objects and of their waiters (R167). -/
def State.clearAnswer (s : State) : Answer :=
  .ok (.cleared (allSlots.filter s.occupied).length (s.waits.filter s.waitsOnObject).length)

/-- The state after a STORE_CLEAR, with the POOL_LOW alert that may follow it. -/
def State.afterClear (s : State) (q : Sender) : State :=
  s.endsJob ((s.takeRequest q.port).cleared.poolService.replied q 0x52#8 s.clearAnswer)

theorem State.cleared_poolService_portsContinue (s : State) : s.PortsContinue s.cleared.poolService :=
  s.cleared_portsContinue.trans s.cleared.poolService_continues.portsContinue

theorem jobStoreClear_eq {s : State} {q : Sender} (ha : (s.rightsOf q.port).admin = true)
    (ho : (s.port q.port).session.state = .opened) :
    jobStoreClear q s = s.cleared.poolService.replied q 0x52#8 s.clearAnswer := by
  unfold jobStoreClear
  rw [State.asAdmin_of_admin ha, clearSlots_state, clearSlots_objects, clearSlots_waiters]
  refine State.complete_opened ?_ _ _
  rwa [(s.cleared_poolService_portsContinue q.port).session]

theorem exec_storeClear {s : State} {q : Sender} (h : s.administers q .storeClear) :
    exec (.storeClear q) s = .next (s.afterClear q) := by
  obtain ⟨hserves, ha⟩ := h
  have job := jobStoreClear_eq (s := s.takeRequest q.port) ha (State.serves.opened hserves)
  exact (exec_served (r := .storeClear) rfl hserves).trans (congrArg (fun u => Host.Outcome.next (s.endsJob u)) job)

/-! ### The state after the job -/

theorem State.replied_continues (s : State) (q : Sender) (code : Byte) (x : Answer) :
    s.Continues (s.replied q code x) :=
  State.setPort_continues ⟨rfl, rfl, rfl, rfl, rfl, rfl, rfl, [⟨some q.tag, s.replyNow q code x, .plain⟩], rfl⟩

/-- An empty slot stays as it is while the services of a job run. -/
theorem State.Continues.slot_of_empty {s t : State} (h : s.Continues t) {i : SlotNo} (ho : s.object i = none) :
    t.slot i = s.slot i := by
  have eta : s.slot i = ⟨(s.slot i).stamp, none⟩ := congrArg (Slot.mk (s.slot i).stamp) ho
  exact (h.slot_empty eta).trans eta.symm

theorem State.cleared_object (s : State) (i : SlotNo) : s.cleared.object i = none := by
  unfold State.object
  rw [State.cleared_slot]
  split
  · assumption
  · rfl

section
variable (s : State) (q : Sender)

/-- Behind the clearing of the slots stand the services of the job alone. -/
theorem State.afterClear_continues : (s.takeRequest q.port).cleared.Continues (s.afterClear q) :=
  ((State.poolService_continues _).trans (State.replied_continues _ q _ _)).trans (State.endsJob_continues s _)

theorem State.afterClear_slot (i : SlotNo) : (s.afterClear q).slot i =
    if s.object i = none then s.slot i else ⟨nextStamp (s.slot i).stamp, none⟩ :=
  ((s.afterClear_continues q).slot_of_empty (State.cleared_object _ i)).trans ((s.takeRequest q.port).cleared_slot i)

theorem State.afterClear_object (i : SlotNo) : (s.afterClear q).object i = none := by
  unfold State.object
  rw [(s.afterClear_continues q).slot_of_empty (State.cleared_object _ i)]
  exact State.cleared_object _ i

/-- Pool service moves no waiter to a slot that held an object (R86, R166). -/
theorem State.afterClear_waits {w : WaitRecord} (hw : w ∈ (s.afterClear q).waits) {i : SlotNo}
    (h : s.object i ≠ none) : w.waitsOn i = false := by
  unfold State.afterClear at hw
  rw [State.endsJob_waits, State.replied_waits] at hw
  have vacated := State.cleared_vacated (s := s.takeRequest q.port) h
  have served : (s.takeRequest q.port).cleared.poolService.vacated i := poolPasses_vacated _ vacated
  exact served.2 w hw

theorem State.afterClear_settings : (s.afterClear q).settings = s.settings := by
  have cleared := (s.takeRequest q.port).cleared_settings
  unfold State.afterClear
  simpa [State.settings] using cleared

theorem State.afterClear_port (p : Port) : ((s.afterClear q).port p).session = (s.port p).session ∧
    ((s.afterClear q).port p).stats = (s.port p).stats := by
  have continued := (s.takeRequest q.port).cleared_portsContinue.trans (s.afterClear_continues q).portsContinue
  rw [(continued p).session, (continued p).stats, State.takeRequest_session, State.takeRequest_stats]
  exact ⟨rfl, rfl⟩

theorem State.afterClear_queue : ((s.afterClear q).port q.port).queue =
    ((s.takeRequest q.port).cleared.poolService.port q.port).queue ++
      [⟨some q.tag, (s.takeRequest q.port).cleared.poolService.replyNow q 0x52#8 s.clearAnswer, .plain⟩] := by
  unfold State.afterClear
  rw [State.endsJob_port, State.replied_queue]

end

/-- With no object left, the law of the table leaves no label on the map (R7). -/
theorem State.tableLaw.labelMap_eq_nil {s : State} (h : s.tableLaw) (ho : ∀ i, s.object i = none) :
    s.labelMap = [] := by
  obtain ⟨-, -, map, -⟩ := h
  refine List.eq_nil_iff_forall_not_mem.mpr fun (l, i) hm => ?_
  obtain ⟨r, hr, -⟩ := (map l i).mp hm
  rw [ho] at hr
  cases hr

/-- With no object left, the law of the pool leaves no accounting and every entry free (R66, R67). -/
theorem State.poolLaw.emptied {s : State} (h : s.poolLaw) (ho : ∀ i, s.object i = none) :
    s.free = 2048 ∧ ∀ i, s.queue i = none := by
  obtain ⟨conserved, -, -, placed⟩ := h
  have queue : ∀ i, s.queue i = none := fun i => by
    by_contra hn
    obtain ⟨r, hr, -⟩ := (placed i).mp (Option.isSome_iff_ne_none.mpr hn)
    rw [ho] at hr
    cases hr
  have queues : s.queues = Vector.replicate 256 none := vector_ext_get fun i => by
    show s.queue i = (Vector.replicate 256 (none : Option QueueAccount))[i.val]
    rw [queue, Vector.getElem_replicate]
  have held : s.entriesHeld = 0 := by
    unfold State.entriesHeld
    rw [queues]
    exact sum_map_replicate 256 rfl
  exact ⟨by omega, queue⟩

/-- Settles O49: the job is the clearing of every slot, pool service and one reply; the laws of the table and of the
pool, which the command keeps, then say that nothing is left. -/
theorem storeClearEmptiesStore : Obligations.StoreClearEmptiesStore := by
  intro s q h
  have run := exec_storeClear h
  have emptied := s.afterClear_object q
  obtain ⟨rights, mark, time⟩ := by simpa only [State.settings, Prod.mk.injEq] using s.afterClear_settings q
  refine ⟨_, run, s.afterClear_slot q, fun w hw i hi => ?_, fun table => ?_, fun pool => ?_, rights, mark, time,
    s.afterClear_port q, _, _, s.afterClear_queue q, rfl, rfl, rfl, rfl, rfl, rfl, rfl⟩
  · simpa [WaitRecord.waitsOn] using s.afterClear_waits q hw hi
  · exact ((exec_keepsObjectLaws run).table table).labelMap_eq_nil emptied
  · exact (pool.exec run).emptied emptied

end Sys2Proof.Machine
end

section
/-! PROOFS. Decode of encode (O22): what is read back from the bytes of a wider field and of a named value, then the
fields of every request, and the whole body. -/

namespace Sys2Proof

/-! ### Wider fields and handles (R179) -/

@[simp] theorem halfOfBytes_halfBytes (x : Half) : halfOfBytes (x.extractLsb' 8 8) (x.extractLsb' 0 8) = x :=
  Machine.append_halfBytes x

@[simp] theorem wordOfBytes_wordBytes (x : Word) :
    wordOfBytes (x.extractLsb' 24 8) (x.extractLsb' 16 8) (x.extractLsb' 8 8) (x.extractLsb' 0 8) = x := by
  have upper : (x.extractLsb' 24 8 ++ x.extractLsb' 16 8 : BitVec 16) = x.extractLsb' 16 16 :=
    BitVec.extractLsb'_append_extractLsb'_eq_extractLsb' rfl
  have lower : (x.extractLsb' 16 16 ++ x.extractLsb' 8 8 : BitVec 24) = x.extractLsb' 8 24 :=
    BitVec.extractLsb'_append_extractLsb'_eq_extractLsb' rfl
  have whole : (x.extractLsb' 8 24 ++ x.extractLsb' 0 8 : BitVec 32) = x.extractLsb' 0 32 :=
    BitVec.extractLsb'_append_extractLsb'_eq_extractLsb' rfl
  unfold wordOfBytes
  rw [upper, lower, whole, BitVec.extractLsb'_eq_self]

/-- The byte of the slot stands as `simp` writes it. -/
@[simp] theorem handleOf_bytes (h : Handle) : handleOf (BitVec.ofFin h.slot) h.stamp = h := rfl

/-! ### The codes of named values (R179, R181) -/

@[simp] theorem flagOf_flagByte (f : Bool) : flagOf (flagByte f) = some f := by
  cases f <;> rfl

@[simp] theorem orderOf_byte (order : Order) : orderOf order.byte = some order := by
  cases order <;> rfl

@[simp] theorem queueEndOf_byte (side : QueueEnd) : queueEndOf side.byte = some side := by
  cases side <;> rfl

@[simp] theorem relationOf_byte (relation : Relation) : relationOf relation.byte = some relation := by
  cases relation <;> rfl

@[simp] theorem rightsOf_byte (rights : Rights) : rightsOf rights.byte = some rights := by
  obtain ⟨create, delete, admin⟩ := rights
  cases create <;> cases delete <;> cases admin <;> rfl

@[simp] theorem targetTagOf_ofNat (t : Tag) : targetTagOf (BitVec.ofNat 8 t.val) = some t := by
  have value : (BitVec.ofNat 8 t.val).toNat = t.val := Nat.mod_eq_of_lt (by omega)
  simp only [targetTagOf, value, t.isLt, dite_true]

@[simp] theorem labelOf_of_fits {label : Label} (h : label.fits = true) : labelOf label = some label := if_pos h

/-- The slot field is two bytes, and they spell the choice (R181). -/
theorem SlotChoice.bytes_spell (slot : SlotChoice) :
    ∃ hi lo, slot.bytes = [hi, lo] ∧ slotChoiceOf hi lo = some slot := by
  cases slot with
  | slot n =>
    have value : (BitVec.ofNat 8 n.val).toNat = n.val := Nat.mod_eq_of_lt n.isLt
    exact ⟨_, _, rfl, by simp only [slotChoiceOf, value, if_true]⟩
  | any => exact ⟨_, _, rfl, rfl⟩

/-- The kind parameters are six bytes, and with the kind byte they spell the kind (R182). -/
theorem KindParams.encode_spells (kind : KindParams) : ∃ p0 p1 p2 p3 p4 p5, kind.encode.2 = [p0, p1, p2, p3, p4, p5] ∧
    kindParamsOf kind.encode.1 p0 p1 p2 p3 p4 = some kind := by
  cases kind with
  | cell initial order => exact ⟨_, _, _, _, _, _, rfl, by simp [encode, kindParamsOf]⟩
  | queue limit reserve => exact ⟨_, _, _, _, _, _, rfl, by simp [encode, kindParamsOf]⟩
  | lock => exact ⟨_, _, _, _, _, _, rfl, rfl⟩

/-- Operands A and B are eight bytes, and with the operation code they spell the operation (R182). -/
theorem CellOp.encode_spells (op : CellOp) : ∃ a0 a1 a2 a3 b0 b1 b2 b3,
    op.encode.2 = [a0, a1, a2, a3, b0, b1, b2, b3] ∧ cellOpOf op.encode.1 a0 a1 a2 a3 b0 b1 b2 b3 = some op := by
  cases op <;> exact ⟨_, _, _, _, _, _, _, _, rfl, by simp [encode, cellOpOf]⟩

end Sys2Proof

namespace Sys2Proof.Machine

/-! ### The fields of a request and the whole body (R177, R180 to R182) -/

/-- The fields of a CREATE whose label fits spell it. -/
theorem requestOf_create_fields (slot : SlotChoice) (access : Byte) (isScoped : Bool) (kind : KindParams)
    {label : Label} (h : label.fits = true) :
    requestOf .create (Request.create slot access isScoped kind label).fields =
      some (.create slot access isScoped kind label) := by
  obtain ⟨hi, lo, bytes, hslot⟩ := slot.bytes_spell
  obtain ⟨p0, p1, p2, p3, p4, p5, params, hkind⟩ := kind.encode_spells
  simp [Request.fields, requestOf, bytes, params, hslot, hkind, h]

/-- The fields of a CELL_OP spell it. -/
theorem requestOf_cell_fields (h : Handle) (op : CellOp) (guard : Guard) (wait : Half) :
    requestOf .cellOp (Request.cell h op guard wait).fields = some (.cell h op guard wait) := by
  obtain ⟨a0, a1, a2, a3, b0, b1, b2, b3, operands, hop⟩ := op.encode_spells
  simp [Request.fields, requestOf, Handle.bytes, wordBytes, halfBytes, operands, hop]

/-- The fields of every well-formed request spell it. -/
theorem requestOf_fields {r : Request} (h : r.wellFormed = true) : requestOf r.code r.fields = some r := by
  cases r
  case create slot access isScoped kind label => exact requestOf_create_fields slot access isScoped kind h
  case cell handle op guard wait => exact requestOf_cell_fields handle op guard wait
  case openSession silence label =>
    have fits : label.fits = true := h
    simp [Request.code, Request.fields, requestOf, halfBytes, fits]
  case find label =>
    have fits : label.fits = true := h
    simp [Request.code, Request.fields, requestOf, fits]
  case nop | identify | queryTags | closeSession | storeClear | readAlerts | partReset => rfl
  case cancel | setRights | forceClose | stats => simp [Request.code, Request.fields, requestOf]
  case setPoolMark mark => simp [Request.code, Request.fields, requestOf, halfBytes]
  case delete | describe | flush | release | restore | setAccess | setOrder =>
    simp [Request.code, Request.fields, requestOf, Handle.bytes]
  case take | peek | setQueueLimits | acquire =>
    simp [Request.code, Request.fields, requestOf, Handle.bytes, halfBytes]
  case put handle side value wait =>
    simp [Request.code, Request.fields, requestOf, Handle.bytes, wordBytes, halfBytes]

/-- Header byte 1 holds tag and generation without loss (R177). -/
theorem packTagGen_toNat (t : Tag) (g : Gen) : (packTagGen t g).toNat = t.val * 64 + g.val :=
  Nat.mod_eq_of_lt (by omega)

/-- Settles O22: header byte 1 gives tag and generation back, and the fields of each request spell that request. -/
theorem decodeOfEncodeIsTheRequest : Obligations.DecodeOfEncodeIsTheRequest := by
  intro t g r h
  obtain ⟨tag, gen⟩ := header_eq (packTagGen_toNat t g)
  have decoded := decodeBody_request (requestOf_fields h) (packTagGen t g)
  rwa [tag, gen] at decoded

end Sys2Proof.Machine
end

section
/-! PROOFS. The step (O1): one equation for each form of the queue of commands. -/

namespace Sys2Proof.Machine

/-- A step with a command at the front of the queue. -/
theorem step_of_pending_cons {s : State} {c : Instr} {rest : List Instr} (h : s.pending = c :: rest) :
    step s = exec c { s with pending := rest } := by
  simp only [step, h]

/-- A step with an empty queue (log 3). -/
theorem step_of_pending_nil {s : State} (h : s.pending = []) : step s = .next s := by
  simp only [step, h]

/-- Settles O1: the two forms of the queue, each by its equation of the step. -/
theorem stepRunsFrontCommand : Obligations.StepRunsFrontCommand :=
  ⟨fun _ _ _ front => step_of_pending_cons front, fun _ empty => step_of_pending_nil empty⟩

end Sys2Proof.Machine
end
